-- ==== Sys2Proof/Word.lean ====
section
/-! DEFINITION. The words of Thor2023 (00_scope R10, R14): bytes, addresses, register values, register numbers. -/

namespace Sys2Proof

/-- A byte, 8 bits. -/
abbrev Byte := BitVec 8
/-- A virtual address, 64 bits (20_memory R100; 92_eei_decisions D16). -/
abbrev Addr := BitVec 64
/-- A general register's value, 128 bits (10_state R20). -/
abbrev Word := BitVec 128
/-- A register number: one of r0 to r63, or of v0 to v31 in a field read as a vector register (10_state R20, R29). -/
abbrev Reg := BitVec 6

end Sys2Proof
end

