-- ==== Sys2Proof/Config.lean ====
section
/-! DEFINITION. What an implementation of Thor2023 fixes (00_scope R8), as plain data, and the values the spec leaves
free: opaque constants, of which no proof can know anything (log 5). -/

namespace Sys2Proof

/-- A rounding mode of binary floating point (42_float R403). -/
inductive RoundMode where
  | nearestEven | towardZero | up | down | nearestAway
deriving DecidableEq, Repr

/-- RESET_MODE (70_reset R830): `zero` starts at address 0, `vector` reads MSP and the pc from addresses 0 and 8. -/
inductive ResetMode where
  | zero | vector
deriving DecidableEq, Repr

/-- TRANSLATE (20_memory R150): `flat` is pa = va with Bus Error only, `tlb` the whole rule. -/
inductive Translate where
  | flat | tlb
deriving DecidableEq, Repr

/-- MEMORY_MODEL (20_memory R170): `sc` is sequential consistency. Only another agent can tell the settings apart: the steps
of one core, which make its accesses in program order, read this nowhere (log 39). -/
inductive MemoryModel where
  | sc | other
deriving DecidableEq, Repr

/-- FP (42_float R404): `ieee` is correctly rounded IEEE 754 arithmetic, `other` some other oracle (log 58). -/
inductive FpOracle where
  | ieee | other
deriving DecidableEq, Repr

/-- An arithmetic operation the FP oracle supplies (42_float R404). -/
inductive FpOp where
  | add | mul | div
deriving DecidableEq, Repr

/-- BMAP_FN (40_integer R323): `scatter` is the spec's reading of the map, `other` some other function (log 48). -/
inductive BmapFn where
  | scatter | other
deriving DecidableEq, Repr

/-- The cryptographic instructions whose pages give no operation (48_vector R667 to R670). -/
inductive CryptoOp where
  | sha512sum0 | sha512sum1 | sm3p0 | sm3p1
  | aes64ds | aes64dsm | aes64es | aes64esm | sm4ed | sm4ks
deriving DecidableEq, Repr

/-- What a hardware page-table walk needs and no register or text gives (20_memory R155): the physical address of the hash
table, NPTG, how many groups are probed, whether hash entries are SHPTEs, whether page entries are SPTEs, and the stride of
the entries in a table page, in bytes. -/
structure WalkTables where
  hashBase  : Nat
  nptg      : Nat
  probes    : Nat
  smallHash : Bool
  smallPte  : Bool
  stride    : Nat
deriving DecidableEq, Repr

/-- WALK (20_memory R155): no walker, the walk of the spec's tables, or some other search (log 13). -/
inductive Walker where
  | absent
  | tables (t : WalkTables)
  | other
deriving DecidableEq, Repr

/-- The rights of a page, cached in its TLB entry on first use (20_memory R124, R125, R145). -/
structure Rights where
  pl  : BitVec 8
  key : BitVec 24
  n   : Bool
deriving DecidableEq, Repr

/-- One TLB entry (20_memory R145). `rights` is the cached page management information and its valid bit. -/
structure TlbEntry where
  pte    : BitVec 96
  vpn    : BitVec 96
  count  : BitVec 6
  lru    : BitVec 3
  rights : Option Rights
deriving DecidableEq, Repr

/-- The registers of one region (20_memory R120): the address of its page management table, of its card table, and the
four attribute words, user in the low 32 bits, machine in the high 32. -/
structure Region where
  pmt : BitVec 128
  cta : BitVec 128
  at_ : BitVec 128
deriving DecidableEq, Repr

/-- The implementation parameters of 00_scope R8. -/
structure Params where
  coreno        : BitVec 128
  maxVl         : BitVec 8
  icacheBytes   : BitVec 32
  dcacheBytes   : BitVec 32
  features      : BitVec 128
  /-- VA_BITS (20_memory R100); beyond 64 it takes no part, an effective address being 64 bits. -/
  vaBits        : Nat
  /-- PA_BITS (20_memory R100, R147), up to the 78 bits that a page number and an offset make, or more (log 55). -/
  paBits        : Nat
  memoryModel   : MemoryModel
  fp            : FpOracle
  bmap          : BmapFn
  div0Traps     : Bool
  chkVector     : BitVec 9
  resetMode     : ResetMode
  hasDecimal    : Bool
  fcrRm         : RoundMode
  translate     : Translate
  tlbMissVector : BitVec 9
  /-- WALK and, within it, NPTG. -/
  walk          : Walker
  /-- PIC_BASE, PIT1_BASE and PIT2_BASE: physical addresses (60_exceptions R800, R812). -/
  picBase       : Nat
  pit1Base      : Nat
  pit2Base      : Nat
  pitNTimer     : Nat
  pitBits       : Nat
  /-- PHYS_MAP: the claimed physical addresses, as ranges [first, end). -/
  physMap       : List (Nat × Nat)
  /-- REGIONS: the address range [start, end) of each region. -/
  regionRange   : Vector (Nat × Nat) 8
  /-- REGIONS: the contents of the region table at reset. -/
  regionReset   : Vector Region 8
  /-- TLB_RESET: (way * 1024 + index, PTE part, VPN part), in any order. -/
  tlbReset      : List (Nat × BitVec 96 × BitVec 96)
  /-- VB_REGNO(m), m = 0 to 3. -/
  vbRegno       : Vector (Option (BitVec 14)) 4
  avRegno       : Option (BitVec 14)
  avReset       : BitVec 64
  /-- The instructions of 48_vector R667 to R670 that CRYPTO_FN supplies (R672; log 14). -/
  crypto        : List CryptoOp
  /-- The lowest bit of Entry Num and of AL in the TLB control register, which no source prints (20_memory R149; log
  33). -/
  tlbEntryLo    : Nat
  tlbAlLo       : Nat
deriving DecidableEq, Repr

/-- The defaults 00_scope R8 recommends; where it recommends none, log 4. -/
def Params.default : Params where
  coreno := 1
  maxVl := 64
  icacheBytes := 32768
  dcacheBytes := 65536
  features := 0
  vaBits := 64
  paBits := 64
  memoryModel := .sc
  fp := .ieee
  bmap := .scatter
  div0Traps := false
  chkVector := 66
  resetMode := .zero
  hasDecimal := false
  fcrRm := .nearestEven
  translate := .flat
  tlbMissVector := 12
  walk := .absent
  picBase := 0xFFFFFFFFFEE20000
  pit1Base := 0xFFFFFFFFFEE40000
  pit2Base := 0xFFFFFFFFFEE50000
  pitNTimer := 8
  pitBits := 48
  physMap := [(0, 2 ^ 64)]
  regionRange := Vector.replicate 8 (0, 2 ^ 64)
  regionReset := Vector.replicate 8 ⟨0, 0, 0⟩
  tlbReset := []
  vbRegno := Vector.replicate 4 none
  avRegno := none
  avReset := 0
  crypto := []
  tlbEntryLo := 19
  tlbAlLo := 30

/-- A page that has a translation (20_memory R126): that of the TLB entry in slot `slot` (way * 1024 + index; in way 4, page
`page` of the super page), or the one the page tables give a virtual address in an address space. -/
inductive MmuPage where
  | entry (slot : Nat) (page : BitVec 10)
  | table (asid : BitVec 12) (va : Addr)
deriving DecidableEq, Repr

/-- One write the MMU makes on its own to the page management table (20_memory R126): for the page `page`, M is set when
`setM`, and AccessCount becomes `accessCount`. -/
structure MmuMove where
  page        : MmuPage
  setM        : Bool
  accessCount : BitVec 32
deriving DecidableEq, Repr

namespace Config

/-- Free: how much M_TICK grows at a step beyond 1 (70_reset R850; log 6). -/
opaque tickExtra (draw : Nat) : Nat
/-- Free: the quotient of a division by zero at operand width w (40_integer R337; log 7). -/
opaque divZeroQuotient (draw : Nat) (w : Nat) : BitVec w
/-- Free: the remainder of a division by zero at operand width w (40_integer R337; log 7). -/
opaque divZeroRemainder (draw : Nat) (w : Nat) : BitVec w
/-- Free: sign and payload of the quiet NaN an operation returns (42_float R404; log 8). -/
opaque nanBits (draw : Nat) : BitVec 128
/-- Free: the value a read of M_SEED draws (10_state R61; log 9). -/
opaque seed (draw : Nat) : BitVec 64
/-- Free: the way, 0 to 3, that a refill or an automatic TLB update picks (20_memory R148; log 10). -/
opaque tlbWay (draw : Nat) : BitVec 2
/-- Free: whether a software TLB write picks the way itself, where S_PTBR.AL2 and the AL field of the TLB's control register
disagree (20_memory R148, R149; log 56). -/
opaque tlbAuto (draw : Nat) : Bool
/-- Free: whether a fetch of a byte stored to since the last instruction-cache invalidate sees the old byte (20_memory
R176; log 11). -/
opaque fetchOld (draw : Nat) (pa : Nat) : Bool
/-- Free: whether a word of the CSR format with Vc = 1 is a reserved encoding (49_modifiers R725) or the same as with Vc = 0
(30_encoding R242; log 61). -/
opaque csrVcReserved : Bool
/-- Free: the page management table writes of the MMU before a step (20_memory R126; log 12). -/
opaque mmuMoves (draw : Nat) : List MmuMove
/-- Free: what a walker other than the spec's finds (20_memory R155; log 13), over memory, S_PTBR, the ASID and the virtual
address: the PTE and VPN parts of the entry. -/
opaque walk (mem : List (Nat × BitVec 8)) (ptbr : BitVec 128) (asid : BitVec 12) (va : BitVec 64) :
  Option (BitVec 96 × BitVec 96)
/-- Free: the result of an FP oracle other than IEEE arithmetic (42_float R404; log 58). -/
opaque fpResult (op : FpOp) (rm : RoundMode) (a b : BitVec 128) : BitVec 128
/-- Free: a BMAP_FN other than the spec's reading (40_integer R323; log 48). -/
opaque bmapResult (a : BitVec 128) (map : BitVec 64) : BitVec 128
/-- Free: CRYPTO_FN, a partial function of the operation and the operand values (48_vector R672), for an operation of R669 or
R670 that it supplies; those of R667 and R668 have their formulas (log 14). -/
opaque cryptoFn (op : CryptoOp) (a b : BitVec 128) : Option (BitVec 128)

end Config
end Sys2Proof
end

