-- ==== Sys2Proof/Syntax.lean ====
section
/-! DEFINITION. The syntax of Thor2023: the operand records of each format (30_encoding R263) and `Instr`, one
constructor per row of spec/opcode_table.json. Fields that the spec names and gives no effect are kept, so that no bit
of an encoding is lost; fields drawn unused are not (30_encoding R251). -/

namespace Sys2Proof

/-- Operand size, Sz3 codes 0 to 4 (30_encoding R214): 8, 16, 32, 64, 128 bits. -/
inductive Size where
  | b | w | t | o | h
deriving DecidableEq, Repr

/-- Floating-point precision, codes 1 to 4 (42_float R401): half, single, double, quad. -/
inductive Prec where
  | h | s | d | q
deriving DecidableEq, Repr

/-- The rounding-mode field Rm3 (42_float R403): codes 0 to 4, and 7 for the float control register. -/
inductive RmField where
  | ne | tz | up | dn | na | fcr
deriving DecidableEq, Repr

/-- (Vc, Vb) of a register format (30_encoding R241, 41_vector R381): (0,0) scalar; (0,1) Ra and Rt vector, Rb scalar;
(1,0) Rb, Ra and Rt vector. -/
inductive VBits where
  | scalar | vs | vv
deriving DecidableEq, Repr

/-- (Vc, Vb) of the indexed memory format (47_memory_ops R587): scalar; the data register a vector; the data and the
index registers vectors. -/
inductive MVec where
  | scalar | data | gather
deriving DecidableEq, Repr

/-- The mask byte (30_encoding R240). -/
structure MaskByte where
  svm : Bool
  vm  : Reg
deriving DecidableEq, Repr

/-- The postfixes of one instruction (30_encoding R230, R231, R236): type-0 word, type-1 word, the two type-2 words, and
the REGS list. -/
structure Tail where
  w0   : Option (BitVec 32)
  w1   : Option (BitVec 32)
  w2   : Option (BitVec 32 × BitVec 32)
  regs : Option (BitVec 64)
deriving DecidableEq, Repr

/-- No postfix. -/
def Tail.empty : Tail := ⟨none, none, none, none⟩

/-- What may follow the base word of a format with a V bit: the mask byte and the postfixes. -/
structure Ext where
  mask : Option MaskByte
  tail : Tail
deriving DecidableEq, Repr

/-- Neither a mask byte nor a postfix. -/
def Ext.empty : Ext := ⟨none, Tail.empty⟩

/-- R2 format (30_encoding R220), also the register form of SHIFT (45_shift R500). `sw` is iw[31] where it swaps. -/
structure R2 where
  rt : Reg
  st : Bool
  ra : Reg
  sa : Bool
  rb : Reg
  sb : Bool
  sw : Bool
  vec : VBits
  size : Size
deriving DecidableEq, Repr

/-- The R2 words with an 8-bit immediate (40_integer R326, 43_string_block R467). -/
structure R2I where
  rt : Reg
  st : Bool
  ra : Reg
  sa : Bool
  imm : BitVec 8
  vec : Bool
  size : Size
deriving DecidableEq, Repr

/-- R1 format (30_encoding R207). -/
structure R1 where
  rt : Reg
  st : Bool
  ra : Reg
  sa : Bool
  vec : VBits
  size : Size
deriving DecidableEq, Repr

/-- RI format (30_encoding R221). `sw` is iw[31] where it swaps. -/
structure RI where
  rt : Reg
  st : Bool
  ra : Reg
  sa : Bool
  imm : BitVec 15
  vec : Bool
  sw : Bool
  size : Size
deriving DecidableEq, Repr

/-- RTD and RTS, register form (46_flow_control R556, R557). -/
structure RtdR where
  lr : BitVec 2
  rt : Reg
  st : Bool
  ra : Reg
  sa : Bool
  rb : Reg
  sb : Bool
  size : Size
deriving DecidableEq, Repr

/-- RTD and RTS, immediate form (46_flow_control R556, R557): the immediate is `imm` times 16. -/
structure RtdI where
  lr : BitVec 2
  rt : Reg
  st : Bool
  ra : Reg
  sa : Bool
  imm : BitVec 11
  size : Size
deriving DecidableEq, Repr

/-- RTE (46_flow_control R558). -/
structure RteOp where
  rt : Reg
  st : Bool
  ra : Reg
  sa : Bool
  arg : BitVec 4
  skip : BitVec 7
  size : Size
deriving DecidableEq, Repr

/-- CSR format, register form (49_modifiers R725). -/
structure CsrR where
  rt : Reg
  st : Bool
  ra : Reg
  sa : Bool
  regno : BitVec 14
  s : Bool
deriving DecidableEq, Repr

/-- CSR format, immediate form (49_modifiers R725). -/
structure CsrI where
  rt : Reg
  st : Bool
  imm : BitVec 7
  regno : BitVec 14
  s : Bool
deriving DecidableEq, Repr

/-- GETVL (48_vector R650): iw[39] and the source fields are unused. -/
structure GetVl where
  rt : Reg
  st : Bool
  s : Bool
deriving DecidableEq, Repr

/-- CHK, register form (40_integer R330). -/
structure ChkR where
  ra : Reg
  sa : Bool
  rb : Reg
  sb : Bool
  rc : Reg
  cn : BitVec 3
  vec : VBits
  size : Size
deriving DecidableEq, Repr

/-- CHKI (40_integer R331). -/
structure ChkI where
  ra : Reg
  sa : Bool
  rb : Reg
  sb : Bool
  imm : BitVec 11
  cn : BitVec 3
  vec : VBits
  size : Size
deriving DecidableEq, Repr

/-- Bit-field format, register form (44_bitfield R480): Rb holds the beginning, Rc the end. -/
structure BitR where
  rt : Reg
  st : Bool
  ra : Reg
  sa : Bool
  rb : Reg
  sb : Bool
  rc : Reg
  vec : VBits
deriving DecidableEq, Repr

/-- Bit-field format, immediate form (44_bitfield R480). -/
structure BitI where
  rt : Reg
  st : Bool
  ra : Reg
  sa : Bool
  first : BitVec 7
  last : BitVec 7
  vec : Bool
deriving DecidableEq, Repr

/-- Shift format, immediate amount (45_shift R500). -/
structure ShI where
  rt : Reg
  st : Bool
  ra : Reg
  sa : Bool
  imm : BitVec 7
  vec : Bool
  size : Size
deriving DecidableEq, Repr

/-- Vector slides by an immediate amount (41_vector R389, R390). -/
structure VshI where
  rt : Reg
  st : Bool
  ra : Reg
  sa : Bool
  imm : BitVec 7
  size : Size
deriving DecidableEq, Repr

/-- Floating-point register format (42_float R400). -/
structure F2 where
  rt : Reg
  st : Bool
  ra : Reg
  sa : Bool
  rb : Reg
  sb : Bool
  vec : VBits
  rm : RmField
  prec : Prec
deriving DecidableEq, Repr

/-- Floating-point one-operand format (42_float R400). -/
structure F1 where
  rt : Reg
  st : Bool
  ra : Reg
  sa : Bool
  vec : VBits
  prec : Prec
deriving DecidableEq, Repr

/-- Floating-point immediate format (30_encoding R223); `st` is the swap bit of FCMPI and FDIVI. -/
structure FI where
  rt : Reg
  st : Bool
  ra : Reg
  sa : Bool
  imm : BitVec 16
  vec : Bool
  prec : Prec
deriving DecidableEq, Repr

/-- FSCALEB, immediate form (42_float R428). -/
structure FScI where
  rt : Reg
  st : Bool
  ra : Reg
  sa : Bool
  imm : BitVec 8
  vec : Bool
  prec : Prec
deriving DecidableEq, Repr

/-- Displacement format (47_memory_ops R582): `rt` is the register loaded or stored, the command, or the group; `sx` is
St or Sa; `vd` the vector bit. -/
structure MemD where
  rt : Reg
  sx : Bool
  rb : Reg
  sb : Bool
  vd : Bool
  ca : BitVec 2
  disp : BitVec 13
deriving DecidableEq, Repr

/-- Indexed format (47_memory_ops R585). -/
structure MemX where
  rt : Reg
  sx : Bool
  rb : Reg
  sb : Bool
  rc : Reg
  sc : Bool
  vec : MVec
  u2 : BitVec 2
  ca : BitVec 2
deriving DecidableEq, Repr

/-- JMP and JSR, form (a) of 46_flow_control R553: `sz` is not used. -/
structure JmpA where
  rt : Reg
  ra : Reg
  imm : BitVec 15
  sz : BitVec 3
deriving DecidableEq, Repr

/-- JMP and JSR, form (b) of 46_flow_control R553. -/
structure JmpB where
  rt : Reg
  op : Bool
  ra : Reg
  imm : BitVec 15
  size : Size
deriving DecidableEq, Repr

/-- JMP and JSR, form (c) of 46_flow_control R553; `scale` has the coding of a size. -/
structure JmpC where
  rt : Reg
  ra : Reg
  rb : Reg
  sb : Bool
  scale : Size
deriving DecidableEq, Repr

/-- JMP and JSR, form (d) of 46_flow_control R553. -/
structure JmpD where
  rt : Reg
  op : Bool
  ra : Reg
  rb : Reg
  sb : Bool
  scale : Size
deriving DecidableEq, Repr

/-- Table jump (46_flow_control R555). -/
structure TabJ where
  rt : Reg
  op : Bool
  ra : Reg
  limit : BitVec 5
  size : Size
deriving DecidableEq, Repr

/-- CMPXCHG (47_memory_ops R614). -/
structure Xchg where
  rt : Reg
  st : Bool
  ra : Reg
  sa : Bool
  rb : Reg
  sb : Bool
  rc : Reg
  sc : Bool
  size : Size
deriving DecidableEq, Repr

/-- STORE_PAIR (47_memory_ops R615). -/
structure Pair where
  ra : Reg
  sa : Bool
  rb : Reg
  sb : Bool
  rc : Reg
  sc : Bool
  disp : BitVec 7
  size : Size
deriving DecidableEq, Repr

/-- Atomic memory operation, register form (47_memory_ops R620). -/
structure AmoR where
  rt : Reg
  st : Bool
  ra : Reg
  sa : Bool
  rb : Reg
  sb : Bool
  aq : Bool
  rl : Bool
  size : Size
deriving DecidableEq, Repr

/-- Atomic memory operation, immediate form (47_memory_ops R620). -/
structure AmoI where
  rt : Reg
  st : Bool
  ra : Reg
  sa : Bool
  imm : BitVec 8
  aq : Bool
  rl : Bool
  size : Size
deriving DecidableEq, Repr

/-- Block format of BCMP, BFND and BMOV (43_string_block R460). -/
structure Blk where
  ra : Reg
  sa : Bool
  rb : Reg
  sb : Bool
  ai : BitVec 2
  bi : BitVec 2
  ca : BitVec 2
  cb : BitVec 2
  vc : Bool
  vb : Bool
  size : Size
deriving DecidableEq, Repr

/-- BSET (43_string_block R466). -/
structure BSetOp where
  ra : Reg
  sa : Bool
  rb : Reg
  sb : Bool
  bi : BitVec 4
  ca : BitVec 2
  vc : Bool
  vb : Bool
  size : Size
deriving DecidableEq, Repr

/-- Branch format B (46_flow_control R530). -/
structure Br where
  rm : Reg
  rn : Reg
  disp : BitVec 17
deriving DecidableEq, Repr

/-- Branch format B with its condition. -/
structure BrC where
  cond : BitVec 4
  rm : Reg
  rn : Reg
  disp : BitVec 17
deriving DecidableEq, Repr

/-- Long branch format B (46_flow_control R530). -/
structure LBr where
  rm : Reg
  rn : Reg
  disp : BitVec 25
deriving DecidableEq, Repr

/-- Long branch format B with its condition. -/
structure LBrC where
  cond : BitVec 4
  rm : Reg
  rn : Reg
  disp : BitVec 25
deriving DecidableEq, Repr

/-- TRAP form 1 (46_flow_control R560). -/
structure TrapR where
  rt : Reg
  ra : Reg
  sa : Bool
  data : BitVec 15
deriving DecidableEq, Repr

/-- TRAP form 2 (46_flow_control R560). -/
structure TrapI where
  rt : Reg
  vec : BitVec 9
  data : BitVec 15
deriving DecidableEq, Repr

/-- PRED (49_modifiers R712). -/
structure PredOp where
  imm : BitVec 16
  rn : Reg
  cond : BitVec 5
deriving DecidableEq, Repr

/-- CARRY (49_modifiers R714). -/
structure CarryOp where
  imm : BitVec 16
  rn : Reg
deriving DecidableEq, Repr

/-- REP (49_modifiers R716). -/
structure RepOp where
  imm : BitVec 15
  d : Bool
  cnt : BitVec 3
  cnd : BitVec 3
deriving DecidableEq, Repr

/-- ATOM (49_modifiers R710). -/
structure AtomOp where
  imm : BitVec 16
  st : Bool
  rt : Reg
  v : Bool
  sz : BitVec 3
deriving DecidableEq, Repr

/-- The instructions, in the order of spec/opcode_table.json. A constructor that carries a whole word `w` is an
instruction the maps name and no page describes (30_encoding R262). -/
inductive Instr where
  /-- BRK (R545). -/
  | brk (t : Tail)
  /-- TRAP__vector_in_Ra (R560). -/
  | trapRa (o : TrapR) (t : Tail)
  /-- TRAP__vector_immediate (R560). -/
  | trapImm (o : TrapI) (t : Tail)
  /-- ADD (R306). -/
  | add (o : R2) (x : Ext)
  /-- SUB (R308). -/
  | sub (o : R2) (x : Ext)
  /-- RTD__register (R556). -/
  | rtdReg (o : RtdR) (t : Tail)
  /-- RTS__register_encoding (R557). -/
  | rtsReg (o : RtdR) (t : Tail)
  /-- CMP (R311). -/
  | cmp (o : R2) (x : Ext)
  /-- CMPS.B (R314). -/
  | cmpsB (o : R2) (x : Ext)
  /-- MUL (R340). -/
  | mul (o : R2) (x : Ext)
  /-- MULU (R342). -/
  | mulu (o : R2) (x : Ext)
  /-- MULSU (R343). -/
  | mulsu (o : R2) (x : Ext)
  /-- DIV (R333). -/
  | div (o : R2) (x : Ext)
  /-- DIVU (R336). -/
  | divu (o : R2) (x : Ext)
  /-- DIVSU (R335). -/
  | divsu (o : R2) (x : Ext)
  /-- AND (R309). -/
  | and (o : R2) (x : Ext)
  /-- NAND (R316). -/
  | nand (o : R2) (x : Ext)
  /-- OR (R317). -/
  | or (o : R2) (x : Ext)
  /-- NOR (R319). -/
  | nor (o : R2) (x : Ext)
  /-- EOR (R320). -/
  | eor (o : R2) (x : Ext)
  /-- ENOR (R322). -/
  | enor (o : R2) (x : Ext)
  /-- MULH (R344). -/
  | mulh (o : R2) (x : Ext)
  /-- MULUH (R345). -/
  | muluh (o : R2) (x : Ext)
  /-- CHRNDX (R467). -/
  | chrndx (o : R2) (x : Ext)
  /-- CHRNDX__immediate (R467). -/
  | chrndxImm (o : R2I) (x : Ext)
  /-- CLMUL (R325). -/
  | clmul (o : R2) (x : Ext)
  /-- CLMUL__immediate (R326). -/
  | clmulImm (o : R2I) (x : Ext)
  /-- MOD (R338). -/
  | mod (o : R2) (x : Ext)
  /-- MODU (R339). -/
  | modu (o : R2) (x : Ext)
  /-- BMAP (R323). -/
  | bmap (o : R2) (x : Ext)
  /-- JMP_d_Ra_Rb (R553). -/
  | jmpIdx (o : JmpC) (t : Tail)
  /-- JMP__d_Ra_Rb (R553). -/
  | jmpIdxInd (o : JmpD) (t : Tail)
  /-- JSR_d_Ra_Rb (R554). -/
  | jsrIdx (o : JmpC) (t : Tail)
  /-- JSR__d_Ra_Rb (R554). -/
  | jsrIdxInd (o : JmpD) (t : Tail)
  /-- SEQ (R348). -/
  | seq (o : R2) (x : Ext)
  /-- SNE (R349). -/
  | sne (o : R2) (x : Ext)
  /-- SLT (R350). -/
  | slt (o : R2) (x : Ext)
  /-- SGE (R351). -/
  | sge (o : R2) (x : Ext)
  /-- SLE (R352). -/
  | sle (o : R2) (x : Ext)
  /-- SGT (R353). -/
  | sgt (o : R2) (x : Ext)
  /-- SLTU (R354). -/
  | sltu (o : R2) (x : Ext)
  /-- SGEU (R355). -/
  | sgeu (o : R2) (x : Ext)
  /-- SLEU (R356). -/
  | sleu (o : R2) (x : Ext)
  /-- SGTU (R357). -/
  | sgtu (o : R2) (x : Ext)
  /-- PRED (R712). -/
  | pred (o : PredOp) (t : Tail)
  /-- CARRY (R714). -/
  | carry (o : CarryOp) (t : Tail)
  /-- REP (R716). -/
  | rep (o : RepOp) (t : Tail)
  /-- ATOM (R710). -/
  | atom (o : AtomOp) (t : Tail)
  /-- ROUND (R720). -/
  | round (imm : BitVec 24) (t : Tail)
  /-- V2BITS (R652). -/
  | v2bits (o : R2) (x : Ext)
  /-- DIF (R262). -/
  | dif (w : BitVec 40) (x : Ext)
  /-- PTRDIF (R262). -/
  | ptrdif (w : BitVec 40) (x : Ext)
  /-- REVBIT__R2_map_position (R262). -/
  | revbitMap (w : BitVec 40) (x : Ext)
  /-- BITS2V (R655). -/
  | bits2v (w : BitVec 40) (x : Ext)
  /-- VEX (R655). -/
  | vex (w : BitVec 40) (x : Ext)
  /-- VEINS (R655). -/
  | veins (w : BitVec 40) (x : Ext)
  /-- VGNDX (R655). -/
  | vgndx (w : BitVec 40) (x : Ext)
  /-- SGEU__map_position_46 (R262). -/
  | sgeuMap (w : BitVec 40) (x : Ext)
  /-- SGTU__map_position_47 (R262). -/
  | sgtuMap (w : BitVec 40) (x : Ext)
  /-- MIN (R262). -/
  | min (w : BitVec 40) (x : Ext)
  /-- MAX (R262). -/
  | max (w : BitVec 40) (x : Ext)
  /-- BMM (R262). -/
  | bmm (w : BitVec 40) (x : Ext)
  /-- MUX (R262). -/
  | mux (w : BitVec 40) (x : Ext)
  /-- AES64KS1I (R671). -/
  | aes64ks1i (w : BitVec 40) (x : Ext)
  /-- AES64KS2 (R671). -/
  | aes64ks2 (w : BitVec 40) (x : Ext)
  /-- SM4ED (R670). -/
  | sm4ed (o : R2) (x : Ext)
  /-- SM4KS (R670). -/
  | sm4ks (o : R2) (x : Ext)
  /-- CNTLZ (R327). -/
  | cntlz (o : R1) (x : Ext)
  /-- CNTLO (R328). -/
  | cntlo (o : R1) (x : Ext)
  /-- CNTPOP (R329). -/
  | cntpop (o : R1) (x : Ext)
  /-- ABS (R305). -/
  | abs (o : R1) (x : Ext)
  /-- SQRT (R347). -/
  | sqrt (o : R1) (x : Ext)
  /-- REVBIT (R346). -/
  | revbit (o : R1) (x : Ext)
  /-- SM3P0 (R668). -/
  | sm3p0 (o : R1) (x : Ext)
  /-- SM3P1 (R668). -/
  | sm3p1 (o : R1) (x : Ext)
  /-- AES64DS (R669). -/
  | aes64ds (o : R1) (x : Ext)
  /-- AES64DSM (R669). -/
  | aes64dsm (o : R1) (x : Ext)
  /-- AES64ES (R669). -/
  | aes64es (o : R1) (x : Ext)
  /-- AES64ESM (R669). -/
  | aes64esm (o : R1) (x : Ext)
  /-- AES64IM (R671). -/
  | aes64im (w : BitVec 40) (x : Ext)
  /-- SHA256SIG0 (R661). -/
  | sha256sig0 (o : R1) (x : Ext)
  /-- SHA256SIG1 (R662). -/
  | sha256sig1 (o : R1) (x : Ext)
  /-- SHA256SUM0 (R663). -/
  | sha256sum0 (o : R1) (x : Ext)
  /-- SHA256SUM1 (R664). -/
  | sha256sum1 (o : R1) (x : Ext)
  /-- SHA512SIG0 (R665). -/
  | sha512sig0 (o : R1) (x : Ext)
  /-- SHA512SIG1 (R666). -/
  | sha512sig1 (o : R1) (x : Ext)
  /-- SHA512SUM0 (R667). -/
  | sha512sum0 (o : R1) (x : Ext)
  /-- SHA512SUM1 (R667). -/
  | sha512sum1 (o : R1) (x : Ext)
  /-- CSRRD (R726). -/
  | csrrd (o : CsrR) (x : Ext)
  /-- CSRRD__immediate (R726). -/
  | csrrdImm (o : CsrI) (x : Ext)
  /-- CSRWR (R726). -/
  | csrwr (o : CsrR) (x : Ext)
  /-- CSRWR__immediate (R726). -/
  | csrwrImm (o : CsrI) (x : Ext)
  /-- CSRRS (R726). -/
  | csrrs (o : CsrR) (x : Ext)
  /-- CSRRS__immediate (R726). -/
  | csrrsImm (o : CsrI) (x : Ext)
  /-- CSRRC (R726). -/
  | csrrc (o : CsrR) (x : Ext)
  /-- CSRRC__immediate (R726). -/
  | csrrcImm (o : CsrI) (x : Ext)
  /-- CSREOR (R726). -/
  | csreor (o : CsrR) (x : Ext)
  /-- CSREOR__immediate (R726). -/
  | csreorImm (o : CsrI) (x : Ext)
  /-- CPUID (R731). -/
  | cpuid (o : CsrR) (x : Ext)
  /-- CPUID__immediate (R731). -/
  | cpuidImm (o : CsrI) (x : Ext)
  /-- GETVL (R650). -/
  | getvl (o : GetVl) (x : Ext)
  /-- SETVL (R651). -/
  | setvl (o : CsrR) (x : Ext)
  /-- SETVL__immediate (R651). -/
  | setvlImm (o : CsrI) (x : Ext)
  /-- ADDI (R307). -/
  | addi (o : RI) (x : Ext)
  /-- RTD__immediate (R556). -/
  | rtdImm (o : RtdI) (t : Tail)
  /-- RTS__immediate_encoding (R557). -/
  | rtsImm (o : RtdI) (t : Tail)
  /-- RTE__unstack_1 (R558). -/
  | rte1 (o : RteOp) (t : Tail)
  /-- RTE__unstack_2 (R558). -/
  | rte2 (o : RteOp) (t : Tail)
  /-- CMPI (R313). -/
  | cmpi (o : RI) (x : Ext)
  /-- MULI (R341). -/
  | muli (o : RI) (x : Ext)
  /-- MULUI (R342). -/
  | mului (o : RI) (x : Ext)
  /-- DIVI (R334). -/
  | divi (o : RI) (x : Ext)
  /-- ANDI (R310). -/
  | andi (o : RI) (x : Ext)
  /-- NANDI (R316). -/
  | nandi (o : RI) (x : Ext)
  /-- ORI (R318). -/
  | ori (o : RI) (x : Ext)
  /-- NORI (R319). -/
  | nori (o : RI) (x : Ext)
  /-- ORF (R431). -/
  | orf (o : RI) (x : Ext)
  /-- EORI (R321). -/
  | eori (o : RI) (x : Ext)
  /-- ENORI (R322). -/
  | enori (o : RI) (x : Ext)
  /-- CHK (R330). -/
  | chk (o : ChkR) (x : Ext)
  /-- CHKI (R331). -/
  | chki (o : ChkI) (x : Ext)
  /-- BMAP__immediate (R324). -/
  | bmapImm (o : RI) (x : Ext)
  /-- FSCALEB (R427). -/
  | fscaleb (o : F2) (x : Ext)
  /-- FSCALEB__immediate (R428). -/
  | fscalebImm (o : FScI) (x : Ext)
  /-- FADD (R411). -/
  | fadd (o : F2) (x : Ext)
  /-- FSUB (R429). -/
  | fsub (o : F2) (x : Ext)
  /-- FCMP (R413). -/
  | fcmp (o : F2) (x : Ext)
  /-- FMUL (R424). -/
  | fmul (o : F2) (x : Ext)
  /-- FDIV (R415). -/
  | fdiv (o : F2) (x : Ext)
  /-- FSEQ (R417). -/
  | fseq (o : F2) (x : Ext)
  /-- FSNE (R418). -/
  | fsne (o : F2) (x : Ext)
  /-- FSLE (R421). -/
  | fsle (o : F2) (x : Ext)
  /-- FSLT (R422). -/
  | fslt (o : F2) (x : Ext)
  /-- FSGE (R419). -/
  | fsge (o : F2) (x : Ext)
  /-- FSGT (R420). -/
  | fsgt (o : F2) (x : Ext)
  /-- FMIN (R433). -/
  | fmin (w : BitVec 40) (x : Ext)
  /-- FMAX (R433). -/
  | fmax (w : BitVec 40) (x : Ext)
  /-- FNXT (R433). -/
  | fnxt (w : BitVec 40) (x : Ext)
  /-- FREM (R433). -/
  | frem (w : BitVec 40) (x : Ext)
  /-- FTRUNC (R430). -/
  | ftrunc (o : F1) (x : Ext)
  /-- FABS (R410). -/
  | fabs (o : F1) (x : Ext)
  /-- FNEG (R426). -/
  | fneg (o : F1) (x : Ext)
  /-- FTOI (R433). -/
  | ftoi (w : BitVec 40) (x : Ext)
  /-- ITOF (R433). -/
  | itof (w : BitVec 40) (x : Ext)
  /-- FSIGN (R433). -/
  | fsign (w : BitVec 40) (x : Ext)
  /-- FSIG (R433). -/
  | fsig (w : BitVec 40) (x : Ext)
  /-- FSQRT (R433). -/
  | fsqrt (w : BitVec 40) (x : Ext)
  /-- FS2D (R433). -/
  | fs2d (w : BitVec 40) (x : Ext)
  /-- FS2Q (R433). -/
  | fs2q (w : BitVec 40) (x : Ext)
  /-- FD2Q (R433). -/
  | fd2q (w : BitVec 40) (x : Ext)
  /-- ISNAN (R433). -/
  | isnan (w : BitVec 40) (x : Ext)
  /-- FINITE (R433). -/
  | finite (w : BitVec 40) (x : Ext)
  /-- FRES (R433). -/
  | fres (w : BitVec 40) (x : Ext)
  /-- FD2S (R433). -/
  | fd2s (w : BitVec 40) (x : Ext)
  /-- FQ2S (R433). -/
  | fq2s (w : BitVec 40) (x : Ext)
  /-- FQ2D (R433). -/
  | fq2d (w : BitVec 40) (x : Ext)
  /-- FCLASS (R433). -/
  | fclass (w : BitVec 40) (x : Ext)
  /-- FMA (R433). -/
  | fma (w : BitVec 40) (t : Tail)
  /-- FADDI (R432). -/
  | faddi (o : FI) (x : Ext)
  /-- FCMPI (R414). -/
  | fcmpi (o : FI) (x : Ext)
  /-- FMULI (R425). -/
  | fmuli (o : FI) (x : Ext)
  /-- FDIVI (R416). -/
  | fdivi (o : FI) (x : Ext)
  /-- CLR (R482). -/
  | clr (o : BitR) (x : Ext)
  /-- CLR__immediate (R482). -/
  | clrImm (o : BitI) (x : Ext)
  /-- SET (R483). -/
  | set (o : BitR) (x : Ext)
  /-- SET__immediate (R483). -/
  | setImm (o : BitI) (x : Ext)
  /-- COM (R484). -/
  | com (o : BitR) (x : Ext)
  /-- COM__immediate (R484). -/
  | comImm (o : BitI) (x : Ext)
  /-- SBX (R485). -/
  | sbx (o : BitR) (x : Ext)
  /-- SBX__immediate (R485). -/
  | sbxImm (o : BitI) (x : Ext)
  /-- EXTU (R486). -/
  | extu (o : BitR) (x : Ext)
  /-- EXTU__immediate (R486). -/
  | extuImm (o : BitI) (x : Ext)
  /-- EXTS (R487). -/
  | exts (o : BitR) (x : Ext)
  /-- EXTS__immediate (R487). -/
  | extsImm (o : BitI) (x : Ext)
  /-- DEP (R488). -/
  | dep (o : BitR) (x : Ext)
  /-- DEP__immediate (R488). -/
  | depImm (o : BitI) (x : Ext)
  /-- BITRR (R262). -/
  | bitrr (w : BitVec 40) (x : Ext)
  /-- ASL (R503). -/
  | asl (o : R2) (x : Ext)
  /-- ASL__immediate (R503). -/
  | aslImm (o : ShI) (x : Ext)
  /-- ASR (R504). -/
  | asr (o : R2) (x : Ext)
  /-- ASR__immediate (R504). -/
  | asrImm (o : ShI) (x : Ext)
  /-- LSL (R505). -/
  | lsl (o : R2) (x : Ext)
  /-- LSL__immediate (R505). -/
  | lslImm (o : ShI) (x : Ext)
  /-- LSLAND (R506). -/
  | lsland (o : R2) (x : Ext)
  /-- LSLAND__immediate (R506). -/
  | lslandImm (o : ShI) (x : Ext)
  /-- LSLOR (R507). -/
  | lslor (o : R2) (x : Ext)
  /-- LSLOR__immediate (R507). -/
  | lslorImm (o : ShI) (x : Ext)
  /-- LSLXOR (R508). -/
  | lslxor (o : R2) (x : Ext)
  /-- LSLXOR__immediate (R508). -/
  | lslxorImm (o : ShI) (x : Ext)
  /-- LSR (R509). -/
  | lsr (o : R2) (x : Ext)
  /-- LSR__immediate (R509). -/
  | lsrImm (o : ShI) (x : Ext)
  /-- ROL (R510). -/
  | rol (o : R2) (x : Ext)
  /-- ROL__immediate (R510). -/
  | rolImm (o : ShI) (x : Ext)
  /-- ROR (R511). -/
  | ror (o : R2) (x : Ext)
  /-- ROR__immediate (R511). -/
  | rorImm (o : ShI) (x : Ext)
  /-- VSHLV (R388). -/
  | vshlv (o : R2) (x : Ext)
  /-- VSHRV (R390). -/
  | vshrv (o : R2) (x : Ext)
  /-- VSHLVI (R389). -/
  | vshlvi (o : VshI) (x : Ext)
  /-- VSHRVI (R390). -/
  | vshrvi (o : VshI) (x : Ext)
  /-- LOAD_d_Rb (R590). -/
  | load (z : Size) (o : MemD) (x : Ext)
  /-- LOAD_d_Rb_Rc_Sc (R590). -/
  | loadX (z : Size) (o : MemX) (x : Ext)
  /-- LOADG_d_Rb (R616). -/
  | loadg (o : MemD) (m : Option (BitVec 8)) (t : Tail)
  /-- LOADG_d_Rb_Rc_Sc (R616). -/
  | loadgX (o : MemX) (m : Option (BitVec 8)) (t : Tail)
  /-- FLOAD_d_Rb (R596). -/
  | fload (p : Prec) (o : MemD) (x : Ext)
  /-- FLOAD_d_Rb_Rc_Sc (R596). -/
  | floadX (p : Prec) (o : MemX) (x : Ext)
  /-- LOADZ_d_Rb (R592). -/
  | loadz (z : Size) (o : MemD) (x : Ext)
  /-- LOADZ_d_Rb_Rc_Sc (R592). -/
  | loadzX (z : Size) (o : MemX) (x : Ext)
  /-- LA_d_Rb (R610). -/
  | la (o : MemD) (x : Ext)
  /-- LA_d_Rb_Rc_Sc (R610). -/
  | laX (o : MemX) (x : Ext)
  /-- STPTR.t_d_Rb (R611). -/
  | stptrT (o : MemD) (x : Ext)
  /-- STPTR.t_d_Rb_Rc_Sc (R611). -/
  | stptrTX (o : MemX) (x : Ext)
  /-- STPTR.o_d_Rb (R611). -/
  | stptrO (o : MemD) (x : Ext)
  /-- STPTR.o_d_Rb_Rc_Sc (R611). -/
  | stptrOX (o : MemX) (x : Ext)
  /-- STPTR.h_d_Rb (R611). -/
  | stptrH (o : MemD) (x : Ext)
  /-- STPTR.h_d_Rb_Rc_Sc (R611). -/
  | stptrHX (o : MemX) (x : Ext)
  /-- CACHE_d_Rb (R612). -/
  | cache (o : MemD) (x : Ext)
  /-- CACHE_d_Rb_Rc_Sc (R612). -/
  | cacheX (o : MemX) (x : Ext)
  /-- STORE_d_Rb (R600). -/
  | store (z : Size) (o : MemD) (x : Ext)
  /-- STORE_d_Rb_Rc_Sc (R600). -/
  | storeX (z : Size) (o : MemX) (x : Ext)
  /-- STOREG_d_Rb (R617). -/
  | storeg (o : MemD) (m : Option (BitVec 8)) (t : Tail)
  /-- STOREG_d_Rb_Rc_Sc (R617). -/
  | storegX (o : MemX) (m : Option (BitVec 8)) (t : Tail)
  /-- FSTORE_d_Rb (R606). -/
  | fstore (p : Prec) (o : MemD) (x : Ext)
  /-- FSTORE_d_Rb_Rc_Sc (R606). -/
  | fstoreX (p : Prec) (o : MemX) (x : Ext)
  /-- JMP_Imm15_Ra (R553). -/
  | jmp (o : JmpA) (t : Tail)
  /-- JMP__Imm15_Ra (R553). -/
  | jmpInd (o : JmpB) (t : Tail)
  /-- JSR_Imm15_Ra (R554). -/
  | jsr (o : JmpA) (t : Tail)
  /-- JSR__Imm15_Ra (R554). -/
  | jsrInd (o : JmpB) (t : Tail)
  /-- BRA___Ra___Limit__table_jump (R555). -/
  | braTable (o : TabJ) (t : Tail)
  /-- BSR___Ra___Limit__table_jump (R555). -/
  | bsrTable (o : TabJ) (t : Tail)
  /-- CMPXCHG (R614). -/
  | cmpxchg (o : Xchg) (x : Ext)
  /-- STORE_PAIR (R615). -/
  | storePair (o : Pair) (x : Ext)
  /-- AMMIN (R626). -/
  | ammin (o : AmoR) (x : Ext)
  /-- AMADD (R621). -/
  | amadd (o : AmoR) (x : Ext)
  /-- AMADD__immediate (R621). -/
  | amaddImm (o : AmoI) (x : Ext)
  /-- AMASL (R623). -/
  | amasl (o : AmoR) (x : Ext)
  /-- AMASL__immediate (R623). -/
  | amaslImm (o : AmoI) (x : Ext)
  /-- AMLSR (R625). -/
  | amlsr (o : AmoR) (x : Ext)
  /-- AMLSR__immediate (R625). -/
  | amlsrImm (o : AmoI) (x : Ext)
  /-- AMAND (R622). -/
  | amand (o : AmoR) (x : Ext)
  /-- AMAND__immediate (R622). -/
  | amandImm (o : AmoI) (x : Ext)
  /-- AMOR (R628). -/
  | amor (o : AmoR) (x : Ext)
  /-- AMOR__immediate (R628). -/
  | amorImm (o : AmoI) (x : Ext)
  /-- AMEOR (R624). -/
  | ameor (o : AmoR) (x : Ext)
  /-- AMEOR__immediate (R624). -/
  | ameorImm (o : AmoI) (x : Ext)
  /-- AMMINU (R627). -/
  | amminu (o : AmoR) (x : Ext)
  /-- AMSWAP (R629). -/
  | amswap (w : BitVec 40) (x : Ext)
  /-- AMMAX (R629). -/
  | ammax (w : BitVec 40) (x : Ext)
  /-- AMMAXU (R629). -/
  | ammaxu (w : BitVec 40) (x : Ext)
  /-- AMCAS (R629). -/
  | amcas (w : BitVec 40) (x : Ext)
  /-- AMSWAP__immediate (R629). -/
  | amswapImm (w : BitVec 40) (x : Ext)
  /-- AMMIN__immediate (R629). -/
  | amminImm (w : BitVec 40) (x : Ext)
  /-- AMMAX__immediate (R629). -/
  | ammaxImm (w : BitVec 40) (x : Ext)
  /-- AMMINU__immediate (R629). -/
  | amminuImm (w : BitVec 40) (x : Ext)
  /-- AMMAXU__immediate (R629). -/
  | ammaxuImm (w : BitVec 40) (x : Ext)
  /-- AMCAS__immediate (R629). -/
  | amcasImm (w : BitVec 40) (x : Ext)
  /-- BCMP (R463). -/
  | bcmp (o : Blk) (x : Ext)
  /-- BFND (R464). -/
  | bfnd (o : Blk) (x : Ext)
  /-- BMOV (R465). -/
  | bmov (o : Blk) (x : Ext)
  /-- BSET (R466). -/
  | bset (o : BSetOp) (x : Ext)
  /-- BEQ (R536). -/
  | beq (o : Br) (t : Tail)
  /-- BNE (R537). -/
  | bne (o : Br) (t : Tail)
  /-- BLT (R538). -/
  | blt (o : Br) (t : Tail)
  /-- BLE (R539). -/
  | ble (o : Br) (t : Tail)
  /-- BGE (R541). -/
  | bge (o : Br) (t : Tail)
  /-- BGT (R542). -/
  | bgt (o : Br) (t : Tail)
  /-- BBC (R550). -/
  | bbc (o : Br) (t : Tail)
  /-- BBS (R551). -/
  | bbs (o : Br) (t : Tail)
  /-- BBC__Imm6 (R550). -/
  | bbcImm (o : Br) (t : Tail)
  /-- BBS__Imm6 (R551). -/
  | bbsImm (o : Br) (t : Tail)
  /-- BLTU (R543). -/
  | bltu (o : Br) (t : Tail)
  /-- BLEU (R544). -/
  | bleu (o : Br) (t : Tail)
  /-- BGEU (R548). -/
  | bgeu (o : Br) (t : Tail)
  /-- BGTU (R549). -/
  | bgtu (o : Br) (t : Tail)
  /-- FBEQ (R564). -/
  | fbeq (o : Br) (t : Tail)
  /-- FBNE (R565). -/
  | fbne (o : Br) (t : Tail)
  /-- FBGT (R566). -/
  | fbgt (o : Br) (t : Tail)
  /-- FBUGT (R567). -/
  | fbugt (o : Br) (t : Tail)
  /-- FBGE (R568). -/
  | fbge (o : Br) (t : Tail)
  /-- FBUGE (R569). -/
  | fbuge (o : Br) (t : Tail)
  /-- FBLT (R570). -/
  | fblt (o : Br) (t : Tail)
  /-- FBULT (R571). -/
  | fbult (o : Br) (t : Tail)
  /-- FBLE (R572). -/
  | fble (o : Br) (t : Tail)
  /-- FBULE (R573). -/
  | fbule (o : Br) (t : Tail)
  /-- FBGL (R574). -/
  | fbgl (o : Br) (t : Tail)
  /-- FBUGL (R575). -/
  | fbugl (o : Br) (t : Tail)
  /-- FBORD (R576). -/
  | fbord (o : Br) (t : Tail)
  /-- FBUN (R577). -/
  | fbun (o : Br) (t : Tail)
  /-- PBcc (R578). -/
  | pbcc (o : BrC) (t : Tail)
  /-- DFBcc (R578). -/
  | dfbcc (o : BrC) (t : Tail)
  /-- BRA (R546). -/
  | bra (disp : BitVec 29) (t : Tail)
  /-- BSR (R547). -/
  | bsr (lr : BitVec 2) (disp : BitVec 29) (t : Tail)
  /-- LBEQ (R561). -/
  | lbeq (o : LBr) (t : Tail)
  /-- LBNE (R561). -/
  | lbne (o : LBr) (t : Tail)
  /-- LBLT (R561). -/
  | lblt (o : LBr) (t : Tail)
  /-- LBLE (R561). -/
  | lble (o : LBr) (t : Tail)
  /-- LBGE (R561). -/
  | lbge (o : LBr) (t : Tail)
  /-- LBGT (R561). -/
  | lbgt (o : LBr) (t : Tail)
  /-- LBBC (R563). -/
  | lbbc (o : LBr) (t : Tail)
  /-- LBBS (R563). -/
  | lbbs (o : LBr) (t : Tail)
  /-- LBBC__Imm6 (R563). -/
  | lbbcImm (o : LBr) (t : Tail)
  /-- LBBS__Imm6 (R563). -/
  | lbbsImm (o : LBr) (t : Tail)
  /-- LBLTU (R561). -/
  | lbltu (o : LBr) (t : Tail)
  /-- LBLEU (R561). -/
  | lbleu (o : LBr) (t : Tail)
  /-- LBGEU (R561). -/
  | lbgeu (o : LBr) (t : Tail)
  /-- LBGTU (R561). -/
  | lbgtu (o : LBr) (t : Tail)
  /-- LFBEQ (R561). -/
  | lfbeq (o : LBr) (t : Tail)
  /-- LFBNE (R561). -/
  | lfbne (o : LBr) (t : Tail)
  /-- LFBGT (R561). -/
  | lfbgt (o : LBr) (t : Tail)
  /-- LFBUGT (R561). -/
  | lfbugt (o : LBr) (t : Tail)
  /-- LFBGE (R561). -/
  | lfbge (o : LBr) (t : Tail)
  /-- LFBUGE (R561). -/
  | lfbuge (o : LBr) (t : Tail)
  /-- LFBLT (R561). -/
  | lfblt (o : LBr) (t : Tail)
  /-- LFBULT (R561). -/
  | lfbult (o : LBr) (t : Tail)
  /-- LFBLE (R561). -/
  | lfble (o : LBr) (t : Tail)
  /-- LFBULE (R561). -/
  | lfbule (o : LBr) (t : Tail)
  /-- LFBGL (R561). -/
  | lfbgl (o : LBr) (t : Tail)
  /-- LFBUGL (R561). -/
  | lfbugl (o : LBr) (t : Tail)
  /-- LFBORD (R561). -/
  | lfbord (o : LBr) (t : Tail)
  /-- LFBUN (R561). -/
  | lfbun (o : LBr) (t : Tail)
  /-- LPBcc (R578). -/
  | lpbcc (o : LBrC) (t : Tail)
  /-- LDFBcc (R578). -/
  | ldfbcc (o : LBrC) (t : Tail)
  /-- LBRA (R562). -/
  | lbra (disp : BitVec 37) (t : Tail)
  /-- LBSR (R562). -/
  | lbsr (lr : BitVec 2) (disp : BitVec 37) (t : Tail)
  /-- DBcc (R552). -/
  | dbcc (o : BrC) (t : Tail)
  /-- DBcc__float_condition (R552). -/
  | dbccFloat (o : BrC) (t : Tail)
  /-- DBcc__posit_condition (R578). -/
  | dbccPosit (o : BrC) (t : Tail)
  /-- DBcc__decimal_float_condition (R578). -/
  | dbccDecimal (o : BrC) (t : Tail)
  /-- PFX0 (R230). -/
  | pfx0 (imm : BitVec 32)
  /-- PFX1 (R230). -/
  | pfx1 (imm : BitVec 32)
  /-- PFX2 (R230). -/
  | pfx2 (imm : BitVec 32)
  /-- REGS (R236). -/
  | regs (list : BitVec 64)
  /-- NOP (R237). -/
  | nop (t : Tail)
  /-- VADD__vector__vector (R385). -/
  | vaddVV (o : R2) (x : Ext)
  /-- VADD__vector__scalar_Rb (R385). -/
  | vaddVS (o : R2) (x : Ext)
  /-- VADD__immediate (R386). -/
  | vaddImm (o : RI) (x : Ext)
  /-- VAND__vector__vector (R387). -/
  | vandVV (o : R2) (x : Ext)
  /-- VAND__vector__scalar_Rb (R387). -/
  | vandVS (o : R2) (x : Ext)
  /-- VAND__immediate (R387). -/
  | vandImm (o : RI) (x : Ext)
deriving DecidableEq, Repr

end Sys2Proof
end

