-- ==== Sys2Proof/WellFormed.lean ====
section
/-! DEFINITION. Well-formed instructions: what an encoding of the spec can say, beyond the ranges of the fields. A word
whose instruction is not well formed is a reserved encoding (30_encoding R250) or another row's. -/

namespace Sys2Proof

/-- A postfix run with a constant in it (30_encoding R231). -/
def Tail.hasConst (t : Tail) : Bool := t.w0.isSome || t.w1.isSome || t.w2.isSome

/-- A field read as a vector register names v0 to v31 (10_state R29). -/
def Reg.isVec (r : Reg) : Bool := r.toNat < 32

/-- The vector registers of a three-register form are v0 to v31; an Rb that a constant replaces is not read. -/
def VBits.regsOk (v : VBits) (rt ra rb : Reg) (t : Tail) : Bool :=
  match v with
  | .scalar => true
  | .vs => rt.isVec && ra.isVec
  | .vv => rt.isVec && ra.isVec && (rb.isVec || t.hasConst)

/-- The sizes .b .w .t .o. -/
def Size.toOcta (z : Size) : Bool := z != .h
/-- The sizes .t .o .h. -/
def Size.fromTetra (z : Size) : Bool := z == .t || z == .o || z == .h
/-- The sizes .o .h. -/
def Size.fromOcta (z : Size) : Bool := z == .o || z == .h
/-- The sizes .b .t of CHRNDX. -/
def Size.isChar (z : Size) : Bool := z == .b || z == .t

def R2.regs (o : R2) (x : Ext) : Bool := o.vec.regsOk o.rt o.ra o.rb x.tail
/-- An R2 word whose bit 31 is no swap bit. -/
def R2.plain (o : R2) (x : Ext) : Bool := o.regs x && !o.sw
def R1.regs (o : R1) : Bool := o.vec == .scalar || (o.rt.isVec && o.ra.isVec)
def R2I.regs (o : R2I) : Bool := !o.vec || (o.rt.isVec && o.ra.isVec)
def RI.regs (o : RI) : Bool := !o.vec || (o.rt.isVec && o.ra.isVec)
def RI.plain (o : RI) : Bool := o.regs && !o.sw
def BitR.regs (o : BitR) : Bool :=
  o.vec == .scalar || (o.rt.isVec && o.ra.isVec && (o.vec == .vs || (o.rb.isVec && o.rc.isVec)))
def BitI.regs (o : BitI) : Bool := !o.vec || (o.rt.isVec && o.ra.isVec)
def ChkR.regs (o : ChkR) : Bool :=
  o.vec == .scalar || (o.ra.isVec && (o.vec == .vs || (o.rb.isVec && o.rc.isVec)))
def ChkI.regs (o : ChkI) : Bool := o.vec == .scalar || (o.ra.isVec && (o.vec == .vs || o.rb.isVec))
def ShI.regs (o : ShI) : Bool := !o.vec || (o.rt.isVec && o.ra.isVec)
def F2.regs (o : F2) (x : Ext) : Bool := o.vec.regsOk o.rt o.ra o.rb x.tail
/-- A floating-point word whose iw[34:32] is no rounding mode. -/
def F2.plain (o : F2) (x : Ext) : Bool := o.regs x && o.rm == .ne
def F1.regs (o : F1) : Bool := o.vec == .scalar || (o.rt.isVec && o.ra.isVec)
def FI.regs (o : FI) : Bool := !o.vec || (o.rt.isVec && o.ra.isVec)
def FScI.regs (o : FScI) : Bool := !o.vec || (o.rt.isVec && o.ra.isVec)
def MemD.regs (o : MemD) : Bool := !o.vd || o.rt.isVec
/-- The vector forms of the indexed format have U2 = 0 (47_memory_ops R587). -/
def MemX.regs (o : MemX) : Bool :=
  o.vec == .scalar || (o.u2 == 0 && o.rt.isVec && (o.vec == .data || o.rc.isVec))
/-- A group number is 0 to 15 (47_memory_ops R616). -/
def Reg.isGroup (r : Reg) : Bool := r.toNat < 16
/-- An address adjustment code is 0, 1 or 2 (43_string_block R461). -/
def adjustOk (c : BitVec 2) : Bool := c != 3
/-- The adjustment codes of BSET (43_string_block R466). -/
def setAdjustOk (c : BitVec 4) : Bool := c.toNat ≤ 5 || 11 ≤ c.toNat
/-- No pair of an ATOM mask is 11 (49_modifiers R710). -/
def atomMaskOk (m : BitVec 16) : Bool := (List.range 8).all fun k => m.extractLsb' (2 * k) 2 != 3
/-- No triple of a ROUND mask is 5 or 6 (49_modifiers R720). -/
def roundMaskOk (m : BitVec 24) : Bool :=
  (List.range 8).all fun k => m.extractLsb' (3 * k) 3 != 5 && m.extractLsb' (3 * k) 3 != 6
/-- Conditions 14 and 15 are no conditions of the B layout (46_flow_control R530). -/
def condOk (c : BitVec 4) : Bool := c.toNat < 14
/-- The word of a map-only row: its constant bits, and bit 8 set exactly when a mask byte follows. -/
def mapWord (mask val : BitVec 40) (w : BitVec 40) (x : Ext) : Bool :=
  (w &&& mask == val) && (w.getLsbD 8 == x.mask.isSome)

/-- The well-formed instructions. -/
def Instr.wf : Instr → Bool
  | .brk _ => true
  | .trapRa o _ => o.rt != 0 || o.ra != 0 || o.sa || o.data != 0
  | .trapImm _ _ => true
  | .add o x => o.plain x && o.vec == .scalar && !o.sb
  | .sub o x => o.plain x && o.sb
  | .rtdReg o _ => o.rt != 0 || o.st
  | .rtsReg o _ => o.rt == 0 && !o.st
  | .cmp o x => o.regs x
  | .cmpsB o x => o.plain x && o.size == .b
  | .mul o x => o.plain x && o.size.toOcta
  | .mulu o x => o.plain x
  | .mulsu o x => o.plain x
  | .div o x => o.plain x && o.size.toOcta
  | .divu o x => o.plain x && o.size.toOcta
  | .divsu o x => o.plain x && o.size.toOcta
  | .and o x => o.plain x && o.vec == .scalar && !o.st
  | .nand o x => o.plain x && o.st
  | .or o x => o.plain x && !o.st
  | .nor o x => o.plain x && o.st
  | .eor o x => o.plain x && !o.st
  | .enor o x => o.plain x && o.st
  | .mulh o x => o.plain x
  | .muluh o x => o.plain x
  | .chrndx o x => o.plain x && o.size.isChar
  | .chrndxImm o _ => o.regs && o.size.isChar
  | .clmul o x => o.plain x
  | .clmulImm o _ => o.regs
  | .mod o x => o.plain x && o.size.toOcta
  | .modu o x => o.plain x && o.size.toOcta
  | .bmap o x => o.plain x
  | .jmpIdx o _ => o.rt == 0
  | .jmpIdxInd o _ => o.rt == 0
  | .jsrIdx o _ => o.rt != 0
  | .jsrIdxInd o _ => o.rt != 0
  | .seq o x => o.plain x && !o.st
  | .sne o x => o.plain x && o.st
  | .slt o x => o.regs x && !o.st
  | .sge o x => o.regs x && o.st
  | .sle o x => o.regs x && !o.st
  | .sgt o x => o.regs x && o.st
  | .sltu o x => o.regs x && !o.st
  | .sgeu o x => o.regs x && o.st
  | .sleu o x => o.regs x && !o.st
  | .sgtu o x => o.regs x && o.st
  | .pred _ _ => true
  | .carry _ _ => true
  | .rep _ _ => true
  | .atom o _ => atomMaskOk o.imm
  | .round imm _ => roundMaskOk imm
  | .v2bits o _ => o.vec == .vs && o.ra.isVec && !o.sw
  | .dif w x => mapWord 0xFC0000001F 0x4000000002 w x
  | .ptrdif w x => mapWord 0xFC0000001F 0x4400000002 w x
  | .revbitMap w x => mapWord 0xFC0000001F 0x4800000002 w x
  | .bits2v w x => mapWord 0xFC0000001F 0xA400000002 w x
  | .vex w x => mapWord 0xFC0000001F 0xA800000002 w x
  | .veins w x => mapWord 0xFC0000001F 0xAC00000002 w x
  | .vgndx w x => mapWord 0xFC0000001F 0xB000000002 w x
  | .sgeuMap w x => mapWord 0xFC0000001F 0xB800000002 w x
  | .sgtuMap w x => mapWord 0xFC0000001F 0xBC00000002 w x
  | .min w x => mapWord 0xFC0000001F 0xC000000002 w x
  | .max w x => mapWord 0xFC0000001F 0xC400000002 w x
  | .bmm w x => mapWord 0xFC0000001F 0xC800000002 w x
  | .mux w x => mapWord 0xFC0000001F 0xCC00000002 w x
  | .aes64ks1i w x => mapWord 0xFC0000001F 0xE000000002 w x
  | .aes64ks2 w x => mapWord 0xFC0000001F 0xE400000002 w x
  | .sm4ed o x => o.plain x
  | .sm4ks o x => o.plain x
  | .cntlz o _ => o.regs && !o.sa && o.size.toOcta
  | .cntlo o _ => o.regs && o.sa && o.size.toOcta
  | .cntpop o _ => o.regs && o.size.toOcta
  | .abs o _ => o.regs
  | .sqrt o _ => o.regs && o.size.toOcta
  | .revbit o _ => o.regs
  | .sm3p0 o _ => o.regs
  | .sm3p1 o _ => o.regs
  | .aes64ds o _ => o.regs
  | .aes64dsm o _ => o.regs
  | .aes64es o _ => o.regs
  | .aes64esm o _ => o.regs
  | .aes64im w x => mapWord 0xFCBF80001F 0x040B000002 w x
  | .sha256sig0 o _ => o.regs && o.size.fromTetra
  | .sha256sig1 o _ => o.regs && o.size.fromTetra
  | .sha256sum0 o _ => o.regs && o.size.fromTetra
  | .sha256sum1 o _ => o.regs && o.size.fromTetra
  | .sha512sig0 o _ => o.regs && o.size.fromOcta
  | .sha512sig1 o _ => o.regs && o.size.fromOcta
  | .sha512sum0 o _ => o.regs
  | .sha512sum1 o _ => o.regs
  | .csrrd o _ => o.regno != 0x50
  | .csrrdImm o _ => o.regno != 0x50
  | .csrwr o _ => o.regno != 0x50
  | .csrwrImm o _ => o.regno != 0x50
  | .csrrs _ _ => true
  | .csrrsImm _ _ => true
  | .csrrc _ _ => true
  | .csrrcImm _ _ => true
  | .csreor _ _ => true
  | .csreorImm _ _ => true
  | .cpuid _ _ => true
  | .cpuidImm _ _ => true
  | .getvl _ _ => true
  | .setvl o _ => o.regno == 0x50
  | .setvlImm o _ => o.regno == 0x50
  | .addi o _ => o.plain && !o.vec
  | .rtdImm o _ => o.rt != 0 || o.st
  | .rtsImm o _ => o.rt == 0 && !o.st
  | .rte1 _ _ => true
  | .rte2 _ _ => true
  | .cmpi o _ => o.regs
  | .muli o _ => o.plain && o.size.toOcta
  | .mului o _ => o.plain
  | .divi o _ => o.regs && o.size.toOcta
  | .andi o _ => o.plain && !o.vec && !o.st
  | .nandi o _ => o.plain && o.st
  | .ori o _ => o.plain && !o.st
  | .nori o _ => o.plain && o.st
  | .orf o _ => o.plain && o.size == .h
  | .eori o _ => o.regs && !o.st
  | .enori o _ => o.regs && o.st
  | .chk o _ => o.regs
  | .chki o _ => o.regs
  | .bmapImm o _ => o.plain
  | .fscaleb o x => o.plain x
  | .fscalebImm o _ => o.regs
  | .fadd o x => o.regs x && !o.sb
  | .fsub o x => o.regs x && o.sb
  | .fcmp o x => o.plain x
  | .fmul o x => o.regs x
  | .fdiv o x => o.regs x
  | .fseq o x => o.plain x && !o.st
  | .fsne o x => o.plain x && o.st
  | .fsle o x => o.plain x
  | .fslt o x => o.plain x
  | .fsge o x => o.plain x
  | .fsgt o x => o.plain x
  | .fmin w x => mapWord 0xF80000001F 0x100000000C w x
  | .fmax w x => mapWord 0xF80000001F 0x180000000C w x
  | .fnxt w x => mapWord 0xF80000001F 0x700000000C w x
  | .frem w x => mapWord 0xF80000001F 0x780000000C w x
  | .ftrunc o _ => o.regs
  | .fabs o _ => o.regs
  | .fneg o _ => o.regs
  | .ftoi w x => mapWord 0xF83F80001F 0x080100000C w x
  | .itof w x => mapWord 0xF83F80001F 0x080180000C w x
  | .fsign w x => mapWord 0xF83F80001F 0x080300000C w x
  | .fsig w x => mapWord 0xF83F80001F 0x080380000C w x
  | .fsqrt w x => mapWord 0xF83F80001F 0x080400000C w x
  | .fs2d w x => mapWord 0xF83F80001F 0x080480000C w x
  | .fs2q w x => mapWord 0xF83F80001F 0x080500000C w x
  | .fd2q w x => mapWord 0xF83F80001F 0x080580000C w x
  | .isnan w x => mapWord 0xF83F80001F 0x080700000C w x
  | .finite w x => mapWord 0xF83F80001F 0x080780000C w x
  | .fres w x => mapWord 0xF83F80001F 0x080B80000C w x
  | .fd2s w x => mapWord 0xF83F80001F 0x080C80000C w x
  | .fq2s w x => mapWord 0xF83F80001F 0x080D00000C w x
  | .fq2d w x => mapWord 0xF83F80001F 0x080D80000C w x
  | .fclass w x => mapWord 0xF83F80001F 0x080F00000C w x
  | .fma w _ => w &&& 0x000000001F == 0x000000000F
  | .faddi o _ => o.regs
  | .fcmpi o _ => o.regs
  | .fmuli o _ => o.regs
  | .fdivi o _ => o.regs
  | .clr o _ => o.regs
  | .clrImm o _ => o.regs
  | .set o _ => o.regs
  | .setImm o _ => o.regs
  | .com o _ => o.regs
  | .comImm o _ => o.regs
  | .sbx o _ => o.regs
  | .sbxImm o _ => o.regs
  | .extu o _ => o.regs
  | .extuImm o _ => o.regs
  | .exts o _ => o.regs
  | .extsImm o _ => o.regs
  | .dep o _ => o.regs
  | .depImm o _ => o.regs
  | .bitrr w x => mapWord 0x00000000FF 0x00000000ED w x
  | .asl o x => o.plain x
  | .aslImm o _ => o.regs
  | .asr o x => o.plain x
  | .asrImm o _ => o.regs
  | .lsl o x => o.plain x
  | .lslImm o _ => o.regs
  | .lsland o x => o.plain x
  | .lslandImm o _ => o.regs
  | .lslor o x => o.plain x
  | .lslorImm o _ => o.regs
  | .lslxor o x => o.plain x
  | .lslxorImm o _ => o.regs
  | .lsr o x => o.plain x
  | .lsrImm o _ => o.regs
  | .rol o x => o.plain x
  | .rolImm o _ => o.regs
  | .ror o x => o.plain x
  | .rorImm o _ => o.regs
  | .vshlv o x => o.plain x && o.vec == .vs
  | .vshrv o x => o.plain x && o.vec == .vs
  | .vshlvi o _ => o.rt.isVec && o.ra.isVec
  | .vshrvi o _ => o.rt.isVec && o.ra.isVec
  | .load _ o _ => o.regs
  | .loadX _ o _ => o.regs
  | .loadg o _ _ => !o.vd && o.rt.isGroup
  | .loadgX o _ _ => o.vec == .scalar && o.rt.isGroup
  | .fload _ o _ => o.regs
  | .floadX _ o _ => o.regs
  | .loadz _ o _ => o.regs
  | .loadzX _ o _ => o.regs
  | .la o _ => !o.vd
  | .laX o _ => o.vec == .scalar
  | .stptrT o _ => !o.vd
  | .stptrTX o _ => o.vec == .scalar
  | .stptrO o _ => !o.vd
  | .stptrOX o _ => o.vec == .scalar
  | .stptrH o _ => !o.vd
  | .stptrHX o _ => o.vec == .scalar
  | .cache o _ => !o.vd
  | .cacheX o _ => o.vec == .scalar
  | .store _ o _ => o.regs
  | .storeX _ o _ => o.regs
  | .storeg o _ _ => !o.vd && o.rt.isGroup
  | .storegX o _ _ => o.vec == .scalar && o.rt.isGroup
  | .fstore _ o _ => o.regs
  | .fstoreX _ o _ => o.regs
  | .jmp o _ => o.rt == 0
  | .jmpInd o _ => o.rt == 0
  | .jsr o _ => o.rt != 0
  | .jsrInd o _ => o.rt != 0
  | .braTable o _ => o.rt == 0
  | .bsrTable o _ => o.rt != 0
  | .cmpxchg o _ => o.size.fromTetra
  | .storePair _ _ => true
  | .ammin o _ => o.size.fromTetra
  | .amadd o _ => o.size.fromTetra
  | .amaddImm o _ => o.size.fromTetra
  | .amasl o _ => o.size.fromTetra
  | .amaslImm o _ => o.size.fromTetra
  | .amlsr o _ => o.size.fromTetra
  | .amlsrImm o _ => o.size.fromTetra
  | .amand o _ => o.size.fromTetra
  | .amandImm o _ => o.size.fromTetra
  | .amor o _ => o.size.fromTetra
  | .amorImm o _ => o.size.fromTetra
  | .ameor o _ => o.size.fromTetra
  | .ameorImm o _ => o.size.fromTetra
  | .amminu o _ => o.size.fromTetra
  | .amswap w x => mapWord 0xF88000001F 0x000000001A w x
  | .ammax w x => mapWord 0xF88000001F 0x180000001A w x
  | .ammaxu w x => mapWord 0xF88000001F 0x680000001A w x
  | .amcas w x => mapWord 0xF88000001F 0x780000001A w x
  | .amswapImm w x => mapWord 0xF88000001F 0x800000001A w x
  | .amminImm w x => mapWord 0xF88000001F 0x900000001A w x
  | .ammaxImm w x => mapWord 0xF88000001F 0x980000001A w x
  | .amminuImm w x => mapWord 0xF88000001F 0xE00000001A w x
  | .ammaxuImm w x => mapWord 0xF88000001F 0xE80000001A w x
  | .amcasImm w x => mapWord 0xF88000001F 0xF80000001A w x
  | .bcmp o _ => adjustOk o.ai && adjustOk o.bi
  | .bfnd o _ => o.ai == 0 && o.ca == 0 && adjustOk o.bi
  | .bmov o _ => adjustOk o.ai && adjustOk o.bi
  | .bset o _ => setAdjustOk o.bi
  | .beq _ _ => true
  | .bne _ _ => true
  | .blt _ _ => true
  | .ble _ _ => true
  | .bge _ _ => true
  | .bgt _ _ => true
  | .bbc _ _ => true
  | .bbs _ _ => true
  | .bbcImm _ _ => true
  | .bbsImm _ _ => true
  | .bltu _ _ => true
  | .bleu _ _ => true
  | .bgeu _ _ => true
  | .bgtu _ _ => true
  | .fbeq _ _ => true
  | .fbne _ _ => true
  | .fbgt _ _ => true
  | .fbugt _ _ => true
  | .fbge _ _ => true
  | .fbuge _ _ => true
  | .fblt _ _ => true
  | .fbult _ _ => true
  | .fble _ _ => true
  | .fbule _ _ => true
  | .fbgl _ _ => true
  | .fbugl _ _ => true
  | .fbord _ _ => true
  | .fbun _ _ => true
  | .pbcc o _ => condOk o.cond
  | .dfbcc o _ => condOk o.cond
  | .bra _ _ => true
  | .bsr _ _ _ => true
  | .lbeq _ _ => true
  | .lbne _ _ => true
  | .lblt _ _ => true
  | .lble _ _ => true
  | .lbge _ _ => true
  | .lbgt _ _ => true
  | .lbbc _ _ => true
  | .lbbs _ _ => true
  | .lbbcImm _ _ => true
  | .lbbsImm _ _ => true
  | .lbltu _ _ => true
  | .lbleu _ _ => true
  | .lbgeu _ _ => true
  | .lbgtu _ _ => true
  | .lfbeq _ _ => true
  | .lfbne _ _ => true
  | .lfbgt _ _ => true
  | .lfbugt _ _ => true
  | .lfbge _ _ => true
  | .lfbuge _ _ => true
  | .lfblt _ _ => true
  | .lfbult _ _ => true
  | .lfble _ _ => true
  | .lfbule _ _ => true
  | .lfbgl _ _ => true
  | .lfbugl _ _ => true
  | .lfbord _ _ => true
  | .lfbun _ _ => true
  | .lpbcc o _ => condOk o.cond
  | .ldfbcc o _ => condOk o.cond
  | .lbra _ _ => true
  | .lbsr _ _ _ => true
  | .dbcc o _ => condOk o.cond
  | .dbccFloat o _ => condOk o.cond
  | .dbccPosit o _ => condOk o.cond
  | .dbccDecimal o _ => condOk o.cond
  | .pfx0 _ => true
  | .pfx1 _ => true
  | .pfx2 _ => true
  | .regs _ => true
  | .nop _ => true
  | .vaddVV o x => o.plain x && o.vec == .vv && !o.sb
  | .vaddVS o x => o.plain x && o.vec == .vs && !o.sb
  | .vaddImm o _ => o.plain && o.vec
  | .vandVV o x => o.plain x && o.vec == .vv && !o.st
  | .vandVS o x => o.plain x && o.vec == .vs && !o.st
  | .vandImm o _ => o.plain && o.vec && !o.st

end Sys2Proof
end

