-- ==== Sys2Proof/Decode.lean ====
section
/-! DEFINITION. The decoder, from bytes to an instruction with its mask byte and postfixes or a named rejection, and the
encoder (30_encoding R200 to R264). A word is read as a list of fields, lowest first; `split` and `join` are the two
directions, and every format is one list of widths. (`Instr` has more constructors than Lean's code generator has object
tags, 244, so what builds instructions is marked noncomputable; the kernel evaluates it all the same.) -/

namespace Sys2Proof

/-- Why a word is no instruction. -/
inductive Reject where
  /-- The postfix run has not the shape of 30_encoding R231: Instruction Address, vector 34 (R234). -/
  | malformed
  /-- A reserved encoding: Unimplemented Instruction, vector 4 (30_encoding R250). -/
  | reserved
  /-- Decimal arithmetic, reserved unless HAS_DECIMAL is true (40_integer R301), and otherwise well formed; with the mask
  byte of a scalar form. -/
  | decimal (mask : Option MaskByte)
deriving DecidableEq, Repr

/-- What a base word with its mask byte and postfixes is. -/
abbrev Dec := Except Reject Instr

/-- What the bytes at an address are: too few of them, or a word of `used` bytes, mask byte and postfixes included, whose
first 40 or 48 bits are `word`. -/
inductive Decoded where
  | short
  | done (word : BitVec 48) (used : Nat) (r : Dec)

/-! Byte order and fields. -/

/-- The little-endian value of a list of bytes (20_memory R101). -/
def fromBytes : List Byte → Nat
  | [] => 0
  | b :: bs => b.toNat + 256 * fromBytes bs

/-- The n low bytes of a value, least significant first (20_memory R101). -/
def toBytes : Nat → Nat → List Byte
  | 0, _ => []
  | n + 1, v => BitVec.ofNat 8 v :: toBytes n (v / 256)

/-- The fields of a value, lowest first, of the given widths. -/
def split : List Nat → Nat → List Nat
  | [], _ => []
  | w :: ws, v => v % 2 ^ w :: split ws (v / 2 ^ w)

/-- The value with the given fields, lowest first. -/
def join : List Nat → List Nat → Nat
  | w :: ws, x :: xs => x + 2 ^ w * join ws xs
  | _, _ => 0

def lR2 : List Nat := [5, 3, 1, 6, 1, 6, 1, 6, 1, 1, 1, 1, 1, 6]
def lShift : List Nat := [5, 3, 1, 6, 1, 6, 1, 6, 1, 1, 1, 1, 2, 5]
def lFlt : List Nat := [5, 3, 1, 6, 1, 6, 1, 6, 1, 1, 1, 3, 5]
def lRI : List Nat := [5, 3, 1, 6, 1, 6, 1, 8, 1, 1, 7]
def lRtdI : List Nat := [5, 3, 1, 6, 1, 6, 1, 2, 2, 4, 1, 1, 7]
def lFI : List Nat := [5, 3, 1, 6, 1, 6, 1, 9, 1, 7]
def lCsr : List Nat := [5, 3, 1, 6, 1, 6, 1, 8, 1, 6, 1, 1]
def lChk : List Nat := [5, 3, 1, 3, 3, 1, 6, 1, 6, 1, 1, 1, 6, 1, 1]
def lChkI : List Nat := [5, 3, 1, 3, 4, 6, 1, 6, 1, 1, 1, 1, 7]
def lR3 : List Nat := [5, 3, 1, 6, 1, 6, 1, 6, 1, 1, 1, 6, 1, 1]
def lBitI : List Nat := [5, 3, 1, 6, 1, 6, 1, 7, 7, 1, 1, 1]
def lMemD : List Nat := [5, 3, 1, 7, 6, 1, 6, 1, 1, 6, 2, 1]
def lMemX : List Nat := [5, 3, 1, 3, 2, 2, 6, 1, 6, 1, 1, 1, 6, 1, 1]
def lAmo : List Nat := [5, 3, 1, 6, 1, 6, 1, 6, 1, 1, 1, 1, 1, 1, 5]
def lBlk : List Nat := [5, 3, 1, 2, 2, 2, 1, 6, 1, 6, 1, 1, 1, 1, 2, 5]
def lB : List Nat := [5, 4, 6, 6, 2, 17]
def lLB : List Nat := [5, 4, 6, 6, 2, 25]
def lBL2 : List Nat := [5, 4, 2, 12, 17]
def lLBL2 : List Nat := [5, 4, 2, 12, 25]
def lTrapI : List Nat := [5, 1, 2, 1, 6, 8, 8, 1, 1, 7]
def lPred : List Nat := [5, 5, 6, 16, 1, 1, 6]
def lCarry : List Nat := [5, 3, 6, 1, 1, 16, 1, 1, 6]
def lRep : List Nat := [5, 3, 1, 3, 3, 1, 15, 3, 6]
def lAtom : List Nat := [5, 3, 1, 6, 1, 16, 2, 6]
def lRound : List Nat := [5, 3, 24, 1, 1, 6]

/-! Codes of the enumerated fields. -/

/-- Sz3 (30_encoding R214). -/
def Size.code : Size → Nat
  | .b => 0 | .w => 1 | .t => 2 | .o => 3 | .h => 4

def Size.ofCode : Nat → Option Size
  | 0 => some .b | 1 => some .w | 2 => some .t | 3 => some .o | 4 => some .h | _ => none

/-- Precision (42_float R401). -/
def Prec.code : Prec → Nat
  | .h => 1 | .s => 2 | .d => 3 | .q => 4

def Prec.ofCode : Nat → Option Prec
  | 1 => some .h | 2 => some .s | 3 => some .d | 4 => some .q | _ => none

/-- Rm3 (42_float R403). -/
def RmField.code : RmField → Nat
  | .ne => 0 | .tz => 1 | .up => 2 | .dn => 3 | .na => 4 | .fcr => 7

def RmField.ofCode : Nat → Option RmField
  | 0 => some .ne | 1 => some .tz | 2 => some .up | 3 => some .dn | 4 => some .na | 7 => some .fcr | _ => none

/-- Vc and Vb of a register format (30_encoding R241). -/
def VBits.vc : VBits → Nat
  | .vv => 1 | _ => 0
def VBits.vb : VBits → Nat
  | .vs => 1 | _ => 0
def VBits.of : Nat → Nat → Option VBits
  | 0, 0 => some .scalar | 0, 1 => some .vs | 1, 0 => some .vv | _, _ => none

/-- Vc and Vb of the indexed memory format (47_memory_ops R587). -/
def MVec.vc : MVec → Nat
  | .gather => 1 | _ => 0
def MVec.vb : MVec → Nat
  | .data => 1 | _ => 0
def MVec.of : Nat → Nat → Option MVec
  | 0, 0 => some .scalar | 0, 1 => some .data | 1, 0 => some .gather | _, _ => none

/-- A one-bit field. -/
def bit (n : Nat) : Bool := n == 1

/-- The mask byte: Svm in bit 6, Vm in bits 5:0 (30_encoding R240). -/
def MaskByte.code (m : MaskByte) : Nat := m.vm.toNat + 64 * m.svm.toNat
def MaskByte.ofByte (b : Byte) : MaskByte := ⟨b.getLsbD 6, b.extractLsb' 0 6⟩

/-- The V bit of an instruction with the given bytes after its base word (30_encoding R241). -/
def Ext.v (x : Ext) : Nat := x.mask.isSome.toNat

/-! Rejections of field values. -/

/-- An operand size; code 6 is decimal where the instruction has that size (30_encoding R214). -/
def sized (sz : Nat) (decimal : Bool) (k : Size → Dec) : Dec :=
  match Size.ofCode sz with
  | some z => k z
  | none => .error (if sz == 6 && decimal then .decimal none else .reserved)

/-- A precision; code 6 is decimal (42_float R401). -/
def precd (p : Nat) (k : Prec → Dec) : Dec :=
  match Prec.ofCode p with
  | some z => k z
  | none => .error (if p == 6 then .decimal none else .reserved)

def rmd (rm : Nat) (k : RmField → Dec) : Dec :=
  match RmField.ofCode rm with
  | some r => k r
  | none => .error .reserved

def vecd (vc vb : Nat) (k : VBits → Dec) : Dec :=
  match VBits.of vc vb with
  | some v => k v
  | none => .error .reserved

def mvecd (vc vb : Nat) (k : MVec → Dec) : Dec :=
  match MVec.of vc vb with
  | some v => k v
  | none => .error .reserved

/-- `k` when the constant bits are as the format draws them, a reserved encoding otherwise (30_encoding R250). -/
def onlyIf (c : Bool) (k : Dec) : Dec := if c then k else .error .reserved

/-! Formats. -/

/-- The fields of an R2 word (30_encoding R220), above the opcode. -/
structure RawR2 where
  sz : Nat
  rt : Nat
  st : Nat
  ra : Nat
  sa : Nat
  rb : Nat
  sb : Nat
  vb : Nat
  b31 : Nat
  vc : Nat
  b33 : Nat

def RawR2.r2 (r : RawR2) (decimal : Bool) (k : R2 → Dec) : Dec :=
  sized r.sz decimal fun z => vecd r.vc r.vb fun v =>
    k ⟨.ofNat 6 r.rt, bit r.st, .ofNat 6 r.ra, bit r.sa, .ofNat 6 r.rb, bit r.sb, bit r.b31, v, z⟩

def RawR2.r2i (r : RawR2) (k : R2I → Instr) : Dec :=
  sized r.sz false fun z =>
    .ok (k ⟨.ofNat 6 r.rt, bit r.st, .ofNat 6 r.ra, bit r.sa, .ofNat 8 (r.rb + 64 * r.sb + 128 * r.vb), bit r.vc, z⟩)

def RawR2.r1 (r : RawR2) (k : R1 → Instr) : Dec :=
  sized r.sz false fun z => vecd r.vc r.vb fun v =>
    .ok (k ⟨.ofNat 6 r.rt, bit r.st, .ofNat 6 r.ra, bit r.sa, v, z⟩)

/-- {R1}, function in the Rb field (30_encoding R207). -/
def decR1 (w : Nat) (r : RawR2) (x : Ext) : Dec :=
  onlyIf (r.b31 == 0 && r.sb == 0) <|
    match r.rb with
    | 0 => if r.sa == 1 then r.r1 (.cntlo · x) else r.r1 (.cntlz · x)
    | 2 => r.r1 (.cntpop · x)
    | 3 => r.r1 (.abs · x)
    | 4 => r.r1 (.sqrt · x)
    | 5 => r.r1 (.revbit · x)
    | 14 => r.r1 (.sm3p0 · x)
    | 15 => r.r1 (.sm3p1 · x)
    | 18 => r.r1 (.aes64ds · x)
    | 19 => r.r1 (.aes64dsm · x)
    | 20 => r.r1 (.aes64es · x)
    | 21 => r.r1 (.aes64esm · x)
    | 22 => .ok (.aes64im (.ofNat 40 w) x)
    | 24 => r.r1 (.sha256sig0 · x)
    | 25 => r.r1 (.sha256sig1 · x)
    | 26 => r.r1 (.sha256sum0 · x)
    | 27 => r.r1 (.sha256sum1 · x)
    | 28 => r.r1 (.sha512sig0 · x)
    | 29 => r.r1 (.sha512sig1 · x)
    | 30 => r.r1 (.sha512sum0 · x)
    | 31 => r.r1 (.sha512sum1 · x)
    | _ => .error .reserved

/-- ADD, SUB and RTD, {R2} function 4 (40_integer R306, R308; 41_vector R385; 46_flow_control R556, R557). -/
noncomputable def decAdd (v : Nat) (r : RawR2) (x : Ext) : Dec :=
  if r.b31 == 1 then
    onlyIf (r.vb == 0 && v == 0) <| sized r.sz false fun z =>
      let o : RtdR := ⟨.ofNat 2 (r.vc + 2 * r.b33), .ofNat 6 r.rt, bit r.st, .ofNat 6 r.ra, bit r.sa, .ofNat 6 r.rb,
        bit r.sb, z⟩
      .ok (if r.rt == 0 && r.st == 0 then .rtsReg o x.tail else .rtdReg o x.tail)
  else
    onlyIf (r.b33 == 0) <| r.r2 true fun o =>
      .ok (if r.sb == 1 then .sub o x else
        match o.vec with
        | .scalar => .add o x
        | .vs => .vaddVS o x
        | .vv => .vaddVV o x)

/-- The indexed jumps, {R2} function 24 (46_flow_control R553, R579). -/
def decJmpIdx (v : Nat) (r : RawR2) (t : Tail) : Dec :=
  onlyIf (r.vc == 0 && r.vb == 0 && r.sa == 0 && v == 0) <| sized r.sz false fun z =>
    if r.b31 == 0 then
      onlyIf (r.st == 0) <|
        let o : JmpC := ⟨.ofNat 6 r.rt, .ofNat 6 r.ra, .ofNat 6 r.rb, bit r.sb, z⟩
        .ok (if r.rt == 0 then .jmpIdx o t else .jsrIdx o t)
    else
      let o : JmpD := ⟨.ofNat 6 r.rt, bit r.st, .ofNat 6 r.ra, .ofNat 6 r.rb, bit r.sb, z⟩
      .ok (if r.rt == 0 then .jmpIdxInd o t else .jsrIdxInd o t)

/-- The modifiers, {R2} functions 32 to 36 (49_modifiers R701). -/
def decMod (w fn : Nat) (t : Tail) : Dec :=
  match fn with
  | 32 =>
    match split lPred w with
    | [_, cond, rn, imm, one, _, _] => onlyIf (one == 1) (.ok (.pred ⟨.ofNat 16 imm, .ofNat 6 rn, .ofNat 5 cond⟩ t))
    | _ => .error .reserved
  | 33 =>
    match split lCarry w with
    | [_, _, rn, z14, _, imm, z32, _, _] =>
      onlyIf (z14 == 0 && z32 == 0) (.ok (.carry ⟨.ofNat 16 imm, .ofNat 6 rn⟩ t))
    | _ => .error .reserved
  | 34 =>
    match split lRep w with
    | [_, _, z8, cnd, cnt, d, imm, z31, _] =>
      onlyIf (z8 == 0 && z31 == 0) (.ok (.rep ⟨.ofNat 15 imm, bit d, .ofNat 3 cnt, .ofNat 3 cnd⟩ t))
    | _ => .error .reserved
  | 35 =>
    match split lAtom w with
    | [_, sz, v, rt, st, imm, _, _] => .ok (.atom ⟨.ofNat 16 imm, bit st, .ofNat 6 rt, bit v, .ofNat 3 sz⟩ t)
    | _ => .error .reserved
  | _ =>
    match split lRound w with
    | [_, _, imm, one, _, _] => onlyIf (one == 1) (.ok (.round (.ofNat 24 imm) t))
    | _ => .error .reserved

/-- {R2}, major opcode 2 (30_encoding R206). Bits 31 and 33 follow R218 and R219, and where the instruction's own rule or
its row of the opcode table says otherwise, that: SEQ and SNE hold bit 31 at 0 (40_integer R348), and a bit that a row's
mask leaves out (bit 33 of MODU, both bits of SM4ED and SM4KS) has both values (R264; log 60). BMAP, which does not use its size code (40_integer R323), has the reserved
ones of R214 all the same, by the model's choice (log 48). -/
noncomputable def decR2 (w : Nat) (x : Ext) : Dec :=
  match split lR2 w with
  | [_, sz, v, rt, st, ra, sa, rb, sb, vb, b31, vc, b33, fn] =>
    let r : RawR2 := ⟨sz, rt, st, ra, sa, rb, sb, vb, b31, vc, b33⟩
    match fn with
    | 1 => decR1 w r x
    | 4 => decAdd v r x
    | 5 => if b33 == 1 then onlyIf (b31 == 0 && sz == 0) (r.r2 false fun o => .ok (.cmpsB o x))
           else r.r2 false fun o => .ok (.cmp o x)
    | 6 => if b33 == 0 then r.r2 false fun o => .ok (if b31 == 1 then .mulu { o with sw := false } x else .mul o x)
           else onlyIf (b31 == 1) (r.r2 false fun o => .ok (.mulsu { o with sw := false } x))
    | 7 => if b33 == 0 then r.r2 false fun o => .ok (if b31 == 1 then .divu { o with sw := false } x else .div o x)
           else onlyIf (b31 == 0) (r.r2 false fun o => .ok (.divsu o x))
    | 8 => onlyIf (b33 == 0 && b31 == 0) <| r.r2 false fun o =>
        .ok (if st == 1 then .nand o x else
          match o.vec with
          | .scalar => .and o x
          | .vs => .vandVS o x
          | .vv => .vandVV o x)
    | 9 => onlyIf (b33 == 0 && b31 == 0) (r.r2 false fun o => .ok (if st == 1 then .nor o x else .or o x))
    | 10 => onlyIf (b31 == 0) (r.r2 false fun o => .ok (if st == 1 then .enor o x else .eor o x))
    | 12 => onlyIf (b33 == 0) (r.r2 false fun o => .ok (if b31 == 1 then .muluh { o with sw := false } x else .mulh o x))
    | 13 => onlyIf (b31 == 0) (if b33 == 1 then r.r2i (.chrndxImm · x) else r.r2 false fun o => .ok (.chrndx o x))
    | 14 => if b31 == 1 then r.r2i (.clmulImm · x) else r.r2 false fun o => .ok (.clmul o x)
    | 15 => if b31 == 1 then r.r2 false fun o => .ok (.modu { o with sw := false } x)
            else onlyIf (b33 == 0) (r.r2 false fun o => .ok (.mod o x))
    | 16 => .ok (.dif (.ofNat 40 w) x)
    | 17 => .ok (.ptrdif (.ofNat 40 w) x)
    | 18 => .ok (.revbitMap (.ofNat 40 w) x)
    | 19 => onlyIf (b31 == 0) (r.r2 false fun o => .ok (.bmap o x))
    | 24 => decJmpIdx v r x.tail
    | 26 => onlyIf (b33 == 0 && b31 == 0) (r.r2 (st == 1) fun o => .ok (if st == 1 then .sne o x else .seq o x))
    | 27 => onlyIf (b33 == 0) (r.r2 true fun o => .ok (if st == 1 then .sge o x else .slt o x))
    | 28 => onlyIf (b33 == 0) (r.r2 true fun o => .ok (if st == 1 then .sgt o x else .sle o x))
    | 29 => onlyIf (b33 == 0) (r.r2 true fun o => .ok (if st == 1 then .sgeu o x else .sltu o x))
    | 30 => onlyIf (b33 == 0) (r.r2 true fun o => .ok (if st == 1 then .sgtu o x else .sleu o x))
    | 32 => decMod w 32 x.tail
    | 33 => decMod w 33 x.tail
    | 34 => decMod w 34 x.tail
    | 35 => decMod w 35 x.tail
    | 36 => decMod w 36 x.tail
    | 40 => onlyIf (b31 == 0) (r.r2 false fun o => .ok (.v2bits o x))
    | 41 => .ok (.bits2v (.ofNat 40 w) x)
    | 42 => .ok (.vex (.ofNat 40 w) x)
    | 43 => .ok (.veins (.ofNat 40 w) x)
    | 44 => .ok (.vgndx (.ofNat 40 w) x)
    | 46 => .ok (.sgeuMap (.ofNat 40 w) x)
    | 47 => .ok (.sgtuMap (.ofNat 40 w) x)
    | 48 => .ok (.min (.ofNat 40 w) x)
    | 49 => .ok (.max (.ofNat 40 w) x)
    | 50 => .ok (.bmm (.ofNat 40 w) x)
    | 51 => .ok (.mux (.ofNat 40 w) x)
    | 56 => .ok (.aes64ks1i (.ofNat 40 w) x)
    | 57 => .ok (.aes64ks2 (.ofNat 40 w) x)
    | 60 => r.r2 false fun o => .ok (.sm4ed { o with sw := false } x)
    | 61 => r.r2 false fun o => .ok (.sm4ks { o with sw := false } x)
    | _ => .error .reserved
  | _ => .error .reserved

/-- {CSR}, major opcode 3 (49_modifiers R725, R731; 48_vector R650, R651). S has both values; whether Vc
= 1 is ignored (R242) or reserved (R725) is a free choice (log 61). -/
def decCsr (w : Nat) (x : Ext) : Dec :=
  match split lCsr w with
  | [_, fn, _, rt, st, ra, sa, rlo, s, rhi, vc, i] =>
    onlyIf (vc == 0 || !Config.csrVcReserved) <|
      let n := rlo + 256 * rhi
      let r : CsrR := ⟨.ofNat 6 rt, bit st, .ofNat 6 ra, bit sa, .ofNat 14 n, bit s⟩
      let m : CsrI := ⟨.ofNat 6 rt, bit st, .ofNat 7 (ra + 64 * sa), .ofNat 14 n, bit s⟩
      match fn with
      | 0 => .ok (if n == 0x50 then .getvl ⟨.ofNat 6 rt, bit st, bit s⟩ x else if i == 1 then .csrrdImm m x else .csrrd r x)
      | 1 => .ok (if n == 0x50 then (if i == 1 then .setvlImm m x else .setvl r x)
                  else if i == 1 then .csrwrImm m x else .csrwr r x)
      | 2 => .ok (if i == 1 then .csrrsImm m x else .csrrs r x)
      | 3 => .ok (if i == 1 then .csrrcImm m x else .csrrc r x)
      | 4 => .ok (if i == 1 then .csreorImm m x else .csreor r x)
      | 7 => .ok (if i == 1 then .cpuidImm m x else .cpuid r x)
      | _ => .error .reserved
  | _ => .error .reserved

/-- The fields of an RI word (30_encoding R221), its size code not 5 or 7 (R214), of BMAP too (log 48). -/
def withRI (w : Nat) (decimal : Bool) (k : RI → Dec) : Dec :=
  match split lRI w with
  | [_, sz, _, rt, st, ra, sa, ilo, b31, vc, ihi] =>
    sized sz decimal fun z =>
      k ⟨.ofNat 6 rt, bit st, .ofNat 6 ra, bit sa, .ofNat 15 (ilo + 256 * ihi), bit vc, bit b31, z⟩
  | _ => .error .reserved

/-- ORF, major opcode 9 with iw[31] = 1: the size field is not used, and an assembler writes 4 (42_float R431). -/
def decOrf (w : Nat) (x : Ext) : Dec :=
  match split lRI w with
  | [_, _, _, rt, st, ra, sa, ilo, _, vc, ihi] =>
    .ok (.orf ⟨.ofNat 6 rt, bit st, .ofNat 6 ra, bit sa, .ofNat 15 (ilo + 256 * ihi), bit vc, false, .h⟩ x)
  | _ => .error .reserved

/-- RTD, RTS and RTE, major opcode 4 with iw[31] = 1 (46_flow_control R556 to R558, R579). -/
def decRet (w : Nat) (t : Tail) : Dec :=
  match split lRtdI w with
  | [_, sz, v, rt, st, ra, sa, lr, d2, arg, _, z32, ihi] =>
    onlyIf (z32 == 0 && v == 0) <| sized sz false fun z =>
      let o : RtdI := ⟨.ofNat 2 lr, .ofNat 6 rt, bit st, .ofNat 6 ra, bit sa, .ofNat 11 (arg + 16 * ihi), z⟩
      let e : RteOp := ⟨.ofNat 6 rt, bit st, .ofNat 6 ra, bit sa, .ofNat 4 arg, .ofNat 7 ihi, z⟩
      match d2 with
      | 0 => .ok (if rt == 0 && st == 0 then .rtsImm o t else .rtdImm o t)
      | 1 => .ok (.rte1 e t)
      | 2 => .ok (.rte2 e t)
      | _ => .error .reserved
  | _ => .error .reserved

/-- CHK, major opcode 11 (40_integer R330, R331). -/
def decChk (w : Nat) (x : Ext) : Dec :=
  match split lChk w, split lChkI w with
  | [_, sz, _, cn, _, _, ra, sa, rb, sb, vb, b31, rc, vc, _], [_, _, _, _, ilo, _, _, _, _, _, _, vci, ihi] =>
    if b31 == 1 then
      sized sz false fun z => vecd vci vb fun v =>
        .ok (.chki ⟨.ofNat 6 ra, bit sa, .ofNat 6 rb, bit sb, .ofNat 11 (ilo + 16 * ihi), .ofNat 3 cn, v, z⟩ x)
    else
      sized sz false fun z => vecd vc vb fun v =>
        .ok (.chk ⟨.ofNat 6 ra, bit sa, .ofNat 6 rb, bit sb, .ofNat 6 rc, .ofNat 3 cn, v, z⟩ x)
  | _, _ => .error .reserved

/-- {FLT1}, function in the Rb field (30_encoding R212). -/
def decF1 (w fn : Nat) (x : Ext) (f1 : (F1 → Instr) → Dec) : Dec :=
  match fn with
  | 2 => .ok (.ftoi (.ofNat 40 w) x)
  | 3 => .ok (.itof (.ofNat 40 w) x)
  | 6 => .ok (.fsign (.ofNat 40 w) x)
  | 7 => .ok (.fsig (.ofNat 40 w) x)
  | 8 => .ok (.fsqrt (.ofNat 40 w) x)
  | 9 => .ok (.fs2d (.ofNat 40 w) x)
  | 10 => .ok (.fs2q (.ofNat 40 w) x)
  | 11 => .ok (.fd2q (.ofNat 40 w) x)
  | 14 => .ok (.isnan (.ofNat 40 w) x)
  | 15 => .ok (.finite (.ofNat 40 w) x)
  | 21 => f1 (.ftrunc · x)
  | 23 => .ok (.fres (.ofNat 40 w) x)
  | 25 => .ok (.fd2s (.ofNat 40 w) x)
  | 26 => .ok (.fq2s (.ofNat 40 w) x)
  | 27 => .ok (.fq2d (.ofNat 40 w) x)
  | 30 => .ok (.fclass (.ofNat 40 w) x)
  | 32 => f1 (.fabs · x)
  | 34 => f1 (.fneg · x)
  | _ => .error .reserved

/-- {FLT2}, major opcode 12 (30_encoding R211; 42_float R400). -/
def decFlt (w : Nat) (x : Ext) : Dec :=
  match split lFlt w with
  | [_, p, _, rt, st, ra, sa, rb, sb, vb, vc, rm, fn] =>
    let f2 (m : RmField) (k : F2 → Instr) : Dec :=
      precd p fun pr => vecd vc vb fun v =>
        .ok (k ⟨.ofNat 6 rt, bit st, .ofNat 6 ra, bit sa, .ofNat 6 rb, bit sb, v, m, pr⟩)
    let f1 (k : F1 → Instr) : Dec :=
      precd p fun pr => vecd vc vb fun v => .ok (k ⟨.ofNat 6 rt, bit st, .ofNat 6 ra, bit sa, v, pr⟩)
    match fn with
    | 0 =>
      match rm with
      | 0 => f2 .ne (.fscaleb · x)
      | 1 => precd p fun pr => .ok (.fscalebImm ⟨.ofNat 6 rt, bit st, .ofNat 6 ra, bit sa,
              .ofNat 8 (rb + 64 * sb + 128 * vb), bit vc, pr⟩ x)
      | _ => .error .reserved
    | 1 => onlyIf (sb == 0) (decF1 w rb x f1)
    | 2 => .ok (.fmin (.ofNat 40 w) x)
    | 3 => .ok (.fmax (.ofNat 40 w) x)
    | 4 => rmd rm fun m => if sb == 1 then f2 m (.fsub · x) else f2 m (.fadd · x)
    | 5 => onlyIf (rm == 0) (f2 .ne (.fcmp · x))
    | 6 => rmd rm fun m => f2 m (.fmul · x)
    | 7 => rmd rm fun m => f2 m (.fdiv · x)
    | 8 =>
      match rm with
      | 0 => if st == 1 then f2 .ne (.fsne · x) else f2 .ne (.fseq · x)
      | 2 => f2 .ne (.fsle · x)
      | 3 => f2 .ne (.fslt · x)
      | 4 => f2 .ne (.fsge · x)
      | 5 => f2 .ne (.fsgt · x)
      | _ => .error .reserved
    | 14 => .ok (.fnxt (.ofNat 40 w) x)
    | 15 => .ok (.frem (.ofNat 40 w) x)
    | _ => .error .reserved
  | _ => .error .reserved

/-- The floating-point immediate format (30_encoding R223). -/
def decFI (w : Nat) (k : FI → Instr) : Dec :=
  match split lFI w with
  | [_, p, _, rt, st, ra, sa, ilo, vc, ihi] =>
    precd p fun pr => .ok (k ⟨.ofNat 6 rt, bit st, .ofNat 6 ra, bit sa, .ofNat 16 (ilo + 512 * ihi), bit vc, pr⟩)
  | _ => .error .reserved

/-- {BIT}, major opcode 13 (44_bitfield R480). -/
def decBit (w : Nat) (x : Ext) : Dec :=
  match split lR3 w, split lBitI w with
  | [_, fn, _, rt, st, ra, sa, rb, sb, vb, _, rc, vc, i], [_, _, _, _, _, _, _, first, last, _, _, _] =>
    let r (k : BitR → Instr) : Dec :=
      vecd vc vb fun v => .ok (k ⟨.ofNat 6 rt, bit st, .ofNat 6 ra, bit sa, .ofNat 6 rb, bit sb, .ofNat 6 rc, v⟩)
    let m (k : BitI → Instr) : Dec :=
      .ok (k ⟨.ofNat 6 rt, bit st, .ofNat 6 ra, bit sa, .ofNat 7 first, .ofNat 7 last, bit vc⟩)
    match fn with
    | 0 => if i == 1 then m (.clrImm · x) else r (.clr · x)
    | 1 => if i == 1 then m (.setImm · x) else r (.set · x)
    | 2 => if i == 1 then m (.comImm · x) else r (.com · x)
    | 3 => if i == 1 then m (.sbxImm · x) else r (.sbx · x)
    | 4 => if i == 1 then m (.extuImm · x) else r (.extu · x)
    | 5 => if i == 1 then m (.extsImm · x) else r (.exts · x)
    | 6 => if i == 1 then m (.depImm · x) else r (.dep · x)
    | _ => .ok (.bitrr (.ofNat 40 w) x)
  | _, _ => .error .reserved

/-- {SHIFT}, major opcode 14 (45_shift R500; 41_vector R388 to R390). -/
def decShift (w : Nat) (x : Ext) : Dec :=
  match split lShift w with
  | [_, sz, _, rt, st, ra, sa, rb, sb, vb, b31, vc, op2, fn] =>
    onlyIf (b31 == 0) <|
      let r (k : R2 → Instr) : Dec :=
        sized sz false fun z => vecd vc vb fun v =>
          .ok (k ⟨.ofNat 6 rt, bit st, .ofNat 6 ra, bit sa, .ofNat 6 rb, bit sb, false, v, z⟩)
      let m (k : ShI → Instr) : Dec :=
        onlyIf (vb == 0) <| sized sz false fun z =>
          .ok (k ⟨.ofNat 6 rt, bit st, .ofNat 6 ra, bit sa, .ofNat 7 (rb + 64 * sb), bit vc, z⟩)
      let s (k : VshI → Instr) : Dec :=
        onlyIf (vc == 0 && vb == 1) <| sized sz false fun z =>
          .ok (k ⟨.ofNat 6 rt, bit st, .ofNat 6 ra, bit sa, .ofNat 7 (rb + 64 * sb), z⟩)
      match fn with
      | 0 => r (.asl · x)
      | 1 => r (.asr · x)
      | 2 =>
        match op2 with
        | 0 => r (.lsl · x)
        | 1 => r (.lsland · x)
        | 2 => r (.lslor · x)
        | _ => r (.lslxor · x)
      | 3 => onlyIf (op2 == 0) (r (.lsr · x))
      | 4 => onlyIf (op2 == 0) (r (.rol · x))
      | 5 => onlyIf (op2 == 0) (r (.ror · x))
      | 8 => m (.aslImm · x)
      | 9 => m (.asrImm · x)
      | 10 =>
        match op2 with
        | 0 => m (.lslImm · x)
        | 1 => m (.lslandImm · x)
        | 2 => m (.lslorImm · x)
        | _ => m (.lslxorImm · x)
      | 11 => onlyIf (op2 == 0) (m (.lsrImm · x))
      | 12 => onlyIf (op2 == 0) (m (.rolImm · x))
      | 13 => onlyIf (op2 == 0) (m (.rorImm · x))
      | 16 => r (.vshlv · x)
      | 17 => r (.vshrv · x)
      | 24 => s (.vshlvi · x)
      | 25 => s (.vshrvi · x)
      | _ => .error .reserved
  | _ => .error .reserved

/-- Major opcodes 16, 17 and 18: the displacement and the indexed format (47_memory_ops R580 to R585, R631). -/
def decMem (w op : Nat) (x : Ext) (m8 : Option (BitVec 8)) : Dec :=
  match split lMemD w, split lMemX w with
  | [_, szd, _, dlo, rt, sx, rb, sb, vd, dhi, ca, f], [_, _, _, szx, cax, u2, _, _, _, _, vb, sc, rc, vc, _] =>
    if szd == 7 then
      mvecd vc vb fun v =>
        let o : MemX := ⟨.ofNat 6 rt, bit sx, .ofNat 6 rb, bit sb, .ofNat 6 rc, bit sc, v, .ofNat 2 u2, .ofNat 2 cax⟩
        match op, f with
        | 16, 0 => if szx == 6 then .ok (.loadgX o m8 x.tail) else sized szx false fun z => .ok (.loadX z o x)
        | 16, _ => match Prec.ofCode szx with
          | some p => .ok (.floadX p o x)
          | none => .error .reserved
        | 17, 0 => sized szx false fun z => .ok (.loadzX z o x)
        | 17, _ => match szx with
          | 0 => .ok (.laX o x)
          | 2 => .ok (.stptrTX o x)
          | 3 => .ok (.stptrOX o x)
          | 4 => .ok (.stptrHX o x)
          | 5 => .ok (.cacheX o x)
          | _ => .error .reserved
        | _, 0 => if szx == 6 then .ok (.storegX o m8 x.tail) else sized szx false fun z => .ok (.storeX z o x)
        | _, _ => match Prec.ofCode szx with
          | some p => .ok (.fstoreX p o x)
          | none => .error .reserved
    else
      let o : MemD := ⟨.ofNat 6 rt, bit sx, .ofNat 6 rb, bit sb, bit vd, .ofNat 2 ca, .ofNat 13 (dlo + 128 * dhi)⟩
      match op, f with
      | 16, 0 => if szd == 6 then .ok (.loadg o m8 x.tail) else sized szd false fun z => .ok (.load z o x)
      | 16, _ => match Prec.ofCode szd with
        | some p => .ok (.fload p o x)
        | none => .error .reserved
      | 17, 0 => sized szd false fun z => .ok (.loadz z o x)
      | 17, _ => match szd with
        | 0 => .ok (.la o x)
        | 2 => .ok (.stptrT o x)
        | 3 => .ok (.stptrO o x)
        | 4 => .ok (.stptrH o x)
        | 5 => .ok (.cache o x)
        | _ => .error .reserved
      | _, 0 => if szd == 6 then .ok (.storeg o m8 x.tail) else sized szd false fun z => .ok (.store z o x)
      | _, _ => match Prec.ofCode szd with
        | some p => .ok (.fstore p o x)
        | none => .error .reserved
  | _, _ => .error .reserved

/-- Major opcode 24 (46_flow_control R553 to R555, R579). -/
def decJmp (w : Nat) (t : Tail) : Dec :=
  match split lRI w with
  | [_, sz, v, rt, op, ra, b22, ilo, i, z32, ihi] =>
    onlyIf (z32 == 0 && v == 0) <|
      if i == 0 then
        onlyIf (b22 == 0 && op == 0) <|
          let o : JmpA := ⟨.ofNat 6 rt, .ofNat 6 ra, .ofNat 15 (ilo + 256 * ihi), .ofNat 3 sz⟩
          .ok (if rt == 0 then .jmp o t else .jsr o t)
      else sized sz false fun z =>
        if b22 == 0 then
          let o : JmpB := ⟨.ofNat 6 rt, bit op, .ofNat 6 ra, .ofNat 15 (ilo + 256 * ihi), z⟩
          .ok (if rt == 0 then .jmpInd o t else .jsrInd o t)
        else
          let o : TabJ := ⟨.ofNat 6 rt, bit op, .ofNat 6 ra, .ofNat 5 (ilo % 32), z⟩
          .ok (if rt == 0 then .braTable o t else .bsrTable o t)
  | _ => .error .reserved

/-- Major opcode 25 (47_memory_ops R614, R615). -/
def decXchg (w : Nat) (x : Ext) : Dec :=
  match split lR3 w with
  | [_, sz, _, rt, st, ra, sa, rb, sb, vb, sc, rc, vc, f] =>
    onlyIf (vb == 0 && vc == 0) <| sized sz false fun z =>
      .ok (if f == 0 then
        .cmpxchg ⟨.ofNat 6 rt, bit st, .ofNat 6 ra, bit sa, .ofNat 6 rb, bit sb, .ofNat 6 rc, bit sc, z⟩ x
      else .storePair ⟨.ofNat 6 ra, bit sa, .ofNat 6 rb, bit sb, .ofNat 6 rc, bit sc, .ofNat 7 (rt + 64 * st), z⟩ x)
  | _ => .error .reserved

/-- {AMO}, major opcode 26 with iw[31] = 0 (30_encoding R213; 47_memory_ops R620). -/
noncomputable def decAmo (w : Nat) (x : Ext) : Dec :=
  match split lAmo w with
  | [_, sz, _, rt, st, ra, sa, rb, sb, vb, _, vc, rl, aq, fn] =>
    let r (k : AmoR → Instr) : Dec :=
      onlyIf (vc == 0 && vb == 0) <| sized sz false fun z =>
        .ok (k ⟨.ofNat 6 rt, bit st, .ofNat 6 ra, bit sa, .ofNat 6 rb, bit sb, bit aq, bit rl, z⟩)
    let m (k : AmoI → Instr) : Dec :=
      onlyIf (vc == 0) <| sized sz false fun z =>
        .ok (k ⟨.ofNat 6 rt, bit st, .ofNat 6 ra, bit sa, .ofNat 8 (rb + 64 * sb + 128 * vb), bit aq, bit rl, z⟩)
    match fn with
    | 0 => .ok (.amswap (.ofNat 40 w) x)
    | 2 => r (.ammin · x)
    | 3 => .ok (.ammax (.ofNat 40 w) x)
    | 4 => r (.amadd · x)
    | 6 => r (.amasl · x)
    | 7 => r (.amlsr · x)
    | 8 => r (.amand · x)
    | 9 => r (.amor · x)
    | 10 => r (.ameor · x)
    | 12 => r (.amminu · x)
    | 13 => .ok (.ammaxu (.ofNat 40 w) x)
    | 15 => .ok (.amcas (.ofNat 40 w) x)
    | 16 => .ok (.amswapImm (.ofNat 40 w) x)
    | 18 => .ok (.amminImm (.ofNat 40 w) x)
    | 19 => .ok (.ammaxImm (.ofNat 40 w) x)
    | 20 => m (.amaddImm · x)
    | 22 => m (.amaslImm · x)
    | 23 => m (.amlsrImm · x)
    | 24 => m (.amandImm · x)
    | 25 => m (.amorImm · x)
    | 26 => m (.ameorImm · x)
    | 28 => .ok (.amminuImm (.ofNat 40 w) x)
    | 29 => .ok (.ammaxuImm (.ofNat 40 w) x)
    | 31 => .ok (.amcasImm (.ofNat 40 w) x)
    | _ => .error .reserved
  | _ => .error .reserved

/-- The block instructions, major opcode 26 with iw[31] = 1 (43_string_block R460). -/
noncomputable def decBlk (w : Nat) (x : Ext) : Dec :=
  match split lBlk w with
  | [_, sz, _, bi, ai, ca, _, ra, sa, rb, sb, vb, _, vc, cb, fn] =>
    sized sz false fun z =>
      let o : Blk := ⟨.ofNat 6 ra, bit sa, .ofNat 6 rb, bit sb, .ofNat 2 ai, .ofNat 2 bi, .ofNat 2 ca, .ofNat 2 cb,
        bit vc, bit vb, z⟩
      match fn with
      | 0 => .ok (.bcmp o x)
      | 1 => .ok (.bfnd { o with ai := 0, ca := 0 } x)
      | 2 => .ok (.bmov o x)
      | 3 => .ok (.bset ⟨.ofNat 6 ra, bit sa, .ofNat 6 rb, bit sb, .ofNat 4 (bi + 4 * ai), .ofNat 2 cb, bit vc,
              bit vb, z⟩ x)
      | _ => .error .reserved
  | _ => .error .reserved

/-- The integer conditions of the branches (46_flow_control R533). -/
noncomputable def decIntBranch (cond : Nat) (o : Br) (t : Tail) : Dec :=
  match cond with
  | 0 => .ok (.beq o t)
  | 1 => .ok (.bne o t)
  | 2 => .ok (.blt o t)
  | 3 => .ok (.ble o t)
  | 4 => .ok (.bge o t)
  | 5 => .ok (.bgt o t)
  | 6 => .ok (.bbc o t)
  | 7 => .ok (.bbs o t)
  | 8 => .ok (.bbcImm o t)
  | 9 => .ok (.bbsImm o t)
  | 10 => .ok (.bltu o t)
  | 11 => .ok (.bleu o t)
  | 12 => .ok (.bgeu o t)
  | 13 => .ok (.bgtu o t)
  | _ => .error .reserved

/-- The floating-point conditions of the branches (46_flow_control R540). -/
noncomputable def decFloatBranch (cond : Nat) (o : Br) (t : Tail) : Dec :=
  match cond with
  | 0 => .ok (.fbeq o t)
  | 1 => .ok (.fbne o t)
  | 2 => .ok (.fbgt o t)
  | 3 => .ok (.fbugt o t)
  | 4 => .ok (.fbge o t)
  | 5 => .ok (.fbuge o t)
  | 6 => .ok (.fblt o t)
  | 7 => .ok (.fbult o t)
  | 8 => .ok (.fble o t)
  | 9 => .ok (.fbule o t)
  | 10 => .ok (.fbgl o t)
  | 11 => .ok (.fbugl o t)
  | 12 => .ok (.fbord o t)
  | 13 => .ok (.fbun o t)
  | _ => .error .reserved

/-- Major opcodes 27 and 29 (46_flow_control R530, R552). -/
noncomputable def decBranch (w : Nat) (dec : Bool) (t : Tail) : Dec :=
  match split lB w, split lBL2 w with
  | [_, cond, rm, rn, cm, disp], [_, _, rt2, dhi, dlo] =>
    let o : Br := ⟨.ofNat 6 rm, .ofNat 6 rn, .ofNat 17 disp⟩
    let c : BrC := ⟨.ofNat 4 cond, .ofNat 6 rm, .ofNat 6 rn, .ofNat 17 disp⟩
    if dec then
      match cm with
      | 0 => .ok (.dbcc c t)
      | 1 => .ok (.dbccPosit c t)
      | 2 => .ok (.dbccFloat c t)
      | _ => .ok (.dbccDecimal c t)
    else if cond == 14 then .ok (.bra (.ofNat 29 (dlo + 131072 * dhi)) t)
    else if cond == 15 then .ok (.bsr (.ofNat 2 rt2) (.ofNat 29 (dlo + 131072 * dhi)) t)
    else
      match cm with
      | 0 => decIntBranch cond o t
      | 1 => .ok (.pbcc c t)
      | 2 => decFloatBranch cond o t
      | _ => .ok (.dfbcc c t)
  | _, _ => .error .reserved

noncomputable def decLongInt (cond : Nat) (o : LBr) (t : Tail) : Dec :=
  match cond with
  | 0 => .ok (.lbeq o t)
  | 1 => .ok (.lbne o t)
  | 2 => .ok (.lblt o t)
  | 3 => .ok (.lble o t)
  | 4 => .ok (.lbge o t)
  | 5 => .ok (.lbgt o t)
  | 6 => .ok (.lbbc o t)
  | 7 => .ok (.lbbs o t)
  | 8 => .ok (.lbbcImm o t)
  | 9 => .ok (.lbbsImm o t)
  | 10 => .ok (.lbltu o t)
  | 11 => .ok (.lbleu o t)
  | 12 => .ok (.lbgeu o t)
  | 13 => .ok (.lbgtu o t)
  | _ => .error .reserved

noncomputable def decLongFloat (cond : Nat) (o : LBr) (t : Tail) : Dec :=
  match cond with
  | 0 => .ok (.lfbeq o t)
  | 1 => .ok (.lfbne o t)
  | 2 => .ok (.lfbgt o t)
  | 3 => .ok (.lfbugt o t)
  | 4 => .ok (.lfbge o t)
  | 5 => .ok (.lfbuge o t)
  | 6 => .ok (.lfblt o t)
  | 7 => .ok (.lfbult o t)
  | 8 => .ok (.lfble o t)
  | 9 => .ok (.lfbule o t)
  | 10 => .ok (.lfbgl o t)
  | 11 => .ok (.lfbugl o t)
  | 12 => .ok (.lfbord o t)
  | 13 => .ok (.lfbun o t)
  | _ => .error .reserved

/-- Major opcode 28, the long branches (46_flow_control R561 to R563). -/
noncomputable def decLong (w : Nat) (t : Tail) : Dec :=
  match split lLB w, split lLBL2 w with
  | [_, cond, rm, rn, cm, disp], [_, _, rt2, dhi, dlo] =>
    let o : LBr := ⟨.ofNat 6 rm, .ofNat 6 rn, .ofNat 25 disp⟩
    let c : LBrC := ⟨.ofNat 4 cond, .ofNat 6 rm, .ofNat 6 rn, .ofNat 25 disp⟩
    if cond == 14 then .ok (.lbra (.ofNat 37 (dlo + 33554432 * dhi)) t)
    else if cond == 15 then .ok (.lbsr (.ofNat 2 rt2) (.ofNat 37 (dlo + 33554432 * dhi)) t)
    else
      match cm with
      | 0 => decLongInt cond o t
      | 1 => .ok (.lpbcc c t)
      | 2 => decLongFloat cond o t
      | _ => .ok (.ldfbcc c t)
  | _, _ => .error .reserved

/-- Major opcode 0: BRK and TRAP (46_flow_control R545, R560, R579). -/
def decTrap (w : Nat) (t : Tail) : Dec :=
  if w == 0 then .ok (.brk t) else
  match split lRI w, split lTrapI w with
  | [_, z, v, rt, b15, ra, sa, ilo, i, z32, ihi], [_, v9, z6, _, _, vec, _, _, _, _] =>
    onlyIf (z32 == 0 && v == 0) <|
      if i == 0 then onlyIf (z == 0 && b15 == 0) (.ok (.trapRa ⟨.ofNat 6 rt, .ofNat 6 ra, bit sa, .ofNat 15 (ilo + 256 * ihi)⟩ t))
      else onlyIf (z6 == 0) (.ok (.trapImm ⟨.ofNat 6 rt, .ofNat 9 (vec + 256 * v9), .ofNat 15 (ilo + 256 * ihi)⟩ t))
  | _, _ => .error .reserved

/-- The instruction of a base word with its mask byte and postfixes, by the major opcode map (30_encoding R205), before
the check that it is well formed. `m8` is the sixth byte as LOADG and STOREG read it. -/
noncomputable def decWord (w : Nat) (x : Ext) (m8 : Option (BitVec 8)) : Dec :=
  match w % 32 with
  | 0 => decTrap w x.tail
  | 2 => decR2 w x
  | 3 => decCsr w x
  | 4 => if w / 2 ^ 31 % 2 == 1 then decRet w x.tail
         else withRI w true fun o => .ok (if o.vec then .vaddImm o x else .addi o x)
  | 5 => withRI w false fun o => .ok (.cmpi o x)
  | 6 => withRI w false fun o => .ok (if o.sw then .mului { o with sw := false } x else .muli o x)
  | 7 => withRI w false fun o => .ok (.divi o x)
  | 8 => withRI w false fun o => .ok (if o.st then .nandi o x else if o.vec then .vandImm o x else .andi o x)
  | 9 => if w / 2 ^ 31 % 2 == 1 then decOrf w x
         else withRI w false fun o => .ok (if o.st then .nori o x else .ori o x)
  | 10 => withRI w false fun o => .ok (if o.st then .enori o x else .eori o x)
  | 11 => decChk w x
  | 12 => decFlt w x
  | 13 => decBit w x
  | 14 => decShift w x
  | 15 => .ok (.fma (.ofNat 40 w) x.tail)
  | 16 => decMem w 16 x m8
  | 17 => decMem w 17 x m8
  | 18 => decMem w 18 x m8
  | 19 => withRI w false fun o => .ok (.bmapImm o x)
  | 20 => decFI w (.faddi · x)
  | 21 => decFI w (.fcmpi · x)
  | 22 => decFI w (.fmuli · x)
  | 23 => decFI w (.fdivi · x)
  | 24 => decJmp w x.tail
  | 25 => decXchg w x
  | 26 => if w / 2 ^ 31 % 2 == 1 then decBlk w x else decAmo w x
  | 27 => decBranch w false x.tail
  | 28 => decLong w x.tail
  | 29 => decBranch w true x.tail
  | 31 => onlyIf (w / 32 % 8 == 7) (.ok (.nop x.tail))
  | _ => .error .reserved

/-- A candidate that is not well formed is a reserved encoding (30_encoding R250). -/
def checked (d : Dec) : Dec :=
  match d with
  | .ok i => if i.wf then .ok i else .error .reserved
  | .error e => .error e

/-- A word of a format with a V bit names vector registers: its Vc or Vb bit is set, where the format has them (30_encoding
R241). -/
def vectorWord (w : Nat) : Bool :=
  match w % 32 with
  | 2 => w / 2 ^ 30 % 2 == 1 || w / 2 ^ 32 % 2 == 1
  | 12 => w / 2 ^ 30 % 4 != 0
  | _ => w / 2 ^ 32 % 2 == 1

/-- The instruction of a base word with its mask byte and postfixes. Size or precision code 6 is a decimal instruction only
where the same word with code 4 is an instruction; any other such word is reserved (30_encoding R214, R250; log 59). -/
noncomputable def decChecked (w : Nat) (x : Ext) (m8 : Option (BitVec 8)) : Dec :=
  match decWord w x m8 with
  | .error (.decimal _) =>
    match checked (decWord (w - 64) x m8) with
    | .ok _ => .error (.decimal (if vectorWord w then none else x.mask))
    | .error _ => .error .reserved
  | d => checked d

/-! The bytes after the base word. -/

/-- Whether a mask byte follows a base word (30_encoding R240 to R242): V = 1 in a format with a V bit. For a word whose
function no row claims, the opcode's format decides (log 18). -/
def wantsMask (w : Nat) : Bool :=
  w / 256 % 2 == 1 &&
    match w % 32 with
    | 2 => let fn := w / 2 ^ 34 % 64
           !(fn == 24 || (32 ≤ fn && fn ≤ 36) || (fn == 4 && w / 2 ^ 31 % 2 == 1))
    | 4 => w / 2 ^ 31 % 2 == 0
    | 3 | 5 | 6 | 7 | 8 | 9 | 10 | 11 | 12 | 13 | 14 | 16 | 17 | 18 | 19 | 20 | 21 | 22 | 23 | 25 | 26 => true
    | _ => false

/-- Looking for one postfix of a type (30_encoding R215): absent, cut off, or its payload and the bytes after it. -/
inductive Found where
  | no
  | cut
  | yes (payload : Nat) (rest : List Byte)

/-- The postfix of type `ty` with `n` bytes at the head of `bs`, if it stands there. -/
def findPostfix (ty n : Nat) (bs : List Byte) : Found :=
  match bs with
  | [] => .no
  | b :: _ =>
    if b.toNat == 31 + 32 * ty then
      if bs.length < n then .cut else .yes (fromBytes (bs.take n) / 256) (bs.drop n)
    else .no

/-- The postfixes at the head of `bs` (30_encoding R231, R234, R236): how many bytes they take and what they are. -/
inductive TailRead where
  | cut
  | bad (used : Nat)
  | good (used : Nat) (t : Tail)

/-- After the constant run: another constant word makes the run malformed; then at most one REGS. -/
def readRegs (w0 w1 : Option (BitVec 32)) (w2 : Option (BitVec 32 × BitVec 32)) (used : Nat) (bs : List Byte) : TailRead :=
  match findPostfix 0 5 bs, findPostfix 1 5 bs, findPostfix 2 5 bs with
  | .no, .no, .no =>
    match findPostfix 5 9 bs with
    | .no => .good used ⟨w0, w1, w2, none⟩
    | .cut => .cut
    | .yes v _ => .good (used + 9) ⟨w0, w1, w2, some (.ofNat 64 v)⟩
  | .cut, _, _ => .cut
  | _, .cut, _ => .cut
  | _, _, .cut => .cut
  | _, _, _ => .bad (used + 5)

/-- No type-2 word, or exactly two. -/
def readW2 (w0 w1 : Option (BitVec 32)) (used : Nat) (bs : List Byte) : TailRead :=
  match findPostfix 2 5 bs with
  | .no => readRegs w0 w1 none used bs
  | .cut => .cut
  | .yes a bs' =>
    match findPostfix 2 5 bs' with
    | .no => .bad (used + 5)
    | .cut => .cut
    | .yes b bs'' => readRegs w0 w1 (some (.ofNat 32 a, .ofNat 32 b)) (used + 10) bs''

def readW1 (w0 : Option (BitVec 32)) (used : Nat) (bs : List Byte) : TailRead :=
  match findPostfix 1 5 bs with
  | .no => readW2 w0 none used bs
  | .cut => .cut
  | .yes a bs' => readW2 w0 (some (.ofNat 32 a)) (used + 5) bs'

def readTail (bs : List Byte) : TailRead :=
  match findPostfix 0 5 bs with
  | .no => readW1 none 0 bs
  | .cut => .cut
  | .yes a bs' => readW1 (some (.ofNat 32 a)) 5 bs'

/-- A postfix reached on its own (30_encoding R235). -/
noncomputable def decLone (bs : List Byte) (ty : Nat) : Decoded :=
  let w := fromBytes (bs.take 5)
  if ty == 5 then
    if bs.length < 9 then .short else .done (.ofNat 48 w) 9 (.ok (.regs (.ofNat 64 (fromBytes (bs.take 9) / 256))))
  else if bs.length < 5 then .short
  else
    .done (.ofNat 48 w) 5 (.ok
      (match ty with
       | 0 => .pfx0 (.ofNat 32 (w / 256))
       | 1 => .pfx1 (.ofNat 32 (w / 256))
       | _ => .pfx2 (.ofNat 32 (w / 256))))

/-- The instruction with `base` bytes of base word and mask byte, the mask byte being there when `masked`. -/
noncomputable def decFull (bs : List Byte) (base : Nat) (masked : Bool) : Decoded :=
  if bs.length < base then .short else
    let all := fromBytes (bs.take base)
    let w := if masked then all % 2 ^ 40 else all
    let sixth : Byte := .ofNat 8 (all / 2 ^ 40)
    match readTail (bs.drop base) with
    | .cut => .short
    | .bad used => .done (.ofNat 48 all) (base + used) (.error .malformed)
    | .good used t =>
      let x : Ext := ⟨if masked then some (.ofByte sixth) else none, t⟩
      .done (.ofNat 48 all) (base + used) (decChecked w x (if masked then some sixth else none))

/-- How many of the bytes are the base word and the mask byte (30_encoding R203, R240). -/
def baseLen (bs : List Byte) : Nat :=
  match bs with
  | [] => 5
  | b :: _ => if b.toNat % 32 == 28 || (5 ≤ bs.length && wantsMask (fromBytes (bs.take 5))) then 6 else 5

/-- The decoder (30_encoding R204), total on any bytes. -/
noncomputable def decode (bs : List Byte) : Decoded :=
  match bs with
  | [] => .short
  | b :: _ =>
    let op := b.toNat % 32
    let ty := b.toNat / 32
    if op == 31 && (ty ≤ 2 || ty == 5) then decLone bs ty
    else if op == 28 then decFull bs 6 false
    else if bs.length < 5 then .short
    else if wantsMask (fromBytes (bs.take 5)) then decFull bs 6 true
    else decFull bs 5 false

/-- What the decoder reads from an instruction whose bits, numbered as spec/opcode_table.json numbers them, are `w`: the
bytes of `w`, least significant first (20_memory R101), followed by zeros. -/
noncomputable def decodeTableWord (_nbits w : Nat) : Option Instr :=
  match decode (toBytes 36 w) with
  | .done _ _ (.ok i) => some i
  | _ => none


/-! The encoder, from the same formats. Unused bits are written 0 (30_encoding R251). -/

def encR2 (fn b33 b31 : Nat) (o : R2) (x : Ext) : Nat :=
  join lR2 [2, o.size.code, x.v, o.rt.toNat, o.st.toNat, o.ra.toNat, o.sa.toNat, o.rb.toNat, o.sb.toNat, o.vec.vb, b31,
    o.vec.vc, b33, fn]
def encR2I (fn b33 b31 : Nat) (o : R2I) (x : Ext) : Nat :=
  join lR2 [2, o.size.code, x.v, o.rt.toNat, o.st.toNat, o.ra.toNat, o.sa.toNat, o.imm.toNat % 64, o.imm.toNat / 64 % 2,
    o.imm.toNat / 128, b31, o.vec.toNat, b33, fn]
def encR1 (fn : Nat) (o : R1) (x : Ext) : Nat :=
  join lR2 [2, o.size.code, x.v, o.rt.toNat, o.st.toNat, o.ra.toNat, o.sa.toNat, fn, 0, o.vec.vb, 0, o.vec.vc, 0, 1]
def encRtdR (o : RtdR) : Nat :=
  join lR2 [2, o.size.code, 0, o.rt.toNat, o.st.toNat, o.ra.toNat, o.sa.toNat, o.rb.toNat, o.sb.toNat, 0, 1,
    o.lr.toNat % 2, o.lr.toNat / 2, 4]
def encJmpC (o : JmpC) : Nat :=
  join lR2 [2, o.scale.code, 0, o.rt.toNat, 0, o.ra.toNat, 0, o.rb.toNat, o.sb.toNat, 0, 0, 0, 0, 24]
def encJmpD (o : JmpD) : Nat :=
  join lR2 [2, o.scale.code, 0, o.rt.toNat, o.op.toNat, o.ra.toNat, 0, o.rb.toNat, o.sb.toNat, 0, 1, 0, 0, 24]
def encRI (op b31 : Nat) (o : RI) (x : Ext) : Nat :=
  join lRI [op, o.size.code, x.v, o.rt.toNat, o.st.toNat, o.ra.toNat, o.sa.toNat, o.imm.toNat % 256, b31, o.vec.toNat,
    o.imm.toNat / 256]
def encRtdI (o : RtdI) : Nat :=
  join lRtdI [4, o.size.code, 0, o.rt.toNat, o.st.toNat, o.ra.toNat, o.sa.toNat, o.lr.toNat, 0, o.imm.toNat % 16, 1, 0,
    o.imm.toNat / 16]
def encRte (d2 : Nat) (o : RteOp) : Nat :=
  join lRtdI [4, o.size.code, 0, o.rt.toNat, o.st.toNat, o.ra.toNat, o.sa.toNat, 0, d2, o.arg.toNat, 1, 0, o.skip.toNat]
def encCsrR (fn : Nat) (o : CsrR) (x : Ext) : Nat :=
  join lCsr [3, fn, x.v, o.rt.toNat, o.st.toNat, o.ra.toNat, o.sa.toNat, o.regno.toNat % 256, o.s.toNat,
    o.regno.toNat / 256, 0, 0]
def encCsrI (fn : Nat) (o : CsrI) (x : Ext) : Nat :=
  join lCsr [3, fn, x.v, o.rt.toNat, o.st.toNat, o.imm.toNat % 64, o.imm.toNat / 64, o.regno.toNat % 256, o.s.toNat,
    o.regno.toNat / 256, 0, 1]
def encGetVl (o : GetVl) (x : Ext) : Nat :=
  join lCsr [3, 0, x.v, o.rt.toNat, o.st.toNat, 0, 0, 0x50, o.s.toNat, 0, 0, 0]
def encChk (o : ChkR) (x : Ext) : Nat :=
  join lChk [11, o.size.code, x.v, o.cn.toNat, 0, 0, o.ra.toNat, o.sa.toNat, o.rb.toNat, o.sb.toNat, o.vec.vb, 0,
    o.rc.toNat, o.vec.vc, 0]
def encChkI (o : ChkI) (x : Ext) : Nat :=
  join lChkI [11, o.size.code, x.v, o.cn.toNat, o.imm.toNat % 16, o.ra.toNat, o.sa.toNat, o.rb.toNat, o.sb.toNat,
    o.vec.vb, 1, o.vec.vc, o.imm.toNat / 16]
def encF2 (fn rm : Nat) (o : F2) (x : Ext) : Nat :=
  join lFlt [12, o.prec.code, x.v, o.rt.toNat, o.st.toNat, o.ra.toNat, o.sa.toNat, o.rb.toNat, o.sb.toNat, o.vec.vb,
    o.vec.vc, rm, fn]
def encF1 (fn : Nat) (o : F1) (x : Ext) : Nat :=
  join lFlt [12, o.prec.code, x.v, o.rt.toNat, o.st.toNat, o.ra.toNat, o.sa.toNat, fn, 0, o.vec.vb, o.vec.vc, 0, 1]
def encFScI (o : FScI) (x : Ext) : Nat :=
  join lFlt [12, o.prec.code, x.v, o.rt.toNat, o.st.toNat, o.ra.toNat, o.sa.toNat, o.imm.toNat % 64,
    o.imm.toNat / 64 % 2, o.imm.toNat / 128, o.vec.toNat, 1, 0]
def encFI (op : Nat) (o : FI) (x : Ext) : Nat :=
  join lFI [op, o.prec.code, x.v, o.rt.toNat, o.st.toNat, o.ra.toNat, o.sa.toNat, o.imm.toNat % 512, o.vec.toNat,
    o.imm.toNat / 512]
def encBitR (fn : Nat) (o : BitR) (x : Ext) : Nat :=
  join lR3 [13, fn, x.v, o.rt.toNat, o.st.toNat, o.ra.toNat, o.sa.toNat, o.rb.toNat, o.sb.toNat, o.vec.vb, 0,
    o.rc.toNat, o.vec.vc, 0]
def encBitI (fn : Nat) (o : BitI) (x : Ext) : Nat :=
  join lBitI [13, fn, x.v, o.rt.toNat, o.st.toNat, o.ra.toNat, o.sa.toNat, o.first.toNat, o.last.toNat, 0, o.vec.toNat, 1]
def encSh (fn op2 : Nat) (o : R2) (x : Ext) : Nat :=
  join lShift [14, o.size.code, x.v, o.rt.toNat, o.st.toNat, o.ra.toNat, o.sa.toNat, o.rb.toNat, o.sb.toNat, o.vec.vb, 0,
    o.vec.vc, op2, fn]
def encShI (fn op2 : Nat) (o : ShI) (x : Ext) : Nat :=
  join lShift [14, o.size.code, x.v, o.rt.toNat, o.st.toNat, o.ra.toNat, o.sa.toNat, o.imm.toNat % 64, o.imm.toNat / 64,
    0, 0, o.vec.toNat, op2, fn]
def encVshI (fn : Nat) (o : VshI) (x : Ext) : Nat :=
  join lShift [14, o.size.code, x.v, o.rt.toNat, o.st.toNat, o.ra.toNat, o.sa.toNat, o.imm.toNat % 64, o.imm.toNat / 64,
    1, 0, 0, 0, fn]
def encMemD (op f sz v : Nat) (o : MemD) : Nat :=
  join lMemD [op, sz, v, o.disp.toNat % 128, o.rt.toNat, o.sx.toNat, o.rb.toNat, o.sb.toNat, o.vd.toNat,
    o.disp.toNat / 128, o.ca.toNat, f]
def encMemX (op f sz v : Nat) (o : MemX) : Nat :=
  join lMemX [op, 7, v, sz, o.ca.toNat, o.u2.toNat, o.rt.toNat, o.sx.toNat, o.rb.toNat, o.sb.toNat, o.vec.vb, o.sc.toNat,
    o.rc.toNat, o.vec.vc, f]
def encJmpA (o : JmpA) : Nat :=
  join lRI [24, o.sz.toNat, 0, o.rt.toNat, 0, o.ra.toNat, 0, o.imm.toNat % 256, 0, 0, o.imm.toNat / 256]
def encJmpB (o : JmpB) : Nat :=
  join lRI [24, o.size.code, 0, o.rt.toNat, o.op.toNat, o.ra.toNat, 0, o.imm.toNat % 256, 1, 0, o.imm.toNat / 256]
def encTabJ (o : TabJ) : Nat :=
  join lRI [24, o.size.code, 0, o.rt.toNat, o.op.toNat, o.ra.toNat, 1, o.limit.toNat, 1, 0, 0]
def encXchg (o : Xchg) (x : Ext) : Nat :=
  join lR3 [25, o.size.code, x.v, o.rt.toNat, o.st.toNat, o.ra.toNat, o.sa.toNat, o.rb.toNat, o.sb.toNat, 0, o.sc.toNat,
    o.rc.toNat, 0, 0]
def encPair (o : Pair) (x : Ext) : Nat :=
  join lR3 [25, o.size.code, x.v, o.disp.toNat % 64, o.disp.toNat / 64, o.ra.toNat, o.sa.toNat, o.rb.toNat, o.sb.toNat,
    0, o.sc.toNat, o.rc.toNat, 0, 1]
def encAmoR (fn : Nat) (o : AmoR) (x : Ext) : Nat :=
  join lAmo [26, o.size.code, x.v, o.rt.toNat, o.st.toNat, o.ra.toNat, o.sa.toNat, o.rb.toNat, o.sb.toNat, 0, 0, 0,
    o.rl.toNat, o.aq.toNat, fn]
def encAmoI (fn : Nat) (o : AmoI) (x : Ext) : Nat :=
  join lAmo [26, o.size.code, x.v, o.rt.toNat, o.st.toNat, o.ra.toNat, o.sa.toNat, o.imm.toNat % 64,
    o.imm.toNat / 64 % 2, o.imm.toNat / 128, 0, 0, o.rl.toNat, o.aq.toNat, fn]
def encBlk (fn : Nat) (o : Blk) (x : Ext) : Nat :=
  join lBlk [26, o.size.code, x.v, o.bi.toNat, o.ai.toNat, o.ca.toNat, 0, o.ra.toNat, o.sa.toNat, o.rb.toNat, o.sb.toNat,
    o.vb.toNat, 1, o.vc.toNat, o.cb.toNat, fn]
def encBSet (o : BSetOp) (x : Ext) : Nat :=
  join lBlk [26, o.size.code, x.v, o.bi.toNat % 4, o.bi.toNat / 4, 0, 0, o.ra.toNat, o.sa.toNat, o.rb.toNat, o.sb.toNat,
    o.vb.toNat, 1, o.vc.toNat, o.ca.toNat, 3]
def encBr (cond cm : Nat) (o : Br) : Nat := join lB [27, cond, o.rm.toNat, o.rn.toNat, cm, o.disp.toNat]
def encBrC (op cm : Nat) (o : BrC) : Nat := join lB [op, o.cond.toNat, o.rm.toNat, o.rn.toNat, cm, o.disp.toNat]
def encLBr (cond cm : Nat) (o : LBr) : Nat := join lLB [28, cond, o.rm.toNat, o.rn.toNat, cm, o.disp.toNat]
def encLBrC (cm : Nat) (o : LBrC) : Nat := join lLB [28, o.cond.toNat, o.rm.toNat, o.rn.toNat, cm, o.disp.toNat]
def encTrapR (o : TrapR) : Nat :=
  join lRI [0, 0, 0, o.rt.toNat, 0, o.ra.toNat, o.sa.toNat, o.data.toNat % 256, 0, 0, o.data.toNat / 256]
def encTrapI (o : TrapI) : Nat :=
  join lTrapI [0, o.vec.toNat / 256, 0, 0, o.rt.toNat, o.vec.toNat % 256, o.data.toNat % 256, 1, 0, o.data.toNat / 256]

/-- The base word of an instruction. -/
def encWord : Instr → Nat
  | .brk _ => 0
  | .trapRa o _ => encTrapR o
  | .trapImm o _ => encTrapI o
  | .add o x => encR2 4 0 0 o x
  | .sub o x => encR2 4 0 0 o x
  | .rtdReg o _ => encRtdR o
  | .rtsReg o _ => encRtdR o
  | .cmp o x => encR2 5 0 o.sw.toNat o x
  | .cmpsB o x => encR2 5 1 0 o x
  | .mul o x => encR2 6 0 0 o x
  | .mulu o x => encR2 6 0 1 o x
  | .mulsu o x => encR2 6 1 1 o x
  | .div o x => encR2 7 0 0 o x
  | .divu o x => encR2 7 0 1 o x
  | .divsu o x => encR2 7 1 0 o x
  | .and o x => encR2 8 0 0 o x
  | .nand o x => encR2 8 0 0 o x
  | .or o x => encR2 9 0 0 o x
  | .nor o x => encR2 9 0 0 o x
  | .eor o x => encR2 10 0 0 o x
  | .enor o x => encR2 10 0 0 o x
  | .mulh o x => encR2 12 0 0 o x
  | .muluh o x => encR2 12 0 1 o x
  | .chrndx o x => encR2 13 0 0 o x
  | .chrndxImm o x => encR2I 13 1 0 o x
  | .clmul o x => encR2 14 0 0 o x
  | .clmulImm o x => encR2I 14 0 1 o x
  | .mod o x => encR2 15 0 0 o x
  | .modu o x => encR2 15 0 1 o x
  | .bmap o x => encR2 19 0 0 o x
  | .jmpIdx o _ => encJmpC o
  | .jmpIdxInd o _ => encJmpD o
  | .jsrIdx o _ => encJmpC o
  | .jsrIdxInd o _ => encJmpD o
  | .seq o x => encR2 26 0 0 o x
  | .sne o x => encR2 26 0 0 o x
  | .slt o x => encR2 27 0 o.sw.toNat o x
  | .sge o x => encR2 27 0 o.sw.toNat o x
  | .sle o x => encR2 28 0 o.sw.toNat o x
  | .sgt o x => encR2 28 0 o.sw.toNat o x
  | .sltu o x => encR2 29 0 o.sw.toNat o x
  | .sgeu o x => encR2 29 0 o.sw.toNat o x
  | .sleu o x => encR2 30 0 o.sw.toNat o x
  | .sgtu o x => encR2 30 0 o.sw.toNat o x
  | .pred o _ => join lPred [2, o.cond.toNat, o.rn.toNat, o.imm.toNat, 1, 0, 32]
  | .carry o _ => join lCarry [2, 0, o.rn.toNat, 0, 0, o.imm.toNat, 0, 0, 33]
  | .rep o _ => join lRep [2, 0, 0, o.cnd.toNat, o.cnt.toNat, o.d.toNat, o.imm.toNat, 0, 34]
  | .atom o _ => join lAtom [2, o.sz.toNat, o.v.toNat, o.rt.toNat, o.st.toNat, o.imm.toNat, 0, 35]
  | .round imm _ => join lRound [2, 0, imm.toNat, 1, 0, 36]
  | .v2bits o x => encR2 40 0 0 o x
  | .dif w _ => w.toNat
  | .ptrdif w _ => w.toNat
  | .revbitMap w _ => w.toNat
  | .bits2v w _ => w.toNat
  | .vex w _ => w.toNat
  | .veins w _ => w.toNat
  | .vgndx w _ => w.toNat
  | .sgeuMap w _ => w.toNat
  | .sgtuMap w _ => w.toNat
  | .min w _ => w.toNat
  | .max w _ => w.toNat
  | .bmm w _ => w.toNat
  | .mux w _ => w.toNat
  | .aes64ks1i w _ => w.toNat
  | .aes64ks2 w _ => w.toNat
  | .sm4ed o x => encR2 60 0 0 o x
  | .sm4ks o x => encR2 61 0 0 o x
  | .cntlz o x => encR1 0 o x
  | .cntlo o x => encR1 0 o x
  | .cntpop o x => encR1 2 o x
  | .abs o x => encR1 3 o x
  | .sqrt o x => encR1 4 o x
  | .revbit o x => encR1 5 o x
  | .sm3p0 o x => encR1 14 o x
  | .sm3p1 o x => encR1 15 o x
  | .aes64ds o x => encR1 18 o x
  | .aes64dsm o x => encR1 19 o x
  | .aes64es o x => encR1 20 o x
  | .aes64esm o x => encR1 21 o x
  | .aes64im w _ => w.toNat
  | .sha256sig0 o x => encR1 24 o x
  | .sha256sig1 o x => encR1 25 o x
  | .sha256sum0 o x => encR1 26 o x
  | .sha256sum1 o x => encR1 27 o x
  | .sha512sig0 o x => encR1 28 o x
  | .sha512sig1 o x => encR1 29 o x
  | .sha512sum0 o x => encR1 30 o x
  | .sha512sum1 o x => encR1 31 o x
  | .csrrd o x => encCsrR 0 o x
  | .csrrdImm o x => encCsrI 0 o x
  | .csrwr o x => encCsrR 1 o x
  | .csrwrImm o x => encCsrI 1 o x
  | .csrrs o x => encCsrR 2 o x
  | .csrrsImm o x => encCsrI 2 o x
  | .csrrc o x => encCsrR 3 o x
  | .csrrcImm o x => encCsrI 3 o x
  | .csreor o x => encCsrR 4 o x
  | .csreorImm o x => encCsrI 4 o x
  | .cpuid o x => encCsrR 7 o x
  | .cpuidImm o x => encCsrI 7 o x
  | .getvl o x => encGetVl o x
  | .setvl o x => encCsrR 1 o x
  | .setvlImm o x => encCsrI 1 o x
  | .addi o x => encRI 4 0 o x
  | .rtdImm o _ => encRtdI o
  | .rtsImm o _ => encRtdI o
  | .rte1 o _ => encRte 1 o
  | .rte2 o _ => encRte 2 o
  | .cmpi o x => encRI 5 o.sw.toNat o x
  | .muli o x => encRI 6 0 o x
  | .mului o x => encRI 6 1 o x
  | .divi o x => encRI 7 o.sw.toNat o x
  | .andi o x => encRI 8 0 o x
  | .nandi o x => encRI 8 0 o x
  | .ori o x => encRI 9 0 o x
  | .nori o x => encRI 9 0 o x
  | .orf o x => encRI 9 1 o x
  | .eori o x => encRI 10 o.sw.toNat o x
  | .enori o x => encRI 10 o.sw.toNat o x
  | .chk o x => encChk o x
  | .chki o x => encChkI o x
  | .bmapImm o x => encRI 19 0 o x
  | .fscaleb o x => encF2 0 0 o x
  | .fscalebImm o x => encFScI o x
  | .fadd o x => encF2 4 o.rm.code o x
  | .fsub o x => encF2 4 o.rm.code o x
  | .fcmp o x => encF2 5 0 o x
  | .fmul o x => encF2 6 o.rm.code o x
  | .fdiv o x => encF2 7 o.rm.code o x
  | .fseq o x => encF2 8 0 o x
  | .fsne o x => encF2 8 0 o x
  | .fsle o x => encF2 8 2 o x
  | .fslt o x => encF2 8 3 o x
  | .fsge o x => encF2 8 4 o x
  | .fsgt o x => encF2 8 5 o x
  | .fmin w _ => w.toNat
  | .fmax w _ => w.toNat
  | .fnxt w _ => w.toNat
  | .frem w _ => w.toNat
  | .ftrunc o x => encF1 21 o x
  | .fabs o x => encF1 32 o x
  | .fneg o x => encF1 34 o x
  | .ftoi w _ => w.toNat
  | .itof w _ => w.toNat
  | .fsign w _ => w.toNat
  | .fsig w _ => w.toNat
  | .fsqrt w _ => w.toNat
  | .fs2d w _ => w.toNat
  | .fs2q w _ => w.toNat
  | .fd2q w _ => w.toNat
  | .isnan w _ => w.toNat
  | .finite w _ => w.toNat
  | .fres w _ => w.toNat
  | .fd2s w _ => w.toNat
  | .fq2s w _ => w.toNat
  | .fq2d w _ => w.toNat
  | .fclass w _ => w.toNat
  | .fma w _ => w.toNat
  | .faddi o x => encFI 20 o x
  | .fcmpi o x => encFI 21 o x
  | .fmuli o x => encFI 22 o x
  | .fdivi o x => encFI 23 o x
  | .clr o x => encBitR 0 o x
  | .clrImm o x => encBitI 0 o x
  | .set o x => encBitR 1 o x
  | .setImm o x => encBitI 1 o x
  | .com o x => encBitR 2 o x
  | .comImm o x => encBitI 2 o x
  | .sbx o x => encBitR 3 o x
  | .sbxImm o x => encBitI 3 o x
  | .extu o x => encBitR 4 o x
  | .extuImm o x => encBitI 4 o x
  | .exts o x => encBitR 5 o x
  | .extsImm o x => encBitI 5 o x
  | .dep o x => encBitR 6 o x
  | .depImm o x => encBitI 6 o x
  | .bitrr w _ => w.toNat
  | .asl o x => encSh 0 0 o x
  | .aslImm o x => encShI 8 0 o x
  | .asr o x => encSh 1 0 o x
  | .asrImm o x => encShI 9 0 o x
  | .lsl o x => encSh 2 0 o x
  | .lslImm o x => encShI 10 0 o x
  | .lsland o x => encSh 2 1 o x
  | .lslandImm o x => encShI 10 1 o x
  | .lslor o x => encSh 2 2 o x
  | .lslorImm o x => encShI 10 2 o x
  | .lslxor o x => encSh 2 3 o x
  | .lslxorImm o x => encShI 10 3 o x
  | .lsr o x => encSh 3 0 o x
  | .lsrImm o x => encShI 11 0 o x
  | .rol o x => encSh 4 0 o x
  | .rolImm o x => encShI 12 0 o x
  | .ror o x => encSh 5 0 o x
  | .rorImm o x => encShI 13 0 o x
  | .vshlv o x => encSh 16 0 o x
  | .vshrv o x => encSh 17 0 o x
  | .vshlvi o x => encVshI 24 o x
  | .vshrvi o x => encVshI 25 o x
  | .load z o x => encMemD 16 0 z.code x.v o
  | .loadX z o x => encMemX 16 0 z.code x.v o
  | .loadg o m _ => encMemD 16 0 6 m.isSome.toNat o
  | .loadgX o m _ => encMemX 16 0 6 m.isSome.toNat o
  | .fload p o x => encMemD 16 1 p.code x.v o
  | .floadX p o x => encMemX 16 1 p.code x.v o
  | .loadz z o x => encMemD 17 0 z.code x.v o
  | .loadzX z o x => encMemX 17 0 z.code x.v o
  | .la o x => encMemD 17 1 0 x.v o
  | .laX o x => encMemX 17 1 0 x.v o
  | .stptrT o x => encMemD 17 1 2 x.v o
  | .stptrTX o x => encMemX 17 1 2 x.v o
  | .stptrO o x => encMemD 17 1 3 x.v o
  | .stptrOX o x => encMemX 17 1 3 x.v o
  | .stptrH o x => encMemD 17 1 4 x.v o
  | .stptrHX o x => encMemX 17 1 4 x.v o
  | .cache o x => encMemD 17 1 5 x.v o
  | .cacheX o x => encMemX 17 1 5 x.v o
  | .store z o x => encMemD 18 0 z.code x.v o
  | .storeX z o x => encMemX 18 0 z.code x.v o
  | .storeg o m _ => encMemD 18 0 6 m.isSome.toNat o
  | .storegX o m _ => encMemX 18 0 6 m.isSome.toNat o
  | .fstore p o x => encMemD 18 1 p.code x.v o
  | .fstoreX p o x => encMemX 18 1 p.code x.v o
  | .jmp o _ => encJmpA o
  | .jmpInd o _ => encJmpB o
  | .jsr o _ => encJmpA o
  | .jsrInd o _ => encJmpB o
  | .braTable o _ => encTabJ o
  | .bsrTable o _ => encTabJ o
  | .cmpxchg o x => encXchg o x
  | .storePair o x => encPair o x
  | .ammin o x => encAmoR 2 o x
  | .amadd o x => encAmoR 4 o x
  | .amaddImm o x => encAmoI 20 o x
  | .amasl o x => encAmoR 6 o x
  | .amaslImm o x => encAmoI 22 o x
  | .amlsr o x => encAmoR 7 o x
  | .amlsrImm o x => encAmoI 23 o x
  | .amand o x => encAmoR 8 o x
  | .amandImm o x => encAmoI 24 o x
  | .amor o x => encAmoR 9 o x
  | .amorImm o x => encAmoI 25 o x
  | .ameor o x => encAmoR 10 o x
  | .ameorImm o x => encAmoI 26 o x
  | .amminu o x => encAmoR 12 o x
  | .amswap w _ => w.toNat
  | .ammax w _ => w.toNat
  | .ammaxu w _ => w.toNat
  | .amcas w _ => w.toNat
  | .amswapImm w _ => w.toNat
  | .amminImm w _ => w.toNat
  | .ammaxImm w _ => w.toNat
  | .amminuImm w _ => w.toNat
  | .ammaxuImm w _ => w.toNat
  | .amcasImm w _ => w.toNat
  | .bcmp o x => encBlk 0 o x
  | .bfnd o x => encBlk 1 o x
  | .bmov o x => encBlk 2 o x
  | .bset o x => encBSet o x
  | .beq o _ => encBr 0 0 o
  | .bne o _ => encBr 1 0 o
  | .blt o _ => encBr 2 0 o
  | .ble o _ => encBr 3 0 o
  | .bge o _ => encBr 4 0 o
  | .bgt o _ => encBr 5 0 o
  | .bbc o _ => encBr 6 0 o
  | .bbs o _ => encBr 7 0 o
  | .bbcImm o _ => encBr 8 0 o
  | .bbsImm o _ => encBr 9 0 o
  | .bltu o _ => encBr 10 0 o
  | .bleu o _ => encBr 11 0 o
  | .bgeu o _ => encBr 12 0 o
  | .bgtu o _ => encBr 13 0 o
  | .fbeq o _ => encBr 0 2 o
  | .fbne o _ => encBr 1 2 o
  | .fbgt o _ => encBr 2 2 o
  | .fbugt o _ => encBr 3 2 o
  | .fbge o _ => encBr 4 2 o
  | .fbuge o _ => encBr 5 2 o
  | .fblt o _ => encBr 6 2 o
  | .fbult o _ => encBr 7 2 o
  | .fble o _ => encBr 8 2 o
  | .fbule o _ => encBr 9 2 o
  | .fbgl o _ => encBr 10 2 o
  | .fbugl o _ => encBr 11 2 o
  | .fbord o _ => encBr 12 2 o
  | .fbun o _ => encBr 13 2 o
  | .pbcc o _ => encBrC 27 1 o
  | .dfbcc o _ => encBrC 27 3 o
  | .bra disp _ => join lBL2 [27, 14, 0, disp.toNat / 131072, disp.toNat % 131072]
  | .bsr lr disp _ => join lBL2 [27, 15, lr.toNat, disp.toNat / 131072, disp.toNat % 131072]
  | .lbeq o _ => encLBr 0 0 o
  | .lbne o _ => encLBr 1 0 o
  | .lblt o _ => encLBr 2 0 o
  | .lble o _ => encLBr 3 0 o
  | .lbge o _ => encLBr 4 0 o
  | .lbgt o _ => encLBr 5 0 o
  | .lbbc o _ => encLBr 6 0 o
  | .lbbs o _ => encLBr 7 0 o
  | .lbbcImm o _ => encLBr 8 0 o
  | .lbbsImm o _ => encLBr 9 0 o
  | .lbltu o _ => encLBr 10 0 o
  | .lbleu o _ => encLBr 11 0 o
  | .lbgeu o _ => encLBr 12 0 o
  | .lbgtu o _ => encLBr 13 0 o
  | .lfbeq o _ => encLBr 0 2 o
  | .lfbne o _ => encLBr 1 2 o
  | .lfbgt o _ => encLBr 2 2 o
  | .lfbugt o _ => encLBr 3 2 o
  | .lfbge o _ => encLBr 4 2 o
  | .lfbuge o _ => encLBr 5 2 o
  | .lfblt o _ => encLBr 6 2 o
  | .lfbult o _ => encLBr 7 2 o
  | .lfble o _ => encLBr 8 2 o
  | .lfbule o _ => encLBr 9 2 o
  | .lfbgl o _ => encLBr 10 2 o
  | .lfbugl o _ => encLBr 11 2 o
  | .lfbord o _ => encLBr 12 2 o
  | .lfbun o _ => encLBr 13 2 o
  | .lpbcc o _ => encLBrC 1 o
  | .ldfbcc o _ => encLBrC 3 o
  | .lbra disp _ => join lLBL2 [28, 14, 0, disp.toNat / 33554432, disp.toNat % 33554432]
  | .lbsr lr disp _ => join lLBL2 [28, 15, lr.toNat, disp.toNat / 33554432, disp.toNat % 33554432]
  | .dbcc o _ => encBrC 29 0 o
  | .dbccFloat o _ => encBrC 29 2 o
  | .dbccPosit o _ => encBrC 29 1 o
  | .dbccDecimal o _ => encBrC 29 3 o
  | .pfx0 imm => 31 + 256 * imm.toNat
  | .pfx1 imm => 63 + 256 * imm.toNat
  | .pfx2 imm => 95 + 256 * imm.toNat
  | .regs list => 191 + 256 * list.toNat
  | .nop _ => 0xFFFFFFFFFF
  | .vaddVV o x => encR2 4 0 0 o x
  | .vaddVS o x => encR2 4 0 0 o x
  | .vaddImm o x => encRI 4 0 o x
  | .vandVV o x => encR2 8 0 0 o x
  | .vandVS o x => encR2 8 0 0 o x
  | .vandImm o x => encRI 8 0 o x

/-- The byte after the base word: the mask byte, or the register mask of LOADG and STOREG (30_encoding R240; 47_memory_ops
R616). -/
def Instr.sixth : Instr → Option Nat
  | .brk _ => none
  | .trapRa _ _ => none
  | .trapImm _ _ => none
  | .add _ x => x.mask.map MaskByte.code
  | .sub _ x => x.mask.map MaskByte.code
  | .rtdReg _ _ => none
  | .rtsReg _ _ => none
  | .cmp _ x => x.mask.map MaskByte.code
  | .cmpsB _ x => x.mask.map MaskByte.code
  | .mul _ x => x.mask.map MaskByte.code
  | .mulu _ x => x.mask.map MaskByte.code
  | .mulsu _ x => x.mask.map MaskByte.code
  | .div _ x => x.mask.map MaskByte.code
  | .divu _ x => x.mask.map MaskByte.code
  | .divsu _ x => x.mask.map MaskByte.code
  | .and _ x => x.mask.map MaskByte.code
  | .nand _ x => x.mask.map MaskByte.code
  | .or _ x => x.mask.map MaskByte.code
  | .nor _ x => x.mask.map MaskByte.code
  | .eor _ x => x.mask.map MaskByte.code
  | .enor _ x => x.mask.map MaskByte.code
  | .mulh _ x => x.mask.map MaskByte.code
  | .muluh _ x => x.mask.map MaskByte.code
  | .chrndx _ x => x.mask.map MaskByte.code
  | .chrndxImm _ x => x.mask.map MaskByte.code
  | .clmul _ x => x.mask.map MaskByte.code
  | .clmulImm _ x => x.mask.map MaskByte.code
  | .mod _ x => x.mask.map MaskByte.code
  | .modu _ x => x.mask.map MaskByte.code
  | .bmap _ x => x.mask.map MaskByte.code
  | .jmpIdx _ _ => none
  | .jmpIdxInd _ _ => none
  | .jsrIdx _ _ => none
  | .jsrIdxInd _ _ => none
  | .seq _ x => x.mask.map MaskByte.code
  | .sne _ x => x.mask.map MaskByte.code
  | .slt _ x => x.mask.map MaskByte.code
  | .sge _ x => x.mask.map MaskByte.code
  | .sle _ x => x.mask.map MaskByte.code
  | .sgt _ x => x.mask.map MaskByte.code
  | .sltu _ x => x.mask.map MaskByte.code
  | .sgeu _ x => x.mask.map MaskByte.code
  | .sleu _ x => x.mask.map MaskByte.code
  | .sgtu _ x => x.mask.map MaskByte.code
  | .pred _ _ => none
  | .carry _ _ => none
  | .rep _ _ => none
  | .atom _ _ => none
  | .round _ _ => none
  | .v2bits _ x => x.mask.map MaskByte.code
  | .dif _ x => x.mask.map MaskByte.code
  | .ptrdif _ x => x.mask.map MaskByte.code
  | .revbitMap _ x => x.mask.map MaskByte.code
  | .bits2v _ x => x.mask.map MaskByte.code
  | .vex _ x => x.mask.map MaskByte.code
  | .veins _ x => x.mask.map MaskByte.code
  | .vgndx _ x => x.mask.map MaskByte.code
  | .sgeuMap _ x => x.mask.map MaskByte.code
  | .sgtuMap _ x => x.mask.map MaskByte.code
  | .min _ x => x.mask.map MaskByte.code
  | .max _ x => x.mask.map MaskByte.code
  | .bmm _ x => x.mask.map MaskByte.code
  | .mux _ x => x.mask.map MaskByte.code
  | .aes64ks1i _ x => x.mask.map MaskByte.code
  | .aes64ks2 _ x => x.mask.map MaskByte.code
  | .sm4ed _ x => x.mask.map MaskByte.code
  | .sm4ks _ x => x.mask.map MaskByte.code
  | .cntlz _ x => x.mask.map MaskByte.code
  | .cntlo _ x => x.mask.map MaskByte.code
  | .cntpop _ x => x.mask.map MaskByte.code
  | .abs _ x => x.mask.map MaskByte.code
  | .sqrt _ x => x.mask.map MaskByte.code
  | .revbit _ x => x.mask.map MaskByte.code
  | .sm3p0 _ x => x.mask.map MaskByte.code
  | .sm3p1 _ x => x.mask.map MaskByte.code
  | .aes64ds _ x => x.mask.map MaskByte.code
  | .aes64dsm _ x => x.mask.map MaskByte.code
  | .aes64es _ x => x.mask.map MaskByte.code
  | .aes64esm _ x => x.mask.map MaskByte.code
  | .aes64im _ x => x.mask.map MaskByte.code
  | .sha256sig0 _ x => x.mask.map MaskByte.code
  | .sha256sig1 _ x => x.mask.map MaskByte.code
  | .sha256sum0 _ x => x.mask.map MaskByte.code
  | .sha256sum1 _ x => x.mask.map MaskByte.code
  | .sha512sig0 _ x => x.mask.map MaskByte.code
  | .sha512sig1 _ x => x.mask.map MaskByte.code
  | .sha512sum0 _ x => x.mask.map MaskByte.code
  | .sha512sum1 _ x => x.mask.map MaskByte.code
  | .csrrd _ x => x.mask.map MaskByte.code
  | .csrrdImm _ x => x.mask.map MaskByte.code
  | .csrwr _ x => x.mask.map MaskByte.code
  | .csrwrImm _ x => x.mask.map MaskByte.code
  | .csrrs _ x => x.mask.map MaskByte.code
  | .csrrsImm _ x => x.mask.map MaskByte.code
  | .csrrc _ x => x.mask.map MaskByte.code
  | .csrrcImm _ x => x.mask.map MaskByte.code
  | .csreor _ x => x.mask.map MaskByte.code
  | .csreorImm _ x => x.mask.map MaskByte.code
  | .cpuid _ x => x.mask.map MaskByte.code
  | .cpuidImm _ x => x.mask.map MaskByte.code
  | .getvl _ x => x.mask.map MaskByte.code
  | .setvl _ x => x.mask.map MaskByte.code
  | .setvlImm _ x => x.mask.map MaskByte.code
  | .addi _ x => x.mask.map MaskByte.code
  | .rtdImm _ _ => none
  | .rtsImm _ _ => none
  | .rte1 _ _ => none
  | .rte2 _ _ => none
  | .cmpi _ x => x.mask.map MaskByte.code
  | .muli _ x => x.mask.map MaskByte.code
  | .mului _ x => x.mask.map MaskByte.code
  | .divi _ x => x.mask.map MaskByte.code
  | .andi _ x => x.mask.map MaskByte.code
  | .nandi _ x => x.mask.map MaskByte.code
  | .ori _ x => x.mask.map MaskByte.code
  | .nori _ x => x.mask.map MaskByte.code
  | .orf _ x => x.mask.map MaskByte.code
  | .eori _ x => x.mask.map MaskByte.code
  | .enori _ x => x.mask.map MaskByte.code
  | .chk _ x => x.mask.map MaskByte.code
  | .chki _ x => x.mask.map MaskByte.code
  | .bmapImm _ x => x.mask.map MaskByte.code
  | .fscaleb _ x => x.mask.map MaskByte.code
  | .fscalebImm _ x => x.mask.map MaskByte.code
  | .fadd _ x => x.mask.map MaskByte.code
  | .fsub _ x => x.mask.map MaskByte.code
  | .fcmp _ x => x.mask.map MaskByte.code
  | .fmul _ x => x.mask.map MaskByte.code
  | .fdiv _ x => x.mask.map MaskByte.code
  | .fseq _ x => x.mask.map MaskByte.code
  | .fsne _ x => x.mask.map MaskByte.code
  | .fsle _ x => x.mask.map MaskByte.code
  | .fslt _ x => x.mask.map MaskByte.code
  | .fsge _ x => x.mask.map MaskByte.code
  | .fsgt _ x => x.mask.map MaskByte.code
  | .fmin _ x => x.mask.map MaskByte.code
  | .fmax _ x => x.mask.map MaskByte.code
  | .fnxt _ x => x.mask.map MaskByte.code
  | .frem _ x => x.mask.map MaskByte.code
  | .ftrunc _ x => x.mask.map MaskByte.code
  | .fabs _ x => x.mask.map MaskByte.code
  | .fneg _ x => x.mask.map MaskByte.code
  | .ftoi _ x => x.mask.map MaskByte.code
  | .itof _ x => x.mask.map MaskByte.code
  | .fsign _ x => x.mask.map MaskByte.code
  | .fsig _ x => x.mask.map MaskByte.code
  | .fsqrt _ x => x.mask.map MaskByte.code
  | .fs2d _ x => x.mask.map MaskByte.code
  | .fs2q _ x => x.mask.map MaskByte.code
  | .fd2q _ x => x.mask.map MaskByte.code
  | .isnan _ x => x.mask.map MaskByte.code
  | .finite _ x => x.mask.map MaskByte.code
  | .fres _ x => x.mask.map MaskByte.code
  | .fd2s _ x => x.mask.map MaskByte.code
  | .fq2s _ x => x.mask.map MaskByte.code
  | .fq2d _ x => x.mask.map MaskByte.code
  | .fclass _ x => x.mask.map MaskByte.code
  | .fma _ _ => none
  | .faddi _ x => x.mask.map MaskByte.code
  | .fcmpi _ x => x.mask.map MaskByte.code
  | .fmuli _ x => x.mask.map MaskByte.code
  | .fdivi _ x => x.mask.map MaskByte.code
  | .clr _ x => x.mask.map MaskByte.code
  | .clrImm _ x => x.mask.map MaskByte.code
  | .set _ x => x.mask.map MaskByte.code
  | .setImm _ x => x.mask.map MaskByte.code
  | .com _ x => x.mask.map MaskByte.code
  | .comImm _ x => x.mask.map MaskByte.code
  | .sbx _ x => x.mask.map MaskByte.code
  | .sbxImm _ x => x.mask.map MaskByte.code
  | .extu _ x => x.mask.map MaskByte.code
  | .extuImm _ x => x.mask.map MaskByte.code
  | .exts _ x => x.mask.map MaskByte.code
  | .extsImm _ x => x.mask.map MaskByte.code
  | .dep _ x => x.mask.map MaskByte.code
  | .depImm _ x => x.mask.map MaskByte.code
  | .bitrr _ x => x.mask.map MaskByte.code
  | .asl _ x => x.mask.map MaskByte.code
  | .aslImm _ x => x.mask.map MaskByte.code
  | .asr _ x => x.mask.map MaskByte.code
  | .asrImm _ x => x.mask.map MaskByte.code
  | .lsl _ x => x.mask.map MaskByte.code
  | .lslImm _ x => x.mask.map MaskByte.code
  | .lsland _ x => x.mask.map MaskByte.code
  | .lslandImm _ x => x.mask.map MaskByte.code
  | .lslor _ x => x.mask.map MaskByte.code
  | .lslorImm _ x => x.mask.map MaskByte.code
  | .lslxor _ x => x.mask.map MaskByte.code
  | .lslxorImm _ x => x.mask.map MaskByte.code
  | .lsr _ x => x.mask.map MaskByte.code
  | .lsrImm _ x => x.mask.map MaskByte.code
  | .rol _ x => x.mask.map MaskByte.code
  | .rolImm _ x => x.mask.map MaskByte.code
  | .ror _ x => x.mask.map MaskByte.code
  | .rorImm _ x => x.mask.map MaskByte.code
  | .vshlv _ x => x.mask.map MaskByte.code
  | .vshrv _ x => x.mask.map MaskByte.code
  | .vshlvi _ x => x.mask.map MaskByte.code
  | .vshrvi _ x => x.mask.map MaskByte.code
  | .load _ _ x => x.mask.map MaskByte.code
  | .loadX _ _ x => x.mask.map MaskByte.code
  | .loadg _ m _ => m.map (·.toNat)
  | .loadgX _ m _ => m.map (·.toNat)
  | .fload _ _ x => x.mask.map MaskByte.code
  | .floadX _ _ x => x.mask.map MaskByte.code
  | .loadz _ _ x => x.mask.map MaskByte.code
  | .loadzX _ _ x => x.mask.map MaskByte.code
  | .la _ x => x.mask.map MaskByte.code
  | .laX _ x => x.mask.map MaskByte.code
  | .stptrT _ x => x.mask.map MaskByte.code
  | .stptrTX _ x => x.mask.map MaskByte.code
  | .stptrO _ x => x.mask.map MaskByte.code
  | .stptrOX _ x => x.mask.map MaskByte.code
  | .stptrH _ x => x.mask.map MaskByte.code
  | .stptrHX _ x => x.mask.map MaskByte.code
  | .cache _ x => x.mask.map MaskByte.code
  | .cacheX _ x => x.mask.map MaskByte.code
  | .store _ _ x => x.mask.map MaskByte.code
  | .storeX _ _ x => x.mask.map MaskByte.code
  | .storeg _ m _ => m.map (·.toNat)
  | .storegX _ m _ => m.map (·.toNat)
  | .fstore _ _ x => x.mask.map MaskByte.code
  | .fstoreX _ _ x => x.mask.map MaskByte.code
  | .jmp _ _ => none
  | .jmpInd _ _ => none
  | .jsr _ _ => none
  | .jsrInd _ _ => none
  | .braTable _ _ => none
  | .bsrTable _ _ => none
  | .cmpxchg _ x => x.mask.map MaskByte.code
  | .storePair _ x => x.mask.map MaskByte.code
  | .ammin _ x => x.mask.map MaskByte.code
  | .amadd _ x => x.mask.map MaskByte.code
  | .amaddImm _ x => x.mask.map MaskByte.code
  | .amasl _ x => x.mask.map MaskByte.code
  | .amaslImm _ x => x.mask.map MaskByte.code
  | .amlsr _ x => x.mask.map MaskByte.code
  | .amlsrImm _ x => x.mask.map MaskByte.code
  | .amand _ x => x.mask.map MaskByte.code
  | .amandImm _ x => x.mask.map MaskByte.code
  | .amor _ x => x.mask.map MaskByte.code
  | .amorImm _ x => x.mask.map MaskByte.code
  | .ameor _ x => x.mask.map MaskByte.code
  | .ameorImm _ x => x.mask.map MaskByte.code
  | .amminu _ x => x.mask.map MaskByte.code
  | .amswap _ x => x.mask.map MaskByte.code
  | .ammax _ x => x.mask.map MaskByte.code
  | .ammaxu _ x => x.mask.map MaskByte.code
  | .amcas _ x => x.mask.map MaskByte.code
  | .amswapImm _ x => x.mask.map MaskByte.code
  | .amminImm _ x => x.mask.map MaskByte.code
  | .ammaxImm _ x => x.mask.map MaskByte.code
  | .amminuImm _ x => x.mask.map MaskByte.code
  | .ammaxuImm _ x => x.mask.map MaskByte.code
  | .amcasImm _ x => x.mask.map MaskByte.code
  | .bcmp _ x => x.mask.map MaskByte.code
  | .bfnd _ x => x.mask.map MaskByte.code
  | .bmov _ x => x.mask.map MaskByte.code
  | .bset _ x => x.mask.map MaskByte.code
  | .beq _ _ => none
  | .bne _ _ => none
  | .blt _ _ => none
  | .ble _ _ => none
  | .bge _ _ => none
  | .bgt _ _ => none
  | .bbc _ _ => none
  | .bbs _ _ => none
  | .bbcImm _ _ => none
  | .bbsImm _ _ => none
  | .bltu _ _ => none
  | .bleu _ _ => none
  | .bgeu _ _ => none
  | .bgtu _ _ => none
  | .fbeq _ _ => none
  | .fbne _ _ => none
  | .fbgt _ _ => none
  | .fbugt _ _ => none
  | .fbge _ _ => none
  | .fbuge _ _ => none
  | .fblt _ _ => none
  | .fbult _ _ => none
  | .fble _ _ => none
  | .fbule _ _ => none
  | .fbgl _ _ => none
  | .fbugl _ _ => none
  | .fbord _ _ => none
  | .fbun _ _ => none
  | .pbcc _ _ => none
  | .dfbcc _ _ => none
  | .bra _ _ => none
  | .bsr _ _ _ => none
  | .lbeq _ _ => none
  | .lbne _ _ => none
  | .lblt _ _ => none
  | .lble _ _ => none
  | .lbge _ _ => none
  | .lbgt _ _ => none
  | .lbbc _ _ => none
  | .lbbs _ _ => none
  | .lbbcImm _ _ => none
  | .lbbsImm _ _ => none
  | .lbltu _ _ => none
  | .lbleu _ _ => none
  | .lbgeu _ _ => none
  | .lbgtu _ _ => none
  | .lfbeq _ _ => none
  | .lfbne _ _ => none
  | .lfbgt _ _ => none
  | .lfbugt _ _ => none
  | .lfbge _ _ => none
  | .lfbuge _ _ => none
  | .lfblt _ _ => none
  | .lfbult _ _ => none
  | .lfble _ _ => none
  | .lfbule _ _ => none
  | .lfbgl _ _ => none
  | .lfbugl _ _ => none
  | .lfbord _ _ => none
  | .lfbun _ _ => none
  | .lpbcc _ _ => none
  | .ldfbcc _ _ => none
  | .lbra _ _ => none
  | .lbsr _ _ _ => none
  | .dbcc _ _ => none
  | .dbccFloat _ _ => none
  | .dbccPosit _ _ => none
  | .dbccDecimal _ _ => none
  | .pfx0 _ => none
  | .pfx1 _ => none
  | .pfx2 _ => none
  | .regs _ => none
  | .nop _ => none
  | .vaddVV _ x => x.mask.map MaskByte.code
  | .vaddVS _ x => x.mask.map MaskByte.code
  | .vaddImm _ x => x.mask.map MaskByte.code
  | .vandVV _ x => x.mask.map MaskByte.code
  | .vandVS _ x => x.mask.map MaskByte.code
  | .vandImm _ x => x.mask.map MaskByte.code

/-- The postfixes of an instruction. -/
def Instr.tail : Instr → Tail
  | .brk t => t
  | .trapRa _ t => t
  | .trapImm _ t => t
  | .add _ x => x.tail
  | .sub _ x => x.tail
  | .rtdReg _ t => t
  | .rtsReg _ t => t
  | .cmp _ x => x.tail
  | .cmpsB _ x => x.tail
  | .mul _ x => x.tail
  | .mulu _ x => x.tail
  | .mulsu _ x => x.tail
  | .div _ x => x.tail
  | .divu _ x => x.tail
  | .divsu _ x => x.tail
  | .and _ x => x.tail
  | .nand _ x => x.tail
  | .or _ x => x.tail
  | .nor _ x => x.tail
  | .eor _ x => x.tail
  | .enor _ x => x.tail
  | .mulh _ x => x.tail
  | .muluh _ x => x.tail
  | .chrndx _ x => x.tail
  | .chrndxImm _ x => x.tail
  | .clmul _ x => x.tail
  | .clmulImm _ x => x.tail
  | .mod _ x => x.tail
  | .modu _ x => x.tail
  | .bmap _ x => x.tail
  | .jmpIdx _ t => t
  | .jmpIdxInd _ t => t
  | .jsrIdx _ t => t
  | .jsrIdxInd _ t => t
  | .seq _ x => x.tail
  | .sne _ x => x.tail
  | .slt _ x => x.tail
  | .sge _ x => x.tail
  | .sle _ x => x.tail
  | .sgt _ x => x.tail
  | .sltu _ x => x.tail
  | .sgeu _ x => x.tail
  | .sleu _ x => x.tail
  | .sgtu _ x => x.tail
  | .pred _ t => t
  | .carry _ t => t
  | .rep _ t => t
  | .atom _ t => t
  | .round _ t => t
  | .v2bits _ x => x.tail
  | .dif _ x => x.tail
  | .ptrdif _ x => x.tail
  | .revbitMap _ x => x.tail
  | .bits2v _ x => x.tail
  | .vex _ x => x.tail
  | .veins _ x => x.tail
  | .vgndx _ x => x.tail
  | .sgeuMap _ x => x.tail
  | .sgtuMap _ x => x.tail
  | .min _ x => x.tail
  | .max _ x => x.tail
  | .bmm _ x => x.tail
  | .mux _ x => x.tail
  | .aes64ks1i _ x => x.tail
  | .aes64ks2 _ x => x.tail
  | .sm4ed _ x => x.tail
  | .sm4ks _ x => x.tail
  | .cntlz _ x => x.tail
  | .cntlo _ x => x.tail
  | .cntpop _ x => x.tail
  | .abs _ x => x.tail
  | .sqrt _ x => x.tail
  | .revbit _ x => x.tail
  | .sm3p0 _ x => x.tail
  | .sm3p1 _ x => x.tail
  | .aes64ds _ x => x.tail
  | .aes64dsm _ x => x.tail
  | .aes64es _ x => x.tail
  | .aes64esm _ x => x.tail
  | .aes64im _ x => x.tail
  | .sha256sig0 _ x => x.tail
  | .sha256sig1 _ x => x.tail
  | .sha256sum0 _ x => x.tail
  | .sha256sum1 _ x => x.tail
  | .sha512sig0 _ x => x.tail
  | .sha512sig1 _ x => x.tail
  | .sha512sum0 _ x => x.tail
  | .sha512sum1 _ x => x.tail
  | .csrrd _ x => x.tail
  | .csrrdImm _ x => x.tail
  | .csrwr _ x => x.tail
  | .csrwrImm _ x => x.tail
  | .csrrs _ x => x.tail
  | .csrrsImm _ x => x.tail
  | .csrrc _ x => x.tail
  | .csrrcImm _ x => x.tail
  | .csreor _ x => x.tail
  | .csreorImm _ x => x.tail
  | .cpuid _ x => x.tail
  | .cpuidImm _ x => x.tail
  | .getvl _ x => x.tail
  | .setvl _ x => x.tail
  | .setvlImm _ x => x.tail
  | .addi _ x => x.tail
  | .rtdImm _ t => t
  | .rtsImm _ t => t
  | .rte1 _ t => t
  | .rte2 _ t => t
  | .cmpi _ x => x.tail
  | .muli _ x => x.tail
  | .mului _ x => x.tail
  | .divi _ x => x.tail
  | .andi _ x => x.tail
  | .nandi _ x => x.tail
  | .ori _ x => x.tail
  | .nori _ x => x.tail
  | .orf _ x => x.tail
  | .eori _ x => x.tail
  | .enori _ x => x.tail
  | .chk _ x => x.tail
  | .chki _ x => x.tail
  | .bmapImm _ x => x.tail
  | .fscaleb _ x => x.tail
  | .fscalebImm _ x => x.tail
  | .fadd _ x => x.tail
  | .fsub _ x => x.tail
  | .fcmp _ x => x.tail
  | .fmul _ x => x.tail
  | .fdiv _ x => x.tail
  | .fseq _ x => x.tail
  | .fsne _ x => x.tail
  | .fsle _ x => x.tail
  | .fslt _ x => x.tail
  | .fsge _ x => x.tail
  | .fsgt _ x => x.tail
  | .fmin _ x => x.tail
  | .fmax _ x => x.tail
  | .fnxt _ x => x.tail
  | .frem _ x => x.tail
  | .ftrunc _ x => x.tail
  | .fabs _ x => x.tail
  | .fneg _ x => x.tail
  | .ftoi _ x => x.tail
  | .itof _ x => x.tail
  | .fsign _ x => x.tail
  | .fsig _ x => x.tail
  | .fsqrt _ x => x.tail
  | .fs2d _ x => x.tail
  | .fs2q _ x => x.tail
  | .fd2q _ x => x.tail
  | .isnan _ x => x.tail
  | .finite _ x => x.tail
  | .fres _ x => x.tail
  | .fd2s _ x => x.tail
  | .fq2s _ x => x.tail
  | .fq2d _ x => x.tail
  | .fclass _ x => x.tail
  | .fma _ t => t
  | .faddi _ x => x.tail
  | .fcmpi _ x => x.tail
  | .fmuli _ x => x.tail
  | .fdivi _ x => x.tail
  | .clr _ x => x.tail
  | .clrImm _ x => x.tail
  | .set _ x => x.tail
  | .setImm _ x => x.tail
  | .com _ x => x.tail
  | .comImm _ x => x.tail
  | .sbx _ x => x.tail
  | .sbxImm _ x => x.tail
  | .extu _ x => x.tail
  | .extuImm _ x => x.tail
  | .exts _ x => x.tail
  | .extsImm _ x => x.tail
  | .dep _ x => x.tail
  | .depImm _ x => x.tail
  | .bitrr _ x => x.tail
  | .asl _ x => x.tail
  | .aslImm _ x => x.tail
  | .asr _ x => x.tail
  | .asrImm _ x => x.tail
  | .lsl _ x => x.tail
  | .lslImm _ x => x.tail
  | .lsland _ x => x.tail
  | .lslandImm _ x => x.tail
  | .lslor _ x => x.tail
  | .lslorImm _ x => x.tail
  | .lslxor _ x => x.tail
  | .lslxorImm _ x => x.tail
  | .lsr _ x => x.tail
  | .lsrImm _ x => x.tail
  | .rol _ x => x.tail
  | .rolImm _ x => x.tail
  | .ror _ x => x.tail
  | .rorImm _ x => x.tail
  | .vshlv _ x => x.tail
  | .vshrv _ x => x.tail
  | .vshlvi _ x => x.tail
  | .vshrvi _ x => x.tail
  | .load _ _ x => x.tail
  | .loadX _ _ x => x.tail
  | .loadg _ _ t => t
  | .loadgX _ _ t => t
  | .fload _ _ x => x.tail
  | .floadX _ _ x => x.tail
  | .loadz _ _ x => x.tail
  | .loadzX _ _ x => x.tail
  | .la _ x => x.tail
  | .laX _ x => x.tail
  | .stptrT _ x => x.tail
  | .stptrTX _ x => x.tail
  | .stptrO _ x => x.tail
  | .stptrOX _ x => x.tail
  | .stptrH _ x => x.tail
  | .stptrHX _ x => x.tail
  | .cache _ x => x.tail
  | .cacheX _ x => x.tail
  | .store _ _ x => x.tail
  | .storeX _ _ x => x.tail
  | .storeg _ _ t => t
  | .storegX _ _ t => t
  | .fstore _ _ x => x.tail
  | .fstoreX _ _ x => x.tail
  | .jmp _ t => t
  | .jmpInd _ t => t
  | .jsr _ t => t
  | .jsrInd _ t => t
  | .braTable _ t => t
  | .bsrTable _ t => t
  | .cmpxchg _ x => x.tail
  | .storePair _ x => x.tail
  | .ammin _ x => x.tail
  | .amadd _ x => x.tail
  | .amaddImm _ x => x.tail
  | .amasl _ x => x.tail
  | .amaslImm _ x => x.tail
  | .amlsr _ x => x.tail
  | .amlsrImm _ x => x.tail
  | .amand _ x => x.tail
  | .amandImm _ x => x.tail
  | .amor _ x => x.tail
  | .amorImm _ x => x.tail
  | .ameor _ x => x.tail
  | .ameorImm _ x => x.tail
  | .amminu _ x => x.tail
  | .amswap _ x => x.tail
  | .ammax _ x => x.tail
  | .ammaxu _ x => x.tail
  | .amcas _ x => x.tail
  | .amswapImm _ x => x.tail
  | .amminImm _ x => x.tail
  | .ammaxImm _ x => x.tail
  | .amminuImm _ x => x.tail
  | .ammaxuImm _ x => x.tail
  | .amcasImm _ x => x.tail
  | .bcmp _ x => x.tail
  | .bfnd _ x => x.tail
  | .bmov _ x => x.tail
  | .bset _ x => x.tail
  | .beq _ t => t
  | .bne _ t => t
  | .blt _ t => t
  | .ble _ t => t
  | .bge _ t => t
  | .bgt _ t => t
  | .bbc _ t => t
  | .bbs _ t => t
  | .bbcImm _ t => t
  | .bbsImm _ t => t
  | .bltu _ t => t
  | .bleu _ t => t
  | .bgeu _ t => t
  | .bgtu _ t => t
  | .fbeq _ t => t
  | .fbne _ t => t
  | .fbgt _ t => t
  | .fbugt _ t => t
  | .fbge _ t => t
  | .fbuge _ t => t
  | .fblt _ t => t
  | .fbult _ t => t
  | .fble _ t => t
  | .fbule _ t => t
  | .fbgl _ t => t
  | .fbugl _ t => t
  | .fbord _ t => t
  | .fbun _ t => t
  | .pbcc _ t => t
  | .dfbcc _ t => t
  | .bra _ t => t
  | .bsr _ _ t => t
  | .lbeq _ t => t
  | .lbne _ t => t
  | .lblt _ t => t
  | .lble _ t => t
  | .lbge _ t => t
  | .lbgt _ t => t
  | .lbbc _ t => t
  | .lbbs _ t => t
  | .lbbcImm _ t => t
  | .lbbsImm _ t => t
  | .lbltu _ t => t
  | .lbleu _ t => t
  | .lbgeu _ t => t
  | .lbgtu _ t => t
  | .lfbeq _ t => t
  | .lfbne _ t => t
  | .lfbgt _ t => t
  | .lfbugt _ t => t
  | .lfbge _ t => t
  | .lfbuge _ t => t
  | .lfblt _ t => t
  | .lfbult _ t => t
  | .lfble _ t => t
  | .lfbule _ t => t
  | .lfbgl _ t => t
  | .lfbugl _ t => t
  | .lfbord _ t => t
  | .lfbun _ t => t
  | .lpbcc _ t => t
  | .ldfbcc _ t => t
  | .lbra _ t => t
  | .lbsr _ _ t => t
  | .dbcc _ t => t
  | .dbccFloat _ t => t
  | .dbccPosit _ t => t
  | .dbccDecimal _ t => t
  | .pfx0 _ => .empty
  | .pfx1 _ => .empty
  | .pfx2 _ => .empty
  | .regs _ => .empty
  | .nop t => t
  | .vaddVV _ x => x.tail
  | .vaddVS _ x => x.tail
  | .vaddImm _ x => x.tail
  | .vandVV _ x => x.tail
  | .vandVS _ x => x.tail
  | .vandImm _ x => x.tail

/-- The length of the base word in bytes (30_encoding R203); a REGS reached on its own is one word of 9. -/
def Instr.baseLen : Instr → Nat
  | .brk _ => 5
  | .trapRa _ _ => 5
  | .trapImm _ _ => 5
  | .add _ _ => 5
  | .sub _ _ => 5
  | .rtdReg _ _ => 5
  | .rtsReg _ _ => 5
  | .cmp _ _ => 5
  | .cmpsB _ _ => 5
  | .mul _ _ => 5
  | .mulu _ _ => 5
  | .mulsu _ _ => 5
  | .div _ _ => 5
  | .divu _ _ => 5
  | .divsu _ _ => 5
  | .and _ _ => 5
  | .nand _ _ => 5
  | .or _ _ => 5
  | .nor _ _ => 5
  | .eor _ _ => 5
  | .enor _ _ => 5
  | .mulh _ _ => 5
  | .muluh _ _ => 5
  | .chrndx _ _ => 5
  | .chrndxImm _ _ => 5
  | .clmul _ _ => 5
  | .clmulImm _ _ => 5
  | .mod _ _ => 5
  | .modu _ _ => 5
  | .bmap _ _ => 5
  | .jmpIdx _ _ => 5
  | .jmpIdxInd _ _ => 5
  | .jsrIdx _ _ => 5
  | .jsrIdxInd _ _ => 5
  | .seq _ _ => 5
  | .sne _ _ => 5
  | .slt _ _ => 5
  | .sge _ _ => 5
  | .sle _ _ => 5
  | .sgt _ _ => 5
  | .sltu _ _ => 5
  | .sgeu _ _ => 5
  | .sleu _ _ => 5
  | .sgtu _ _ => 5
  | .pred _ _ => 5
  | .carry _ _ => 5
  | .rep _ _ => 5
  | .atom _ _ => 5
  | .round _ _ => 5
  | .v2bits _ _ => 5
  | .dif _ _ => 5
  | .ptrdif _ _ => 5
  | .revbitMap _ _ => 5
  | .bits2v _ _ => 5
  | .vex _ _ => 5
  | .veins _ _ => 5
  | .vgndx _ _ => 5
  | .sgeuMap _ _ => 5
  | .sgtuMap _ _ => 5
  | .min _ _ => 5
  | .max _ _ => 5
  | .bmm _ _ => 5
  | .mux _ _ => 5
  | .aes64ks1i _ _ => 5
  | .aes64ks2 _ _ => 5
  | .sm4ed _ _ => 5
  | .sm4ks _ _ => 5
  | .cntlz _ _ => 5
  | .cntlo _ _ => 5
  | .cntpop _ _ => 5
  | .abs _ _ => 5
  | .sqrt _ _ => 5
  | .revbit _ _ => 5
  | .sm3p0 _ _ => 5
  | .sm3p1 _ _ => 5
  | .aes64ds _ _ => 5
  | .aes64dsm _ _ => 5
  | .aes64es _ _ => 5
  | .aes64esm _ _ => 5
  | .aes64im _ _ => 5
  | .sha256sig0 _ _ => 5
  | .sha256sig1 _ _ => 5
  | .sha256sum0 _ _ => 5
  | .sha256sum1 _ _ => 5
  | .sha512sig0 _ _ => 5
  | .sha512sig1 _ _ => 5
  | .sha512sum0 _ _ => 5
  | .sha512sum1 _ _ => 5
  | .csrrd _ _ => 5
  | .csrrdImm _ _ => 5
  | .csrwr _ _ => 5
  | .csrwrImm _ _ => 5
  | .csrrs _ _ => 5
  | .csrrsImm _ _ => 5
  | .csrrc _ _ => 5
  | .csrrcImm _ _ => 5
  | .csreor _ _ => 5
  | .csreorImm _ _ => 5
  | .cpuid _ _ => 5
  | .cpuidImm _ _ => 5
  | .getvl _ _ => 5
  | .setvl _ _ => 5
  | .setvlImm _ _ => 5
  | .addi _ _ => 5
  | .rtdImm _ _ => 5
  | .rtsImm _ _ => 5
  | .rte1 _ _ => 5
  | .rte2 _ _ => 5
  | .cmpi _ _ => 5
  | .muli _ _ => 5
  | .mului _ _ => 5
  | .divi _ _ => 5
  | .andi _ _ => 5
  | .nandi _ _ => 5
  | .ori _ _ => 5
  | .nori _ _ => 5
  | .orf _ _ => 5
  | .eori _ _ => 5
  | .enori _ _ => 5
  | .chk _ _ => 5
  | .chki _ _ => 5
  | .bmapImm _ _ => 5
  | .fscaleb _ _ => 5
  | .fscalebImm _ _ => 5
  | .fadd _ _ => 5
  | .fsub _ _ => 5
  | .fcmp _ _ => 5
  | .fmul _ _ => 5
  | .fdiv _ _ => 5
  | .fseq _ _ => 5
  | .fsne _ _ => 5
  | .fsle _ _ => 5
  | .fslt _ _ => 5
  | .fsge _ _ => 5
  | .fsgt _ _ => 5
  | .fmin _ _ => 5
  | .fmax _ _ => 5
  | .fnxt _ _ => 5
  | .frem _ _ => 5
  | .ftrunc _ _ => 5
  | .fabs _ _ => 5
  | .fneg _ _ => 5
  | .ftoi _ _ => 5
  | .itof _ _ => 5
  | .fsign _ _ => 5
  | .fsig _ _ => 5
  | .fsqrt _ _ => 5
  | .fs2d _ _ => 5
  | .fs2q _ _ => 5
  | .fd2q _ _ => 5
  | .isnan _ _ => 5
  | .finite _ _ => 5
  | .fres _ _ => 5
  | .fd2s _ _ => 5
  | .fq2s _ _ => 5
  | .fq2d _ _ => 5
  | .fclass _ _ => 5
  | .fma _ _ => 5
  | .faddi _ _ => 5
  | .fcmpi _ _ => 5
  | .fmuli _ _ => 5
  | .fdivi _ _ => 5
  | .clr _ _ => 5
  | .clrImm _ _ => 5
  | .set _ _ => 5
  | .setImm _ _ => 5
  | .com _ _ => 5
  | .comImm _ _ => 5
  | .sbx _ _ => 5
  | .sbxImm _ _ => 5
  | .extu _ _ => 5
  | .extuImm _ _ => 5
  | .exts _ _ => 5
  | .extsImm _ _ => 5
  | .dep _ _ => 5
  | .depImm _ _ => 5
  | .bitrr _ _ => 5
  | .asl _ _ => 5
  | .aslImm _ _ => 5
  | .asr _ _ => 5
  | .asrImm _ _ => 5
  | .lsl _ _ => 5
  | .lslImm _ _ => 5
  | .lsland _ _ => 5
  | .lslandImm _ _ => 5
  | .lslor _ _ => 5
  | .lslorImm _ _ => 5
  | .lslxor _ _ => 5
  | .lslxorImm _ _ => 5
  | .lsr _ _ => 5
  | .lsrImm _ _ => 5
  | .rol _ _ => 5
  | .rolImm _ _ => 5
  | .ror _ _ => 5
  | .rorImm _ _ => 5
  | .vshlv _ _ => 5
  | .vshrv _ _ => 5
  | .vshlvi _ _ => 5
  | .vshrvi _ _ => 5
  | .load _ _ _ => 5
  | .loadX _ _ _ => 5
  | .loadg _ _ _ => 5
  | .loadgX _ _ _ => 5
  | .fload _ _ _ => 5
  | .floadX _ _ _ => 5
  | .loadz _ _ _ => 5
  | .loadzX _ _ _ => 5
  | .la _ _ => 5
  | .laX _ _ => 5
  | .stptrT _ _ => 5
  | .stptrTX _ _ => 5
  | .stptrO _ _ => 5
  | .stptrOX _ _ => 5
  | .stptrH _ _ => 5
  | .stptrHX _ _ => 5
  | .cache _ _ => 5
  | .cacheX _ _ => 5
  | .store _ _ _ => 5
  | .storeX _ _ _ => 5
  | .storeg _ _ _ => 5
  | .storegX _ _ _ => 5
  | .fstore _ _ _ => 5
  | .fstoreX _ _ _ => 5
  | .jmp _ _ => 5
  | .jmpInd _ _ => 5
  | .jsr _ _ => 5
  | .jsrInd _ _ => 5
  | .braTable _ _ => 5
  | .bsrTable _ _ => 5
  | .cmpxchg _ _ => 5
  | .storePair _ _ => 5
  | .ammin _ _ => 5
  | .amadd _ _ => 5
  | .amaddImm _ _ => 5
  | .amasl _ _ => 5
  | .amaslImm _ _ => 5
  | .amlsr _ _ => 5
  | .amlsrImm _ _ => 5
  | .amand _ _ => 5
  | .amandImm _ _ => 5
  | .amor _ _ => 5
  | .amorImm _ _ => 5
  | .ameor _ _ => 5
  | .ameorImm _ _ => 5
  | .amminu _ _ => 5
  | .amswap _ _ => 5
  | .ammax _ _ => 5
  | .ammaxu _ _ => 5
  | .amcas _ _ => 5
  | .amswapImm _ _ => 5
  | .amminImm _ _ => 5
  | .ammaxImm _ _ => 5
  | .amminuImm _ _ => 5
  | .ammaxuImm _ _ => 5
  | .amcasImm _ _ => 5
  | .bcmp _ _ => 5
  | .bfnd _ _ => 5
  | .bmov _ _ => 5
  | .bset _ _ => 5
  | .beq _ _ => 5
  | .bne _ _ => 5
  | .blt _ _ => 5
  | .ble _ _ => 5
  | .bge _ _ => 5
  | .bgt _ _ => 5
  | .bbc _ _ => 5
  | .bbs _ _ => 5
  | .bbcImm _ _ => 5
  | .bbsImm _ _ => 5
  | .bltu _ _ => 5
  | .bleu _ _ => 5
  | .bgeu _ _ => 5
  | .bgtu _ _ => 5
  | .fbeq _ _ => 5
  | .fbne _ _ => 5
  | .fbgt _ _ => 5
  | .fbugt _ _ => 5
  | .fbge _ _ => 5
  | .fbuge _ _ => 5
  | .fblt _ _ => 5
  | .fbult _ _ => 5
  | .fble _ _ => 5
  | .fbule _ _ => 5
  | .fbgl _ _ => 5
  | .fbugl _ _ => 5
  | .fbord _ _ => 5
  | .fbun _ _ => 5
  | .pbcc _ _ => 5
  | .dfbcc _ _ => 5
  | .bra _ _ => 5
  | .bsr _ _ _ => 5
  | .lbeq _ _ => 6
  | .lbne _ _ => 6
  | .lblt _ _ => 6
  | .lble _ _ => 6
  | .lbge _ _ => 6
  | .lbgt _ _ => 6
  | .lbbc _ _ => 6
  | .lbbs _ _ => 6
  | .lbbcImm _ _ => 6
  | .lbbsImm _ _ => 6
  | .lbltu _ _ => 6
  | .lbleu _ _ => 6
  | .lbgeu _ _ => 6
  | .lbgtu _ _ => 6
  | .lfbeq _ _ => 6
  | .lfbne _ _ => 6
  | .lfbgt _ _ => 6
  | .lfbugt _ _ => 6
  | .lfbge _ _ => 6
  | .lfbuge _ _ => 6
  | .lfblt _ _ => 6
  | .lfbult _ _ => 6
  | .lfble _ _ => 6
  | .lfbule _ _ => 6
  | .lfbgl _ _ => 6
  | .lfbugl _ _ => 6
  | .lfbord _ _ => 6
  | .lfbun _ _ => 6
  | .lpbcc _ _ => 6
  | .ldfbcc _ _ => 6
  | .lbra _ _ => 6
  | .lbsr _ _ _ => 6
  | .dbcc _ _ => 5
  | .dbccFloat _ _ => 5
  | .dbccPosit _ _ => 5
  | .dbccDecimal _ _ => 5
  | .pfx0 _ => 5
  | .pfx1 _ => 5
  | .pfx2 _ => 5
  | .regs _ => 9
  | .nop _ => 5
  | .vaddVV _ _ => 5
  | .vaddVS _ _ => 5
  | .vaddImm _ _ => 5
  | .vandVV _ _ => 5
  | .vandVS _ _ => 5
  | .vandImm _ _ => 5

/-- A constant postfix word of type `ty` (30_encoding R230). -/
def encPostfix (ty : Nat) (v : BitVec 32) : List Byte := toBytes 5 (31 + 32 * ty + 256 * v.toNat)

/-- The postfixes, in order (30_encoding R231, R236). -/
def encTail (t : Tail) : List Byte :=
  (match t.w0 with | some v => encPostfix 0 v | none => []) ++
  ((match t.w1 with | some v => encPostfix 1 v | none => []) ++
  ((match t.w2 with | some (a, b) => encPostfix 2 a ++ encPostfix 2 b | none => []) ++
  (match t.regs with | some l => toBytes 9 (191 + 256 * l.toNat) | none => [])))

/-- The bytes of an instruction: base word, mask byte, postfixes (30_encoding R200, R202, R230, R236). -/
def encode (i : Instr) : List Byte :=
  toBytes i.baseLen (encWord i) ++
    ((match i.sixth with | some m => [BitVec.ofNat 8 m] | none => []) ++ encTail i.tail)

/-- The length of the postfixes in bytes (30_encoding R203). -/
def Tail.len (t : Tail) : Nat :=
  5 * t.w0.isSome.toNat + 5 * t.w1.isSome.toNat + 10 * t.w2.isSome.toNat + 9 * t.regs.isSome.toNat

/-- The length of an instruction in bytes, ilen (30_encoding R203). -/
def Instr.len (i : Instr) : Nat := i.baseLen + i.sixth.isSome.toNat + i.tail.len

end Sys2Proof
end

