-- ==== Sys2Proof/Machine/State.lean ====
section
/-! DEFINITION. The state of the machine: everything the spec gives it (10_state, 20_memory, 60_exceptions, 70_reset),
as plain data, and State.reset. INVENTORY.md lists every field with its rule and its reset value. -/

namespace Sys2Proof.Machine

/-- The reasons a step stops with a fault. -/
inductive Fault where
  /-- Raised by `step` in the terminal state of 60_exceptions R770 (e): a vector table could not be read; only the reset
  input leaves it. Safe: the spec's core takes no steps there. -/
  | halted
deriving DecidableEq, Repr

/-- The reasons a step is refused: the sources do not say what the hardware does. -/
inductive Refusal where
  /-- Raised by an arm of `exec` without a meaning. Safe: nothing is claimed of the instruction. -/
  | notModelled (mnemonic : String)
  /-- Raised by an access that more than one TLB way translates (20_memory R146: the model refuses). Safe. -/
  | tlbMultiHit
  /-- Raised by a TLB trigger whose fixed way is 6 to 15, which does not exist (20_memory R149). Safe. -/
  | tlbWay
  /-- Raised by an access to a PIC, PIT or TLB register of a size or alignment it does not take (20_memory R114). Safe. -/
  | deviceAccess
  /-- Raised by decimal arithmetic and decimal comparisons that execute when HAS_DECIMAL is true, which needs a
  definition no source gives: 93_implementation_defined section 3 has the model refuse them (40_integer R301,
  42_float R402). Safe. -/
  | decimal
deriving DecidableEq, Repr

/-- The four windowing modifiers (10_state R74). -/
inductive WinKind where
  | pred | carry | atom | round
deriving DecidableEq, Repr

/-- How the last instruction ended, for the bookkeeping of the step (60_exceptions R768; log 17): it went on to the next
address; it transferred control; it opened a window; it was a REP; it is a block instruction with iterations left; it was
a postfix on its own; it took the exception it is there to take; it raised one. -/
inductive Retire where
  | seq | jump | opened (k : WinKind) | rep | again | lone | trap | fault
deriving DecidableEq, Repr

/-- An open window: its mask bits and the position the next instruction consumes (49_modifiers R700). -/
structure Window where
  mask : BitVec 24
  pos  : BitVec 3
deriving DecidableEq, Repr

/-- The windows, the latched predicate and the carry (10_state R74, R77). `locked`: the last instruction, or iteration of a
block instruction, stood under ATOM's mark 10 (49_modifiers R710; 20_memory R174). -/
structure Windows where
  pred    : Option Window
  carry   : Option Window
  atom    : Option Window
  round   : Option Window
  predVal : Bool
  cy      : BitVec 128
  locked  : Bool
deriving DecidableEq, Repr

/-- No window open. -/
def Windows.none : Windows := ⟨.none, .none, .none, .none, false, 0, false⟩

/-- U_REPBUF (10_state R39). -/
structure RepBuf where
  pc    : BitVec 64
  v     : Bool
  icnt  : BitVec 3
  limit : BitVec 32
  ins   : BitVec 7
deriving DecidableEq, Repr

/-- One slot of the exception stack (10_state R73). -/
structure Slot where
  sr       : BitVec 32
  pc       : BitVec 64
  app      : Bool
  holdPrev : Bool
deriving DecidableEq, Repr

/-- The TLB (20_memory R144, R145, R149): its valid entries by slot number (way * 1024 + index), in rising order, an
unlisted entry being all zero; the current count; the holding, miss and control registers. -/
structure Tlb where
  entries  : List (Nat × TlbEntry)
  count    : BitVec 6
  holdPte  : BitVec 96
  holdVpn  : BitVec 96
  missAddr : BitVec 64
  missAsid : BitVec 12
  ctrl     : BitVec 64
deriving DecidableEq, Repr

/-- The interrupt controller (60_exceptions R802 to R804): control registers, with the IE bit in 16 and the ES bit in 17;
ESH; the latches of the transitions and of TRIG; the external lines; the inputs as last sampled. -/
structure Pic where
  ctrl   : Vector (BitVec 32) 32
  esh    : BitVec 32
  latch  : BitVec 32
  trig   : BitVec 32
  lines  : BitVec 32
  prevIn : BitVec 32
deriving DecidableEq, Repr

/-- One timer (60_exceptions R814 to R817): current count, the active max count, on time and control, and their pending
copies. -/
structure Timer where
  cc    : BitVec 64
  mc    : BitVec 64
  ot    : BitVec 64
  ctrl  : BitVec 5
  pmc   : BitVec 64
  pot   : BitVec 64
  pctrl : BitVec 5
deriving DecidableEq, Repr

/-- A timer component (60_exceptions R814, R819) and the levels of its external gate inputs. -/
structure Pit where
  timers  : Vector Timer 32
  ustat   : BitVec 64
  ie      : BitVec 64
  tmp     : BitVec 64
  gate    : BitVec 64
  extGate : BitVec 4
deriving DecidableEq, Repr

/-- One act of the environment between two steps (00_scope R15; log 15). `second` chooses PIT #2. -/
inductive Input where
  | picLine (n : BitVec 5) (level : Bool)
  | pitClock (second : Bool)
  | pitEdge (second : Bool) (timer : BitVec 2)
  | pitGate (second : Bool) (timer : BitVec 2) (level : Bool)
  | memory (pa : Nat) (b : Byte)
  | sema (v : BitVec 128)
  | reset
deriving DecidableEq, Repr

/-- The state. -/
structure State where
  /-- The implementation parameters (00_scope R8); no step changes them (log 4). -/
  params    : Params
  /-- r0 to r63 (10_state R20). Slots 0, 53 and 63 are not used: r0 reads zero, r53 is the pc and SC, r63 is banked. -/
  gpr       : Vector Word 64
  /-- The banks of r63 (10_state R23). -/
  asp       : Word
  ssp       : Word
  hsp       : Word
  msp       : Word
  /-- The stack canary (10_state R72). -/
  sc        : Word
  pc        : Addr
  /-- v0 to v31 (10_state R29). -/
  vreg      : Vector (BitVec 512) 32
  /-- The status register (10_state R35). -/
  sr        : BitVec 32
  cause     : Vector (BitVec 12) 4
  scratch   : Vector Word 4
  repbuf    : RepBuf
  repHold   : Bool
  vl        : BitVec 8
  /-- The global mask, all ones, which no instruction reaches (10_state R42; 92_eei_decisions D14). -/
  vgm       : Word
  vrm       : Word
  verr      : Word
  ved       : Word
  ptbr      : Word
  asid      : BitVec 12
  keys      : Vector (BitVec 24) 8
  tick      : BitVec 64
  badAddr   : Addr
  badInstr  : BitVec 48
  sema      : Word
  tvec      : Vector (BitVec 64) 5
  ios       : BitVec 64
  av        : BitVec 64
  vb        : Vector (BitVec 64) 4
  stack     : Vector Slot 8
  win       : Windows
  /-- A trace exception is due (60_exceptions R790). -/
  traceDue  : Bool
  /-- The terminal state of 60_exceptions R770 (e). -/
  halted    : Bool
  /-- The model's own: how the last instruction ended, and the bits of the one being executed (log 17). -/
  retire    : Retire
  ir        : BitVec 48
  tlb       : Tlb
  regions   : Vector Region 8
  pic       : Pic
  pit1      : Pit
  pit2      : Pit
  /-- Physical memory, in the canonical form of `Memory.wf`; an unlisted byte reads 0 (log 3). -/
  mem       : List Host.Cell
  /-- What an instruction fetch may still see of bytes stored to since the last instruction-cache invalidate (20_memory
  R176): their earlier values. -/
  stale     : List Host.Cell
  /-- The model's own: the inputs still to come, the head before the next step (log 15). -/
  env       : List (List Input)
  /-- The model's own: how many free values have been drawn (log 5). -/
  draws     : Nat
deriving DecidableEq, Repr

/-- Put an entry in a list of TLB entries in rising order of slot. -/
def tlbPut (k : Nat) (e : TlbEntry) : List (Nat × TlbEntry) → List (Nat × TlbEntry)
  | [] => [(k, e)]
  | (j, f) :: r => if k < j then (k, e) :: (j, f) :: r else if k = j then (k, e) :: r else (j, f) :: tlbPut k e r

/-- The TLB after reset (20_memory R154). -/
def Tlb.reset (p : Params) : Tlb where
  entries := p.tlbReset.foldl (fun l (k, pte, vpn) => tlbPut k ⟨pte, vpn, 0, 0, none⟩ l) []
  count := 0
  holdPte := 0
  holdVpn := 0
  missAddr := 0
  missAsid := 0
  ctrl := 0

/-- The PIC after reset (60_exceptions R804). -/
def Pic.reset : Pic := ⟨Vector.replicate 32 0, 0, 0, 0, 0, 0⟩

/-- A PIT after reset (60_exceptions R819). -/
def Pit.reset : Pit := ⟨Vector.replicate 32 ⟨0, 0, 0, 0, 0, 0, 0⟩, 0, 0, 0, 0, 0⟩

/-- The machine right after reset with the given parameters (10_state R80; 70_reset R830): machine mode, ipl = 7, VB =
0, M_TICK = 0, AV = AV_RESET, the global mask all ones (R42), no window, no REP; what the spec leaves unspecified is
zero (log 1, 2), memory lists nothing (log 3). With RESET_MODE = vector, MSP and the pc are what memory with nothing
listed holds at 0 and 8; where these octas cannot be read, they are zero too and the core is not halted, by the model's
choice (log 26). -/
def State.resetWith (p : Params) : State where
  params := p
  gpr := Vector.replicate 64 0
  asp := 0
  ssp := 0
  hsp := 0
  msp := 0
  sc := 0
  pc := 0
  vreg := Vector.replicate 32 0
  sr := 0xCE0
  cause := Vector.replicate 4 0
  scratch := Vector.replicate 4 0
  repbuf := ⟨0, false, 0, 0, 0⟩
  repHold := false
  vl := 0
  vgm := BitVec.allOnes 128
  vrm := 0
  verr := 0
  ved := 0
  ptbr := 0
  asid := 0
  keys := Vector.replicate 8 0
  tick := 0
  badAddr := 0
  badInstr := 0
  sema := 0
  tvec := Vector.replicate 5 0
  ios := 0
  av := p.avReset &&& ~~~0xF
  vb := Vector.replicate 4 0
  stack := Vector.replicate 8 ⟨0, 0, false, false⟩
  win := Windows.none
  traceDue := false
  halted := false
  retire := .seq
  ir := 0
  tlb := Tlb.reset p
  regions := p.regionReset
  pic := Pic.reset
  pit1 := Pit.reset
  pit2 := Pit.reset
  mem := []
  stale := []
  env := []
  draws := 0

/-- The machine right after reset, with the default parameters of 00_scope R8. -/
def State.reset : State := State.resetWith Params.default

end Sys2Proof.Machine
end

