-- ==== Sys2Proof/Machine/Memory.lean ====
section
/-! DEFINITION. Physical memory as a canonical list of (address, byte) pairs, the bytes a fetch may still see, and access
to several bytes at once, least significant first (20_memory R100, R101, R176). -/

namespace Sys2Proof.Machine

/-- What the byte at an address holds; an unlisted byte reads 0 (log 3). -/
def Memory.read : List Host.Cell → Nat → Byte
  | [], _ => 0
  | (b, v) :: r, a => if b = a then v else Memory.read r a

/-- The memory after a byte is written: writing what an unlisted byte reads as removes the entry. -/
def Memory.write (a : Nat) (v : Byte) : List Host.Cell → List Host.Cell
  | [] => if v = 0 then [] else [(a, v)]
  | (b, u) :: r =>
    if a < b then (if v = 0 then (b, u) :: r else (a, v) :: (b, u) :: r)
    else if a = b then (if v = 0 then r else (a, v) :: r)
    else (b, u) :: Memory.write a v r

/-- The canonical form: addresses strictly rising, no entry equal to what an unlisted byte reads as. -/
def Memory.wf : List Host.Cell → Bool
  | [] => true
  | (a, v) :: r => v != 0 && r.all (fun c => a < c.1) && Memory.wf r

/-- The `n` bytes at `a` as one little-endian value (20_memory R101). -/
def Memory.readN (m : List Host.Cell) (a : Nat) : Nat → Nat
  | 0 => 0
  | n + 1 => (Memory.read m a).toNat + 256 * Memory.readN m (a + 1) n

/-- Write bytes from `a` upwards. -/
def Memory.writeList (a : Nat) : List Byte → List Host.Cell → List Host.Cell
  | [], m => m
  | b :: bs, m => Memory.writeList (a + 1) bs (Memory.write a b m)

/-- Remember the byte `old` that a store at `a` replaces, unless an older one is remembered already (20_memory R176). -/
def Memory.note (a : Nat) (old : Byte) : List Host.Cell → List Host.Cell
  | [] => [(a, old)]
  | (b, u) :: r => if a < b then (a, old) :: (b, u) :: r else if a = b then (b, u) :: r else (b, u) :: Memory.note a old r

/-- Remember the `n` bytes at `a`. -/
def Memory.noteN (m : List Host.Cell) (a : Nat) : Nat → List Host.Cell → List Host.Cell
  | 0, st => st
  | n + 1, st => Memory.noteN m (a + 1) n (Memory.note a (Memory.read m a) st)

/-- The byte of physical memory at an address. -/
def State.byte (s : State) (pa : Nat) : Byte := Memory.read s.mem pa

/-- A store of the core to physical memory: `n` low bytes of `v` at `pa` (20_memory R101, R176). -/
def State.store (pa n v : Nat) (s : State) : State :=
  { s with mem := Memory.writeList pa (toBytes n v) s.mem, stale := Memory.noteN s.mem pa n s.stale }

end Sys2Proof.Machine
end

