-- ==== Sys2Proof/Machine/Devices.lean ====
section
/-! DEFINITION. The memory-mapped units: the interrupt controller and the timers (60_exceptions R800 to R820), the region
table (20_memory R120) and the registers of the TLB (20_memory R149). -/

namespace Sys2Proof.Machine

/-- Change element i, if there is one. -/
def modifyAt {α : Type} {n : Nat} (v : Vector α n) (i : Nat) (f : α → α) : Vector α n :=
  match v[i]? with
  | some a => v.setIfInBounds i (f a)
  | none => v

/-! The interrupt controller. -/

/-- The defined bits of a control register (60_exceptions R803). -/
def picCtrlMask : BitVec 32 := 0x3F0B07FF

/-- Control register n. -/
def Pic.ctrlOf (p : Pic) (n : Nat) : BitVec 32 := (p.ctrl[n]?).getD 0

/-- Bit b of every control register, as a mask register: b = 16 is RE, b = 17 is ESL (60_exceptions R802, R803). -/
def Pic.column (p : Pic) (b : Nat) : BitVec 32 :=
  (List.range 32).foldl (fun acc n => if (p.ctrlOf n).getLsbD b then acc ||| (1#32 <<< n) else acc) 0

/-- Set bit b of one control register. -/
def Pic.setBit (p : Pic) (n b : Nat) (v : Bool) : Pic :=
  { p with ctrl := modifyAt p.ctrl n fun c => if v then c ||| (1#32 <<< b) else c &&& ~~~(1#32 <<< b) }

/-- Set bit b of every control register from a mask register. -/
def Pic.setColumn (p : Pic) (b : Nat) (v : BitVec 32) : Pic :=
  (List.range 32).foldl (fun q n => q.setBit n b (v.getLsbD n)) p

/-- A timer component asks for an interrupt (60_exceptions R819). -/
def Pit.irq (p : Pit) : Bool := p.ustat &&& p.ie != 0

/-- The input lines of the PIC: the external ones, and line 29 for both PITs (60_exceptions R819). -/
def State.picIn (s : State) : BitVec 32 :=
  s.pic.lines ||| (if s.pit1.irq || s.pit2.irq then 1#32 <<< 29 else 0)

/-- Sample the input lines: the edge-sensitive sources latch the selected transitions (60_exceptions R804). -/
def Pic.sample (p : Pic) (inp : BitVec 32) : Pic :=
  { p with
    latch := p.latch ||| (inp &&& ~~~p.prevIn &&& p.column 17) ||| (~~~inp &&& p.prevIn &&& p.esh)
    prevIn := inp }

/-- Sample the input lines of the machine. -/
def State.samplePic (s : State) : State := { s with pic := s.pic.sample s.picIn }

/-- The edge-sensitive sources (60_exceptions R802, R804). -/
def Pic.edges (p : Pic) : BitVec 32 := p.column 17 ||| p.esh

/-- The requests (60_exceptions R804): of an edge-sensitive source its latch, of a level-sensitive one its line; and the
sources that TRIG set. -/
def State.picReq (s : State) : BitVec 32 :=
  s.pic.trig ||| (s.pic.latch &&& s.pic.edges) ||| (s.picIn &&& ~~~s.pic.edges)

/-- The selected source: the active one with the lowest number (60_exceptions R804). -/
def State.picSelected (s : State) : Option Nat :=
  (List.range 32).find? fun n => (s.picReq &&& s.pic.column 16).getLsbD n

/-- The level and cause code this core sees (60_exceptions R763, R804). -/
def State.irq (s : State) : BitVec 3 × BitVec 8 :=
  match s.picSelected with
  | none => (0, 0)
  | some n =>
    let c := s.pic.ctrlOf n
    if c.extractLsb' 24 6 = s.params.coreno.extractLsb' 0 6 then (c.extractLsb' 8 3, c.extractLsb' 0 8) else (0, 0)

/-- A read of a PIC register (60_exceptions R802). -/
def State.picRead (s : State) (off : Nat) : BitVec 32 :=
  if off = 0x00 then
    match s.picSelected with
    | none => 0
    | some n => (s.pic.ctrlOf n) &&& 0xFF
  else if off = 0x04 then s.pic.column 16
  else if 0x80 ≤ off then s.pic.ctrlOf ((off - 0x80) / 4)
  else 0

/-- A write of a PIC register (60_exceptions R802 to R804). -/
def Pic.write (p : Pic) (off : Nat) (v : BitVec 32) : Pic :=
  let n := (v.extractLsb' 0 5).toNat
  if off = 0x04 then p.setColumn 16 v
  else if off = 0x08 then p.setBit n 16 false
  else if off = 0x0C then p.setBit n 16 true
  else if off = 0x14 then { p with latch := p.latch &&& ~~~v, trig := p.trig &&& ~~~v }
  else if off = 0x18 then { p with trig := p.trig ||| (1#32 <<< n) }
  else if off = 0x20 then p.setColumn 17 v
  else if off = 0x24 then { p with esh := v }
  else if 0x80 ≤ off then { p with ctrl := modifyAt p.ctrl ((off - 0x80) / 4) fun _ => v &&& picCtrlMask }
  else p

/-! The timers. -/

/-- The number of timers (60_exceptions R813). -/
def pitTimers (p : Params) : Nat := min p.pitNTimer 32

/-- The implemented bits of a count (60_exceptions R813). -/
def pitCount (p : Params) (v : BitVec 64) : BitVec 64 := v &&& .ofNat 64 (2 ^ p.pitBits - 1)

/-- The implemented bits of a mask register (60_exceptions R813, R814). -/
def pitMask (p : Params) (v : BitVec 64) : BitVec 64 := v &&& .ofNat 64 (2 ^ pitTimers p - 1)

/-- XC and GE are forced to 0 for timers 4 to 31 (60_exceptions R815). -/
def timerCtrl (n : Nat) (v : BitVec 5) : BitVec 5 := if n < 4 then v else v &&& 0b00111

/-- OSTAT: the timers whose output is high (60_exceptions R818). -/
def Pit.ostat (p : Pit) : BitVec 64 :=
  (List.range 32).foldl (fun acc n =>
    match p.timers[n]? with
    | some t => if t.cc ≠ 0 ∧ t.cc ≤ t.ot then acc ||| (1#64 <<< n) else acc
    | none => acc) 0

/-- A read of a PIT register; max count, on time and control give the value last written (60_exceptions R814, R816). -/
def Pit.read (c : Params) (p : Pit) (off : Nat) : BitVec 64 :=
  if off < 0x800 then
    if off / 32 < pitTimers c then
      match p.timers[off / 32]? with
      | some t =>
        match off % 32 / 8 with
        | 0 => t.cc
        | 1 => t.pmc
        | 2 => t.pot
        | _ => t.pctrl.setWidth 64
      | none => 0
    else 0
  else if off = 0x800 then p.ustat
  else if off = 0x810 then p.ie
  else if off = 0x818 then p.tmp
  else if off = 0x820 then p.ostat
  else if off = 0x828 then p.gate
  else 0

/-- A timer written to SYNC: its pending values become the active ones; LD loads the count (60_exceptions R816). -/
def Timer.sync (t : Timer) : Timer :=
  let t := { t with mc := t.pmc, ot := t.pot, ctrl := t.pctrl }
  if t.ctrl.getLsbD 0 then { t with cc := t.mc, ctrl := t.ctrl &&& ~~~1, pctrl := t.pctrl &&& ~~~1 } else t

/-- The bits of SYNC, timer by timer. -/
def Pit.syncAll (p : Pit) (v : BitVec 64) : Pit :=
  (List.range 32).foldl (fun q n => if v.getLsbD n then { q with timers := modifyAt q.timers n Timer.sync } else q) p

/-- A write of a PIT register (60_exceptions R814 to R819). -/
def Pit.write (c : Params) (p : Pit) (off : Nat) (v : BitVec 64) : Pit :=
  if off < 0x800 then
    if off / 32 < pitTimers c then
      match off % 32 / 8 with
      | 0 => p
      | 1 => { p with timers := modifyAt p.timers (off / 32) fun t => { t with pmc := pitCount c v } }
      | 2 => { p with timers := modifyAt p.timers (off / 32) fun t => { t with pot := pitCount c v } }
      | _ => { p with timers := modifyAt p.timers (off / 32) fun t => { t with pctrl := timerCtrl (off / 32) (v.setWidth 5) } }
    else p
  else if off = 0x800 then { p with ustat := p.ustat &&& ~~~v }
  else if off = 0x808 then p.syncAll (pitMask c v)
  else if off = 0x810 then { p with ie := pitMask c v }
  else if off = 0x818 then { p with tmp := v }
  else if off = 0x828 then { p with gate := pitMask c v }
  else if off = 0x830 then { p with gate := p.gate ||| pitMask c v }
  else if off = 0x838 then { p with gate := p.gate &&& ~~~v }
  else p

/-- A count event of timer n (60_exceptions R817). An underflow without auto-reload clears CE in the active control register
alone, by the model's choice: CTRLn still reads as last written, and a later SYNC starts the timer again (R815, R816; log
36). -/
def Pit.count (p : Pit) (n : Nat) : Pit :=
  match p.timers[n]? with
  | none => p
  | some t =>
    if t.ctrl.getLsbD 1 && p.gate.getLsbD n && (!t.ctrl.getLsbD 4 || p.extGate.getLsbD n) then
      if t.cc ≠ 0 then { p with timers := modifyAt p.timers n fun t => { t with cc := t.cc - 1 } }
      else { p with
        ustat := p.ustat ||| (1#64 <<< n)
        timers := modifyAt p.timers n fun t =>
          if t.ctrl.getLsbD 2 then { t with cc := t.mc } else { t with ctrl := t.ctrl &&& ~~~2 } }
    else p

/-- Whether timer n is clocked from outside (60_exceptions R815). -/
def Pit.external (p : Pit) (n : Nat) : Bool :=
  match p.timers[n]? with
  | some t => t.ctrl.getLsbD 3
  | none => false

/-- A cycle of the PIT's clock: a count event of every timer that is not clocked from outside (60_exceptions R817). -/
def Pit.clock (c : Params) (p : Pit) : Pit :=
  (List.range (pitTimers c)).foldl (fun q n => if q.external n then q else q.count n) p

/-- A positive edge of the external clock of timer n, 0 to 3 (60_exceptions R817). -/
def Pit.edge (p : Pit) (n : Nat) : Pit := if p.external n then p.count n else p

/-- The external gate input of timer n, 0 to 3. -/
def Pit.setGate (p : Pit) (n : Nat) (v : Bool) : Pit :=
  { p with extGate := if v then p.extGate ||| (1#4 <<< n) else p.extGate &&& ~~~(1#4 <<< n) }

/-! The region table. -/

/-- The value of one of the 32 registers of 128 bits (20_memory R120); the fourth of a region is not used. -/
def regionReg (r : Vector Region 8) (k : Nat) : BitVec 128 :=
  match r[k / 4]? with
  | none => 0
  | some e =>
    match k % 4 with
    | 0 => e.pmt
    | 1 => e.cta
    | 2 => e.at_
    | _ => 0

/-- Set one of the registers. -/
def setRegionReg (k : Nat) (v : BitVec 128) (r : Vector Region 8) : Vector Region 8 :=
  modifyAt r (k / 4) fun e =>
    match k % 4 with
    | 0 => { e with pmt := v }
    | 1 => { e with cta := v }
    | 2 => { e with at_ := v }
    | _ => e

/-- The byte at an offset of the region table (log 32). -/
def regionByte (r : Vector Region 8) (off : Nat) : Byte := (regionReg r (off / 16)).extractLsb' (8 * (off % 16)) 8

/-- Replace one byte of a value. -/
def putByte {w : Nat} (v : BitVec w) (k : Nat) (b : Byte) : BitVec w :=
  (v &&& ~~~((0xFF#8).setWidth w <<< (8 * k))) ||| (b.setWidth w <<< (8 * k))

/-- Write the byte at an offset of the region table. -/
def setRegionByte (off : Nat) (b : Byte) (r : Vector Region 8) : Vector Region 8 :=
  setRegionReg (off / 16) (putByte (regionReg r (off / 16)) (off % 16) b) r

/-! The TLB's registers. -/

/-- The entry in a slot; an unlisted one is all zero, with V = 0 (20_memory R145, R154). -/
def Tlb.get (t : Tlb) (slot : Nat) : TlbEntry :=
  match t.entries.find? (fun e => e.1 == slot) with
  | some e => e.2
  | none => ⟨0, 0, 0, 0, none⟩

/-- Put an entry in a slot. -/
def Tlb.put (t : Tlb) (slot : Nat) (e : TlbEntry) : Tlb := { t with entries := tlbPut slot e t.entries }

/-- The slot of an entry of a way (20_memory R144). -/
def tlbSlot (way index : Nat) : Nat := way * 1024 + index

/-- A read of a TLB register (20_memory R149); the unused ones and the triggers read 0. -/
def Tlb.readReg (t : Tlb) (off : Nat) : BitVec 64 :=
  if off = 0x00 then t.holdPte.extractLsb' 0 64
  else if off = 0x08 then (t.holdPte.extractLsb' 64 32).setWidth 64
  else if off = 0x10 then t.holdVpn.extractLsb' 0 64
  else if off = 0x18 then (t.holdVpn.extractLsb' 64 32).setWidth 64
  else if off = 0x20 then t.missAddr
  else if off = 0x28 then t.missAsid.setWidth 64 <<< 48
  else if off = 0x70 then t.ctrl
  else 0

/-- The bits of the TLB's control register that belong to its fields Way, Entry Num and AL; the others are reserved, read
zero and ignore writes (20_memory R149; 93_implementation_defined section 4; log 33). -/
def tlbCtrlMask (c : Params) : BitVec 64 := 0xF ||| 0x3FF#64 <<< c.tlbEntryLo ||| 3#64 <<< c.tlbAlLo

/-- A write of a TLB register (20_memory R149); the miss registers are the MMU's. -/
def Tlb.writeReg (c : Params) (t : Tlb) (off : Nat) (v : BitVec 64) : Tlb :=
  if off = 0x00 then { t with holdPte := t.holdPte.extractLsb' 64 32 ++ v }
  else if off = 0x08 then { t with holdPte := v.extractLsb' 0 32 ++ t.holdPte.extractLsb' 0 64 }
  else if off = 0x10 then { t with holdVpn := t.holdVpn.extractLsb' 64 32 ++ v }
  else if off = 0x18 then { t with holdVpn := v.extractLsb' 0 32 ++ t.holdVpn.extractLsb' 0 64 }
  else if off = 0x70 then { t with ctrl := v &&& tlbCtrlMask c }
  else t

/-- The fields of the control register: Way in the low four bits, Entry Num and AL where the parameters put them
(20_memory R149; log 33). -/
def State.tlbWayField (s : State) : Nat := (s.tlb.ctrl.extractLsb' 0 4).toNat
def State.tlbEntryField (s : State) : Nat := (s.tlb.ctrl.extractLsb' s.params.tlbEntryLo 10).toNat
def State.tlbAlField (s : State) : BitVec 2 := s.tlb.ctrl.extractLsb' s.params.tlbAlLo 2

/-- Whether a write picks its way itself (20_memory R148, R149): the replacement method is in S_PTBR.AL2 and in AL of the
control register, 0 being the fixed one; where the two disagree, a free choice (log 56). -/
def State.tlbAuto (s : State) : Bool :=
  let own := s.tlbAlField != 0
  let base := s.ptbr.extractLsb' 6 2 != 0
  if own == base then own else Config.tlbAuto s.draws

/-- A trigger (20_memory R149): read, write, or exchange the selected entry; `none` where the way does not exist. Where
the algorithm is not the fixed one, the way of a write is a free choice of 0 to 3 (20_memory R148; log 10). -/
def State.tlbTrigger (s : State) (read write : Bool) : Option State :=
  let auto := write && s.tlbAuto
  let way := if auto then (Config.tlbWay s.draws).toNat else s.tlbWayField
  if way < 6 then
    let slot := tlbSlot way s.tlbEntryField
    let old := s.tlb.get slot
    let t := if write then s.tlb.put slot ⟨s.tlb.holdPte, s.tlb.holdVpn, s.tlb.count, 0, none⟩ else s.tlb
    let t := if read then { t with holdPte := old.pte, holdVpn := old.vpn } else t
    some { s with tlb := t, draws := if write then s.draws + 1 else s.draws }
  else none

/-! Where the units stand, and accesses to them. -/

/-- A unit behind a physical address. -/
inductive Device where
  | tlb | region | pic | pit1 | pit2
deriving DecidableEq, Repr

/-- A physical address: the low PA_BITS bits (20_memory R100, R147). -/
def State.phys (s : State) (pa : Nat) : Nat := pa % 2 ^ s.params.paBits

/-- The physical address with these low 32 bits whose higher bits are all ones, as many as PA_BITS has (20_memory R111). Where
PA_BITS is below 32 its low PA_BITS bits, by the model's choice (log 37). -/
def State.physOnes (s : State) (low : Nat) : Nat := s.phys (low ||| (2 ^ (s.params.paBits - 32) - 1) <<< 32)

/-- The windows of the units (20_memory R111): each with its first address and its size. A base given as a parameter is
reduced to its low PA_BITS bits, by the model's choice (log 37). -/
def State.windows (s : State) : List (Device × Nat × Nat) :=
  [(.tlb, s.physOnes 0xFFE00000, 0x100), (.region, s.physOnes 0xFF9F0000, 0x1000),
    (.pic, s.phys s.params.picBase, 0x100), (.pit1, s.phys s.params.pit1Base, 0x10000),
    (.pit2, s.phys s.params.pit2Base, 0x10000)]

/-- The unit at a physical address and the offset in its window. -/
def State.device (s : State) (pa : Nat) : Option (Device × Nat) :=
  (s.windows.find? fun w => w.2.1 ≤ pa && pa < w.2.1 + w.2.2).map fun w => (w.1, pa - w.2.1)

/-- The byte at a physical address: of the region table or of memory. -/
def State.physByte (s : State) (pa : Nat) : Byte :=
  match s.device pa with
  | some (.region, off) => regionByte s.regions off
  | _ => s.byte pa

/-- What a fetch of the byte at `pa` sees: between a store and the next instruction-cache invalidate the old or the new
byte, a free choice (20_memory R176; log 11). -/
def State.fetchByte (s : State) (pa : Nat) : Byte :=
  match s.stale.find? (fun c => c.1 == pa) with
  | some c => if Config.fetchOld s.draws pa then c.2 else s.physByte pa
  | none => s.physByte pa

/-- A store of the core to one byte of the region table or of memory (20_memory R120, R176). -/
def State.putPhys (pa : Nat) (b : Byte) (s : State) : State :=
  let t := { s with stale := Memory.note pa (s.physByte pa) s.stale }
  match s.device pa with
  | some (.region, off) => { t with regions := setRegionByte off b s.regions }
  | _ => { t with mem := Memory.write pa b s.mem }

/-- The `n` bytes at `pa` of the region table and of memory. -/
def State.physRead (s : State) (pa : Nat) : Nat → Nat
  | 0 => 0
  | n + 1 => (s.physByte pa).toNat + 256 * s.physRead (pa + 1) n

/-- A store of bytes from `pa` upwards. -/
def State.physWrite (pa : Nat) : List Byte → State → State
  | [], s => s
  | b :: bs, s => State.physWrite (pa + 1) bs (s.putPhys pa b)

/-- A read of `n` bytes of the registers of a unit other than the region table; `none` for a size or alignment it does not
take (20_memory R114). A byte access to a timer's control register (60_exceptions R814) is one to its lowest byte, by the
model's choice (log 36). -/
def State.deviceRead (s : State) (d : Device) (off n : Nat) : Option Nat :=
  match d with
  | .region => none
  | .tlb => if n = 8 ∧ off % 8 = 0 then some (s.tlb.readReg off).toNat else none
  | .pic => if n = 4 ∧ off % 4 = 0 then some (s.picRead off).toNat else none
  | .pit1 => if n = 8 ∧ off % 8 = 0 then some (s.pit1.read s.params off).toNat
             else if n = 1 ∧ off < 0x800 ∧ off % 32 = 0x18 then some ((s.pit1.read s.params off).toNat % 256) else none
  | .pit2 => if n = 8 ∧ off % 8 = 0 then some (s.pit2.read s.params off).toNat
             else if n = 1 ∧ off < 0x800 ∧ off % 32 = 0x18 then some ((s.pit2.read s.params off).toNat % 256) else none

/-- A write of the `n` low bytes of `v` to the registers of a unit other than the region table, after which the interrupt
lines are sampled. It takes the accesses `State.deviceRead` takes (60_exceptions R814; log 36), and the triggers of the
TLB. -/
def State.deviceWrite (s : State) (d : Device) (off n v : Nat) : Except Refusal State :=
  match d with
  | .region => .error .deviceAccess
  | .tlb =>
    if n = 8 ∧ off % 8 = 0 ∧ off ≠ 0x78 then .ok { s with tlb := s.tlb.writeReg s.params off (.ofNat 64 v) }
    else if n = 1 ∧ 0x78 ≤ off ∧ off ≤ 0x7F then
      if off ≤ 0x7C then .ok s else
        match s.tlbTrigger (off == 0x7D || off == 0x7F) (off == 0x7E || off == 0x7F) with
        | some s' => .ok s'
        | none => .error .tlbWay
    else .error .deviceAccess
  | .pic =>
    if n = 4 ∧ off % 4 = 0 then .ok ({ s with pic := s.pic.write off (.ofNat 32 v) } : State).samplePic
    else .error .deviceAccess
  | .pit1 =>
    if (n = 8 ∧ off % 8 = 0) ∨ (n = 1 ∧ off < 0x800 ∧ off % 32 = 0x18) then
      .ok ({ s with pit1 := s.pit1.write s.params off (.ofNat 64 v) } : State).samplePic
    else .error .deviceAccess
  | .pit2 =>
    if (n = 8 ∧ off % 8 = 0) ∨ (n = 1 ∧ off < 0x800 ∧ off % 32 = 0x18) then
      .ok ({ s with pit2 := s.pit2.write s.params off (.ofNat 64 v) } : State).samplePic
    else .error .deviceAccess

end Sys2Proof.Machine
end

