-- ==== Sys2Proof/Machine/Walk.lean ====
section
/-! DEFINITION. The widths of addresses (20_memory R100), and the hardware page-table walk (20_memory R155): the hash table
(R132 to R134, R140 to R142) and the hierarchical table (R136 to R138). What no source gives of them is a parameter, and what
the walk then still settles is named in log 13. -/

namespace Sys2Proof.Machine

/-- A virtual address: the low VA_BITS bits (20_memory R100). -/
def State.virt (s : State) (va : Addr) : Addr := .ofNat 64 (va.toNat % 2 ^ min s.params.vaBits 64)

/-! Fields of a 96-bit page table entry, whose low 32 bits are the attribute word (20_memory R131, R136). -/

def pteValid (e : BitVec 96) : Bool := e.getLsbD 31
def pteLevel (e : BitVec 96) : Nat := (e.extractLsb' 26 5).toNat
def ptePointer (e : BitVec 96) : Bool := e.getLsbD 20
def pteGlobal (e : BitVec 96) : Bool := e.getLsbD 18
/-- PPN[63:0]. -/
def ptePpn (e : BitVec 96) : Nat := (e.extractLsb' 32 64).toNat

/-- What a walk finds: a translation of a 16 MB page or of a 16 kB page, as the two parts of a TLB entry (20_memory
R145). -/
structure WalkHit where
  big : Bool
  pte : BitVec 96
  vpn : BitVec 96
deriving DecidableEq, Repr

/-- The VPN part of the TLB entry for an address: the ASID above the stored bits of the page number (20_memory R145,
R146). -/
def vpnPart (big : Bool) (asid : BitVec 12) (va : Addr) : BitVec 96 :=
  0#4 ++ (asid ++ (0#16 ++ (if big then va >>> 34 else va >>> 24)))

/-! The hash table. -/

/-- An entry of a page table group, as the access at a virtual address sees it: its attribute word and PPN, whether its VPN
is that of the access in all stored bits, its ASID. -/
structure HashEntry where
  attr    : BitVec 32
  ppn     : BitVec 64
  sameVpn : Bool
  asid    : BitVec 12
deriving DecidableEq, Repr

/-- HPTE: words 1 and 2 the PPN, VPN[83:6] in bits 173:96, the ASID in bits 187:176 (20_memory R132). -/
def HashEntry.ofHpte (v : BitVec 192) (va : Addr) : HashEntry :=
  ⟨v.extractLsb' 0 32, v.extractLsb' 32 64, v.extractLsb' 96 78 == (va.extractLsb' 20 44).setWidth 78,
    v.extractLsb' 176 12⟩

/-- SHPTE: PPN[25:0] in bits 57:32, VPN[25:0] in bits 83:58, the ASID in bits 95:84 (20_memory R133). -/
def HashEntry.ofShpte (v : BitVec 96) (va : Addr) : HashEntry :=
  ⟨v.extractLsb' 0 32, (v.extractLsb' 32 26).setWidth 64, v.extractLsb' 58 26 == va.extractLsb' 14 26,
    v.extractLsb' 84 12⟩

/-- The entry translates the access (20_memory R142). -/
def HashEntry.hit (e : HashEntry) (asid : BitVec 12) : Bool :=
  e.attr.getLsbD 31 && e.sameVpn && (e.attr.getLsbD 18 || e.asid == asid)

/-- The hash of an address (20_memory R140). -/
def ptHash (asid : BitVec 12) (va : Addr) : BitVec 11 :=
  asid.extractLsb' 0 11 ^^^ va.extractLsb' 18 11 ^^^ va.extractLsb' 29 11

/-- The group to search after a number of misses: the hash plus its square, modulo NPTG (20_memory R140, R141). -/
def ptGroup (t : WalkTables) (asid : BitVec 12) (va : Addr) (miss : Nat) : Nat :=
  ((ptHash asid va).toNat + miss * miss) % t.nptg

/-- The entries of the group of 1024 bits at a physical address: ten SHPTEs or five HPTEs, packed from bit 0 upward
(20_memory R134; log 13). -/
def State.ptEntries (s : State) (t : WalkTables) (va : Addr) (base : Nat) : List HashEntry :=
  if t.smallHash then (List.range 10).map fun k => .ofShpte (.ofNat 96 (Memory.readN s.mem (base + 12 * k) 12)) va
  else (List.range 5).map fun k => .ofHpte (.ofNat 192 (Memory.readN s.mem (base + 24 * k) 24)) va

/-- The search of the hash table: group after group, the first entry that matches (20_memory R140 to R142; log 13). -/
def State.hashWalk (s : State) (t : WalkTables) (asid : BitVec 12) (va : Addr) : Option (BitVec 96) :=
  ((List.range t.probes).findSome? fun miss =>
    (s.ptEntries t va (s.phys (t.hashBase + 128 * ptGroup t asid va miss))).find? fun e => e.hit asid).map
    fun e => e.ppn ++ e.attr

/-! The hierarchical table. -/

/-- An entry of a table page: a PTE, or an SPTE with a 32-bit PPN (20_memory R136). -/
def State.tableEntry (s : State) (t : WalkTables) (table index : Nat) : BitVec 96 :=
  let a := s.phys (table + t.stride * index)
  if t.smallPte then (BitVec.ofNat 64 (Memory.readN s.mem a 8)).setWidth 96 else .ofNat 96 (Memory.readN s.mem a 12)

/-- The translation a page pointer gives (20_memory R138): of a 16 kB page; of a 16 MB super page; of a page within a 16 GB
super page, as that page. The formats of higher levels are not drawn: nothing is found (log 13). -/
def pagePointer (e : BitVec 96) (va : Addr) : Option (Bool × BitVec 96) :=
  match pteLevel e with
  | 0 => some (false, e)
  | 1 => some (true, e)
  | 2 =>
    if (va.extractLsb' 14 20).toNat ≤ (e.extractLsb' 32 20).toNat then
      some (false, e.extractLsb' 52 44 ++ (va.extractLsb' 14 20 ++ e.extractLsb' 0 32))
    else none
  | _ => none

/-- The search from the table page of a level, ten bits of the address a level (20_memory R137). A table pointer goes on at
the level it names, which is a lower one; a level above 4 has the index 0, its bits lying above the address, by the
model's choice (log 13). -/
def State.treeWalk (s : State) (t : WalkTables) (va : Addr) : Nat → Nat → Nat → Option (Bool × BitVec 96)
  | 0, _, _ => none
  | fuel + 1, level, table =>
    let e := s.tableEntry t table (va.extractLsb' (14 + 10 * level) 10).toNat
    if !pteValid e then none
    else if !ptePointer e then pagePointer e va
    else if pteLevel e < level then s.treeWalk t va fuel (pteLevel e) (s.phys (ptePpn e * 2 ^ 14))
    else none

/-! The walk. -/

/-- The search of the page tables for a translation: S_PTBR.Type selects the table, S_PTBR its address and top level
(20_memory R155; 10_state R56; log 13). -/
def State.walk (s : State) (asid : BitVec 12) (va : Addr) : Option WalkHit :=
  let tree := s.ptbr.getLsbD 0
  match s.params.walk with
  | .absent => none
  | .tables t =>
    if tree then
      let top := (s.ptbr.extractLsb' 8 4).toNat
      (s.treeWalk t va (top + 1) top (s.phys ((s.ptbr.extractLsb' 14 54).toNat * 2 ^ 14))).map fun r =>
        ⟨r.1, r.2, vpnPart r.1 asid va⟩
    else (s.hashWalk t asid va).map fun e => ⟨false, e, vpnPart false asid va⟩
  | .other =>
    (Config.walk s.mem s.ptbr asid va).map fun r => ⟨tree && pteLevel r.1 == 1 && !ptePointer r.1, r.1, r.2⟩

end Sys2Proof.Machine
end

