-- ==== Sys2Proof/Machine/Ops.lean ====
section
/-! DEFINITION. The operations the meanings are written over: registers, free values, translation and protection, access to
memory, taking an exception and returning from one, and how an instruction ends. -/

namespace Sys2Proof.Machine

/-! What a part of an instruction can do: give a value and the state so far, raise an exception, be refused. -/

/-- A synchronous exception: its vector, and the address M_BADADDR gets (60_exceptions R770, R771). -/
structure Exc where
  vec : BitVec 9
  bad : Option Addr
deriving DecidableEq, Repr

/-- The exception of a reserved encoding (60_exceptions R744). -/
def Exc.unimplemented : Exc := ⟨4, none⟩
/-- A privilege violation of an instruction (60_exceptions R747). -/
def Exc.privilege : Exc := ⟨8, none⟩

/-- The outcome of a part of an instruction. What was done before an exception stays done (20_memory R106). -/
inductive Acc (α : Type) where
  | ok (a : α) (s : State)
  | trap (e : Exc) (s : State)
  | refuse (r : Refusal)
deriving DecidableEq, Repr

/-- Go on with the value and the state of the first part. -/
def Acc.bind {α β : Type} (x : Acc α) (f : α → State → Acc β) : Acc β :=
  match x with
  | .ok a s => f a s
  | .trap e s => .trap e s
  | .refuse r => .refuse r

/-- Change the value. -/
def Acc.map {α β : Type} (f : α → β) (x : Acc α) : Acc β := x.bind fun a s => .ok (f a) s

/-! Fields of the status register (10_state R35). -/

/-- The operating mode, SR.om. -/
def State.mode (s : State) : BitVec 2 := s.sr.extractLsb' 10 2
/-- The interrupt mask level. -/
def State.ipl (s : State) : BitVec 3 := s.sr.extractLsb' 5 3
/-- Trace enable. -/
def State.te (s : State) : Bool := s.sr.getLsbD 9
/-- Memory privilege of the previous mode. -/
def State.mprv (s : State) : Bool := s.sr.getLsbD 16
/-- The current privilege level. -/
def State.cpl (s : State) : BitVec 8 := s.sr.extractLsb' 24 8
/-- The interrupt-enable bit of the current mode (60_exceptions R764). -/
def State.intEnabled (s : State) : Bool := s.sr.getLsbD s.mode.toNat
/-- The implemented bits of SR: bits 15:14, 17 and 23:20 are reserved and read as zero. -/
def srMask : BitVec 32 := 0xFF0D3FFF
/-- SR with another operating mode. -/
def srWithMode (sr : BitVec 32) (m : BitVec 2) : BitVec 32 := (sr &&& 0xFFFFF3FF) ||| (m.setWidth 32 <<< 10)
/-- SR with another interrupt mask level. -/
def srWithIpl (sr : BitVec 32) (l : BitVec 3) : BitVec 32 := (sr &&& 0xFFFFFF1F) ||| (l.setWidth 32 <<< 5)

/-! Free values. -/

/-- Draw a free value (log 5). -/
def draw {α : Type} (f : Nat → α) (s : State) : Acc α := .ok (f s.draws) { s with draws := s.draws + 1 }

/-! General registers (10_state R20 to R23). -/

/-- The stack pointer of a mode (10_state R23). -/
def State.bank (s : State) (m : BitVec 2) : Word :=
  match m.toNat with
  | 0 => s.asp
  | 1 => s.ssp
  | 2 => s.hsp
  | _ => s.msp

/-- Write the stack pointer of a mode. -/
def State.setBank (s : State) (m : BitVec 2) (v : Word) : State :=
  match m.toNat with
  | 0 => { s with asp := v }
  | 1 => { s with ssp := v }
  | 2 => { s with hsp := v }
  | _ => { s with msp := v }

/-- Read a register as a source operand: r0 is zero, r53 the program counter, r63 the stack pointer of the mode. -/
def State.reg (s : State) (r : Reg) : Word :=
  if r = 0 then 0
  else if r = 53 then s.pc.setWidth 128
  else if r = 63 then s.bank s.mode
  else s.gpr[r.toNat]

/-- Write a register: r0 discards, r53 is the stack canary, r63 the stack pointer of the mode. -/
def State.setReg (s : State) (r : Reg) (v : Word) : State :=
  if r = 0 then s
  else if r = 53 then { s with sc := v }
  else if r = 63 then s.setBank s.mode v
  else { s with gpr := s.gpr.set r.toNat v }

/-- A register as the data operand of STORE, where r53 is the stack canary (10_state R22; 47_memory_ops R600). -/
def State.storeReg (s : State) (r : Reg) : Word := if r = 53 then s.sc else s.reg r

/-! Vector registers (10_state R29, R30). -/

/-- A vector register; the low five bits of the field name it. -/
def State.vec (s : State) (r : Reg) : BitVec 512 := (s.vreg[r.toNat % 32]?).getD 0

/-- Element k of width w. -/
def State.elem (s : State) (w : Nat) (r : Reg) (k : Nat) : BitVec w := (s.vec r).extractLsb' (w * k) w

/-- A 512-bit value with element k of width w replaced. -/
def putElem {w : Nat} (v : BitVec 512) (k : Nat) (e : BitVec w) : BitVec 512 :=
  (v &&& ~~~(((BitVec.allOnes w).setWidth 512) <<< (w * k))) ||| (e.setWidth 512 <<< (w * k))

/-- Write element k of width w. -/
def State.setElem {w : Nat} (s : State) (r : Reg) (k : Nat) (e : BitVec w) : State :=
  { s with vreg := s.vreg.setIfInBounds (r.toNat % 32) (putElem (s.vec r) k e) }

/-- The number of elements processed at width w: min(VL, 512 / w) (41_vector R380). -/
def State.elems (s : State) (w : Nat) : Nat := min s.vl.toNat (512 / w)

/-! Translation and protection of one access (20_memory R150). -/

/-- The kind of an access. -/
inductive Kind where
  | read | write | execute
deriving DecidableEq, Repr

/-- Bits of the attribute word of an entry (20_memory R131). -/
def entryValid (e : TlbEntry) : Bool := pteValid e.pte
def entryGlobal (e : TlbEntry) : Bool := pteGlobal e.pte
def entryRgn (e : TlbEntry) : Nat := (e.pte.extractLsb' 23 3).toNat
def entryAsid (e : TlbEntry) : BitVec 12 := e.vpn.extractLsb' 80 12

/-- The stored part of the virtual page number equals `v` (20_memory R145, R146). -/
def entryVpnIs (e : TlbEntry) (v : Addr) : Bool := e.vpn.extractLsb' 0 64 == v && e.vpn.extractLsb' 64 11 == 0

/-- The slot of a way that an address indexes (20_memory R144). -/
def waySlot (way : Nat) (va : Addr) : Nat :=
  tlbSlot way ((if way = 4 then va.extractLsb' 24 10 else va.extractLsb' 14 10).toNat)

/-- Whether a way translates an address (20_memory R146). -/
def State.wayHits (s : State) (va : Addr) (way : Nat) : Bool :=
  let e := s.tlb.get (waySlot way va)
  entryValid e && e.count == s.tlb.count && entryVpnIs e (if way = 4 then va >>> 34 else va >>> 24) &&
    (entryGlobal e || entryAsid e == s.asid)

/-- The ways that translate an address. -/
def State.hits (s : State) (va : Addr) : List Nat := [0, 1, 2, 3, 4, 5].filter (s.wayHits va)

/-- The physical address of a hit, before it is reduced to PA_BITS (20_memory R147); `none` outside a super page. -/
def entryPhys (e : TlbEntry) (way : Nat) (va : Addr) : Option Nat :=
  if way = 4 then
    if (va.extractLsb' 14 10).toNat ≤ (e.pte.extractLsb' 32 10).toNat then
      some (e.pte.extractLsb' 42 54 ++ va.extractLsb' 0 24).toNat
    else none
  else some (e.pte.extractLsb' 32 64 ++ va.extractLsb' 0 14).toNat

/-- The R, W, X bits of an access (20_memory R122): those of the entry for the mode if not zero, else the region's. -/
def State.rwx (s : State) (e : TlbEntry) (m : BitVec 2) : BitVec 3 :=
  let o := e.pte.extractLsb' (3 * m.toNat) 3
  if o != 0 then o else
    match s.regions[entryRgn e]? with
    | some r => r.at_.extractLsb' (32 * m.toNat) 3
    | none => 0

/-- Whether the rights allow a kind of access. -/
def kindAllowed (k : Kind) (rwx : BitVec 3) : Bool :=
  match k with
  | .read => rwx.getLsbD 2
  | .write => rwx.getLsbD 1
  | .execute => rwx.getLsbD 0

/-- The granularity of a region (20_memory R104, R121) allows a data access of `n` bytes at `va`: a whole access, or the
piece of one on its side of a 16 kB page, tested by itself as the model's choice (log 41). -/
def State.granularOk (s : State) (e : TlbEntry) (m : BitVec 2) (k : Kind) (va : Addr) (n : Nat) : Bool :=
  match s.regions[entryRgn e]? with
  | some r =>
    let g := 2 ^ (r.at_.extractLsb' (32 * m.toNat + 8) 3).toNat
    k == .execute || (g ≤ n && va.toNat % g == 0)
  | none => true

/-- The address of the page management table entry of a page (20_memory R124). The page is numbered from the start of the
region that RGN selects; nothing compares the address with the region's range, and below its start the number is 0 (log
53). -/
def State.pmteAddr (s : State) (e : TlbEntry) (pa : Nat) : Nat :=
  let start := match s.params.regionRange[entryRgn e]? with
    | some r => r.1
    | none => 0
  let pmt := match s.regions[entryRgn e]? with
    | some r => r.pmt.toNat
    | none => 0
  s.phys (pmt + 16 * ((pa - start) / 16384))

/-- The rights of a page in its page management table entry (20_memory R125). Its V bit, which the spec does not describe
further, is not looked at (log 53). -/
def State.pmteRights (s : State) (addr : Nat) : Rights :=
  let v : BitVec 128 := .ofNat 128 (Memory.readN s.mem addr 16)
  ⟨v.extractLsb' 120 8, v.extractLsb' 96 24, v.getLsbD 30⟩

/-- The privilege level and key checks (20_memory R127, R128). -/
def State.rightsOk (s : State) (k : Kind) (r : Rights) : Bool :=
  (r.pl == 0 || r.pl.toNat ≤ s.cpl.toNat || (k == .execute && r.n)) &&
    (r.key == 0 || s.keys.toList.any (fun key => key == r.key))

/-- A TLB miss that raises its exception (20_memory R155). -/
def tlbMiss {α : Type} (va : Addr) (s : State) : Acc α :=
  .trap ⟨s.params.tlbMissVector, some va⟩ { s with tlb := { s.tlb with missAddr := va, missAsid := s.asid } }

/-- The TLB entry found by a hardware page-table walk is stored: in way 4 for a 16 MB page, else in one of ways 0 to 3
(20_memory R148, R155; log 10). -/
def State.refill (s : State) (va : Addr) (h : WalkHit) : State :=
  let way := if h.big then 4 else (Config.tlbWay s.draws).toNat
  { s with tlb := s.tlb.put (waySlot way va) ⟨h.pte, h.vpn, s.tlb.count, 0, none⟩, draws := s.draws + 1 }

/-- Steps 2 to 4 of 20_memory R150, for a hit of a way. The rights cached are those of the page accessed first, in way 4 for
the whole super page; the A and M bits of the entry's attribute word are not set (log 53). -/
def checkHit (k : Kind) (m : BitVec 2) (va : Addr) (n : Nat) (way : Nat) (s : State) : Acc Nat :=
  let slot := waySlot way va
  let e := s.tlb.get slot
  match (entryPhys e way va).map s.phys with
  | none => tlbMiss va s
  | some pa =>
    if !kindAllowed k (s.rwx e m) then .trap ⟨8, some va⟩ s
    else if !s.granularOk e m k va n then .trap ⟨3, some va⟩ s
    else
      let r := match e.rights with
        | some r => r
        | none => s.pmteRights (s.pmteAddr e pa)
      let s' : State := { s with tlb := s.tlb.put slot { e with rights := some r } }
      if s.rightsOk k r then .ok pa s' else .trap ⟨8, some va⟩ s'

/-- The physical address of a piece of an access that lies in one page (20_memory R150, R155). -/
def locate (k : Kind) (m : BitVec 2) (va : Addr) (n : Nat) (s : State) : Acc Nat :=
  match s.params.translate with
  | .flat => .ok (s.phys va.toNat) s
  | .tlb =>
    match s.hits va with
    | [way] => checkHit k m va n way s
    | _ :: _ :: _ => .refuse .tlbMultiHit
    | [] =>
      if s.ptbr.getLsbD 3 then tlbMiss va s
      else
        match s.walk s.asid va with
        | none => tlbMiss va s
        | some h =>
          let s' := s.refill va h
          match s'.hits va with
          | [way] => checkHit k m va n way s'
          | _ :: _ :: _ => .refuse .tlbMultiHit
          | [] => tlbMiss va s'

/-! The physical bus. -/

/-- A physical address is claimed (20_memory R113). What PHYS_MAP claims and is no unit is memory that can be written: there
is no ROM (log 54). -/
def State.claimed (s : State) (pa : Nat) : Bool :=
  (s.device pa).isSome || s.params.physMap.any fun r => r.1 ≤ pa && pa < r.2

/-- What stands behind `n` bytes of physical memory: memory; memory and the region table, which takes accesses of any size
(20_memory R120; log 32); the registers of one other unit; something unclaimed; such a unit and something else. -/
inductive Target where
  | memory
  | table
  | unit (d : Device) (off : Nat)
  | nothing
  | mixed
deriving DecidableEq, Repr

/-- A physical address is in the window of a unit whose registers take one size only (20_memory R114). -/
def State.strict (s : State) (pa : Nat) : Bool :=
  match s.device pa with
  | none | some (.region, _) => false
  | some _ => true

/-- What stands behind `n` bytes at `pa`. -/
def State.target (s : State) (pa n : Nat) : Target :=
  if (List.range n).any (fun i => s.strict (pa + i)) then
    match s.device pa, s.device (pa + (n - 1)) with
    | some (d, off), some (d', _) => if d = d' then .unit d off else .mixed
    | _, _ => .mixed
  else if !(List.range n).all (fun i => s.claimed (pa + i)) then .nothing
  else if (List.range n).any (fun i => (s.device (pa + i)).isSome) then .table
  else .memory

/-- A Bus Error of an access of `n` bytes, at its first byte that nothing claims (20_memory R106, R113). -/
def busError {α : Type} (va : Addr) (pa n : Nat) (s : State) : Acc α :=
  let k := ((List.range n).find? fun i => !s.claimed (pa + i)).getD 0
  .trap ⟨2, some (va + .ofNat 64 k)⟩ s

/-- A read of `n` bytes at a physical address, `va` being its virtual one. -/
def busRead (va : Addr) (pa n : Nat) (s : State) : Acc Nat :=
  match s.target pa n with
  | .memory => .ok (Memory.readN s.mem pa n) s
  | .table => .ok (s.physRead pa n) s
  | .unit d off =>
    match s.deviceRead d off n with
    | some v => .ok v s
    | none => .refuse .deviceAccess
  | .nothing => busError va pa n s
  | .mixed => .refuse .deviceAccess

/-- A write of the `n` low bytes of `v` at a physical address, `va` being its virtual one. -/
def busWrite (va : Addr) (pa n v : Nat) (s : State) : Acc Unit :=
  match s.target pa n with
  | .memory => .ok () (s.store pa n v)
  | .table => .ok () (s.physWrite pa (toBytes n v))
  | .unit d off =>
    match s.deviceWrite d off n v with
    | .ok s' => .ok () s'
    | .error r => .refuse r
  | .nothing => busError va pa n s
  | .mixed => .refuse .deviceAccess

/-! MemRead and MemWrite (20_memory R101, R150). -/

/-- How many of `n` bytes at `va` lie in the page of `va` (20_memory R130). -/
def inPage (va : Addr) (n : Nat) : Nat := min n (16384 - va.toNat % 16384)

/-- A read of a piece in one page. -/
def readPiece (k : Kind) (m : BitVec 2) (va : Addr) (n : Nat) (s : State) : Acc Nat :=
  (locate k m (s.virt va) n s).bind fun pa s => busRead (s.virt va) pa n s

/-- A write of a piece in one page. -/
def writePiece (m : BitVec 2) (va : Addr) (n v : Nat) (s : State) : Acc Unit :=
  (locate .write m (s.virt va) n s).bind fun pa s => busWrite (s.virt va) pa n v s

/-- MemRead with the rights of mode `m`: at most two pieces, in ascending order. -/
def memReadAs (k : Kind) (m : BitVec 2) (va : Addr) (n : Nat) (s : State) : Acc Nat :=
  let f := inPage va n
  if f = n then readPiece k m va n s
  else
    (readPiece k m va f s).bind fun lo s =>
      (readPiece k m (va + .ofNat 64 f) (n - f) s).bind fun hi s => .ok (lo + 256 ^ f * hi) s

/-- MemWrite with the rights of mode `m`; what a first piece wrote stays written (20_memory R106). -/
def memWriteAs (m : BitVec 2) (va : Addr) (n v : Nat) (s : State) : Acc Unit :=
  let f := inPage va n
  if f = n then writePiece m va n v s
  else
    (writePiece m va f (v % 256 ^ f) s).bind fun _ s => writePiece m (va + .ofNat 64 f) (n - f) (v / 256 ^ f) s

/-- The mode whose rights a data access has: with SR.mprv the `om` of the status word in slot 0 (20_memory R150). -/
def State.dataMode (s : State) : BitVec 2 := if s.mprv then (s.stack[0]).sr.extractLsb' 10 2 else s.mode

/-- MemRead (20_memory R101). -/
def memRead (va : Addr) (n : Nat) (s : State) : Acc Nat := memReadAs .read s.dataMode va n s

/-- MemWrite (20_memory R101). -/
def memWrite (va : Addr) (n v : Nat) (s : State) : Acc Unit := memWriteAs s.dataMode va n v s

/-- The read-modify-write of an atomic instruction (20_memory R104, R173; 47_memory_ops R614, R620): aligned or Address
Error, checked for read and for write before anything is done; `f` of the old value is what to store, if anything. -/
def atomic (va : Addr) (n : Nat) (f : Nat → Option Nat) (s : State) : Acc Nat :=
  let va := s.virt va
  if va.toNat % n ≠ 0 then .trap ⟨3, some va⟩ s
  else
    (locate .read s.dataMode va n s).bind fun _ s =>
      (locate .write s.dataMode va n s).bind fun pa s =>
        (busRead va pa n s).bind fun old s =>
          match f old with
          | none => .ok old s
          | some v => (busWrite va pa n v s).bind fun _ s => .ok old s

/-! Taking an exception, and returning from one. -/

/-- Why an exception is taken: an instruction, an interrupt of a level with a cause code, or the trace facility. -/
inductive Entry where
  | sync
  | interrupt (level : BitVec 3) (code : BitVec 8)
  | trace
deriving DecidableEq, Repr

/-- Push on the exception stack (60_exceptions R770 (a)): slot k becomes slot k + 1, slot 7 is lost. -/
def pushSlot (e : Slot) (st : Vector Slot 8) : Vector Slot 8 :=
  Vector.ofFn fun k => if k.val = 0 then e else st[k.val - 1]'(by omega)

/-- Pop the exception stack (60_exceptions R776): slot k + 1 becomes slot k, slot 7 keeps its value. -/
def popSlot (st : Vector Slot 8) : Vector Slot 8 := Vector.ofFn fun k => st[min (k.val + 1) 7]'(by omega)

/-- The state after steps (a) to (c) of exception entry (60_exceptions R770, R771, R765): the status register and `epc`
are pushed, rep_hold set, the windows closed; below vector 64 the mode becomes machine, tracing stops, an interrupt sets
its level, and M_CAUSE, M_BAD_INSTR and M_BADADDR are written; from 64 on SR stays and the mode's own CAUSE is written. A
trace exception that is due is dropped by an interrupt and by its own entry, not by an instruction's exception (R790; log
27). -/
def enterState (k : Entry) (vec : BitVec 9) (epc : Addr) (bad : Option Addr) (s : State) : State :=
  let sys := vec.toNat < 64
  let sr := match k with
    | .interrupt level _ => srWithIpl s.sr level
    | _ => s.sr
  let code : BitVec 12 := match k with
    | .interrupt _ c => c.setWidth 12
    | _ => vec.setWidth 12
  { s with
    stack := pushSlot ⟨s.sr, epc, !sys, s.repHold⟩ s.stack
    repHold := true
    win := Windows.none
    traceDue := k = .sync && s.traceDue
    sr := if sys then srWithMode sr 3 &&& ~~~0x200 else s.sr
    cause := s.cause.set (if sys then 3 else s.mode.toNat) code
      (by have := s.mode.isLt; split <;> omega)
    badInstr := if k = .sync then s.ir else s.badInstr
    badAddr := match bad with
      | some a => a
      | none => s.badAddr }

/-- The address of the vector table entry and the mode whose rights read it (60_exceptions R772, R773). -/
def vectorEntry (vec : BitVec 9) (s : State) : Addr × BitVec 2 :=
  if vec.toNat < 64 then (s.vb[3] + .ofNat 64 (8 * vec.toNat), 3) else (s.av + .ofNat 64 (8 * vec.toNat), s.mode)

/-- Taking an exception (60_exceptions R770): the state of `enterState`, and the program counter read from the vector table;
where that read faults, the terminal state `halted`. -/
def enter (k : Entry) (vec : BitVec 9) (epc : Addr) (bad : Option Addr) (s : State) : Host.Outcome State Fault Refusal :=
  let t := enterState k vec epc bad s
  match memReadAs .read (vectorEntry vec t).2 (vectorEntry vec t).1 8 t with
  | .ok v t => .next { t with pc := .ofNat 64 v }
  | .trap _ t => .next { t with halted := true }
  | .refuse r => .refused r

/-- Return from exception, steps 1 to 6 of 60_exceptions R776: `d` is 1 or 2. -/
def rteState (d : Nat) (skip : BitVec 7) (s : State) : Acc Addr :=
  let e0 := s.stack[0]
  let e1 := s.stack[1]
  let deep := d == 2
  if s.mode != 3 && (!e0.app || (deep && !e1.app)) then .trap .privilege s
  else
    let e := if deep then e1 else e0
    .ok (e.pc + skip.setWidth 64)
      { s with
        stack := if deep then popSlot (popSlot s.stack) else popSlot s.stack
        sr := if e.app then s.sr else e.sr &&& srMask
        repHold := e.holdPrev }

/-! How an instruction ends (60_exceptions R768). -/

/-- Where an instruction that raised nothing goes on, and what it was to the bookkeeping of the step. -/
inductive Flow where
  | seq
  | goto (a : Addr)
  | opened (k : WinKind)
  | rep
  | again
deriving DecidableEq, Repr

/-- The end of an instruction of length `len`: the next address, or the exception, with its own address stacked. -/
def finish (len : Nat) (s0 : State) (r : Acc Flow) : Host.Outcome State Fault Refusal :=
  match r with
  | .ok .seq s => .next { s with pc := s0.pc + .ofNat 64 len, retire := .seq }
  | .ok (.goto a) s => .next { s with pc := a, retire := .jump }
  | .ok (.opened k) s => .next { s with pc := s0.pc + .ofNat 64 len, retire := .opened k }
  | .ok .rep s => .next { s with pc := s0.pc + .ofNat 64 len, retire := .rep }
  | .ok .again s => .next { s with pc := s0.pc, retire := .again }
  | .trap e s => enter .sync e.vec s0.pc e.bad { s with retire := .fault }
  | .refuse r => .refused r

/-- An instruction that does not execute only advances the program counter (49_modifiers R712; 30_encoding R240). -/
def skip (len : Nat) (s : State) : Host.Outcome State Fault Refusal :=
  .next { s with pc := s.pc + .ofNat 64 len, retire := .seq }

/-- A reserved encoding or an instruction without an operation: Unimplemented Instruction (60_exceptions R744). -/
def unimplemented (s : State) : Host.Outcome State Fault Refusal :=
  enter .sync 4 s.pc none { s with retire := .fault }

/-- The two mask bits of the position a window is at (49_modifiers R700). -/
def Window.pair (w : Window) : BitVec 2 := w.mask.extractLsb' (2 * w.pos.toNat) 2

/-- The predicate in force lets the instruction execute (49_modifiers R712). -/
def State.predOk (s : State) : Bool :=
  match s.win.pred with
  | none => true
  | some w =>
    match w.pair.toNat with
    | 1 => s.win.predVal
    | 2 => !s.win.predVal
    | _ => true

/-- The effective mask of a mask byte (30_encoding R240). -/
def State.maskValue (s : State) (m : MaskByte) : Word := if m.svm then ~~~s.reg m.vm else s.reg m.vm

/-- A scalar instruction with a mask byte executes when the mask is the value one (30_encoding R240). -/
def State.maskOk (s : State) (m : Option MaskByte) : Bool :=
  match m with
  | none => true
  | some b => s.maskValue b == 1

/-- The mask of a vector instruction: the mask byte's, or r32 (41_vector R380). -/
def State.vecMask (s : State) (m : Option MaskByte) : Word :=
  match m with
  | none => s.reg 32
  | some b => s.maskValue b

/-- The length of an instruction with a 5-byte base word (30_encoding R203). -/
def extLen (x : Ext) : Nat := 5 + x.mask.isSome.toNat + x.tail.len

/-- An instruction of a format with a V bit: it executes under the predicate and, when scalar, the mask. -/
def runExt (x : Ext) (vec : Bool) (body : State → Acc Flow) (s : State) : Host.Outcome State Fault Refusal :=
  if s.predOk && (vec || s.maskOk x.mask) then finish (extLen x) s (body s) else skip (extLen x) s

/-- An instruction of a format without a V bit, with a base word of `base` bytes. -/
def runTail (base : Nat) (t : Tail) (body : State → Acc Flow) (s : State) : Host.Outcome State Fault Refusal :=
  if s.predOk then finish (base + t.len) s (body s) else skip (base + t.len) s

/-- A postfix reached on its own: a NOP of its own length that counts as no instruction (30_encoding R235). -/
def loneNop (len : Nat) (s : State) : Host.Outcome State Fault Refusal :=
  .next { s with pc := s.pc + .ofNat 64 len, retire := .lone }

end Sys2Proof.Machine
end

