-- ==== Sys2Proof/Machine/Operands.lean ====
section
/-! DEFINITION. Operands: widths, constants, the decoration of sources and results, results in registers, and the loop over
the elements of a vector instruction (30_encoding R214 to R217, R231, R232; 40_integer R300; 41_vector R380, R383). -/

namespace Sys2Proof

/-- The operand width of a size code in bits (30_encoding R214). -/
def Size.bits : Size → Nat
  | .b => 8 | .w => 16 | .t => 32 | .o => 64 | .h => 128

/-- The operand width in bytes. -/
def Size.bytes : Size → Nat
  | .b => 1 | .w => 2 | .t => 4 | .o => 8 | .h => 16

/-- The storage width of a precision in bytes (42_float R401). -/
def Prec.bytes : Prec → Nat
  | .h => 2 | .s => 4 | .d => 8 | .q => 16

/-- The significant width of the constant of a postfix run, 0 without one (30_encoding R231). -/
def Tail.width (t : Tail) : Nat :=
  if t.w2.isSome then 128 else if t.w1.isSome then 64 else if t.w0.isSome then 32 else 0

/-- The constant buffer (30_encoding R231). -/
def Tail.raw (t : Tail) : BitVec 128 :=
  let h : BitVec 32 × BitVec 32 := t.w2.getD (0, 0)
  h.2 ++ (h.1 ++ (t.w1.getD 0 ++ t.w0.getD 0))

/-- The integer constant of a postfix run, sign-extended from its significant width (30_encoding R231). -/
def Tail.const (t : Tail) : Option (BitVec 128) :=
  if t.hasConst then some ((t.raw.setWidth t.width).signExtend 128) else none

namespace Machine

/-- What an S bit does to a value (30_encoding R216, R217; 42_float R406): negation, one's complement, the sign bit
flipped, a Boolean flipped, nothing. -/
inductive Deco where
  | neg | compl | sign | flip | plain
deriving DecidableEq, Repr

/-- A value under an S bit. -/
def decorate {w : Nat} (d : Deco) (on : Bool) (v : BitVec w) : BitVec w :=
  if on then
    match d with
    | .neg => -v
    | .compl => ~~~v
    | .sign => v ^^^ BitVec.twoPow w (w - 1)
    | .flip => v ^^^ 1#w
    | .plain => v
  else v

/-- How a result of width w fills a register (40_integer R300). -/
inductive Fill where
  | sign | zero
deriving DecidableEq, Repr

/-- The register value of a result. -/
def Fill.word {w : Nat} (f : Fill) (v : BitVec w) : Word :=
  match f with
  | .sign => v.signExtend 128
  | .zero => v.setWidth 128

/-- A result under St, filled to a register value. -/
def result {w : Nat} (d : Deco) (st : Bool) (f : Fill) (r : BitVec w) : Word := f.word (decorate d st r)

/-- A source operand: a general register, a vector register, a constant. -/
inductive Src where
  | reg (r : Reg)
  | vec (r : Reg)
  | imm (v : Word)
deriving DecidableEq, Repr

/-- The value of a source for element k, at width w, under its S bit; a constant is not decorated (30_encoding R216, R232).
Where the S bit negates, r0 under it reads as all ones (10_state R21; log 23); where it flips the sign of a floating-point
number, r0 is minus zero (42_float R406). -/
def Src.value (d : Deco) (on : Bool) (s : State) (w k : Nat) : Src → BitVec w
  | .reg r => if on ∧ d = .neg ∧ r = 0 then BitVec.allOnes w else decorate d on ((s.reg r).setWidth w)
  | .vec r => decorate d on (s.elem w r k)
  | .imm v => v.setWidth w

/-- A register field that names a vector register when `v`. -/
def srcOf (v : Bool) (r : Reg) : Src := if v then .vec r else .reg r

/-- The second source of a register format: a constant of the postfixes replaces Rb (30_encoding R232). -/
def srcB (v : Bool) (r : Reg) (t : Tail) : Src :=
  match t.const with
  | some c => .imm c
  | none => srcOf v r

/-- The constant of an immediate format: a constant of the postfixes replaces the field (30_encoding R222, R231). -/
def immOr (field : Word) (t : Tail) : Word := t.const.getD field

/-- The elements of a vector instruction from element k on: `f` gives each enabled element's result from the registers the
instruction began with. A trap at element k leaves those below written, sets the restart mask from k up, and bit k of
the error mask (41_vector R380, R383). -/
def elemLoop (w : Nat) (rt : Reg) (m : Word) (f : Nat → State → Acc Word) : Nat → Nat → State → Acc Unit
  | 0, _, s => .ok () s
  | n + 1, k, s =>
    if m.getLsbD k then
      match f k s with
      | .ok r s => elemLoop w rt m f n (k + 1) (s.setElem rt k (r.setWidth w))
      | .trap e s => .trap e { s with vrm := BitVec.allOnes 128 <<< k, verr := s.verr ||| (1#128 <<< k) }
      | .refuse r => .refuse r
    else elemLoop w rt m f n (k + 1) s

/-- An instruction that writes a result: to a register, or element by element (41_vector R380, R383). -/
def alu (w : Nat) (vec : Bool) (rt : Reg) (m : Option MaskByte) (f : Nat → State → Acc Word) (s : State) : Acc Flow :=
  if vec then
    (elemLoop w rt (s.vecMask m) f (s.elems w) 0 s).bind fun _ s => .ok .seq { s with vrm := BitVec.allOnes 128 }
  else (f 0 s).bind fun r s => .ok .seq (s.setReg rt r)

/-- (Vc, Vb) select vector registers at all. -/
def vbitsVec (v : VBits) : Bool := v != .scalar

end Machine

/-- The sources of an R2 instruction for element k. -/
def R2.a (o : R2) (d : Machine.Deco) (s : Machine.State) (k : Nat) : BitVec o.size.bits :=
  (Machine.srcOf (Machine.vbitsVec o.vec) o.ra).value d o.sa s o.size.bits k
def R2.b (o : R2) (d : Machine.Deco) (t : Tail) (s : Machine.State) (k : Nat) : BitVec o.size.bits :=
  (Machine.srcB (o.vec == .vv) o.rb t).value d o.sb s o.size.bits k
/-- The value of the target of an R2 instruction that also reads it (45_shift R506). -/
def R2.old (o : R2) (s : Machine.State) (k : Nat) : BitVec o.size.bits :=
  (Machine.srcOf (Machine.vbitsVec o.vec) o.rt).value .plain false s o.size.bits k
/-- The sources of an RI instruction for element k. -/
def RI.a (o : RI) (d : Machine.Deco) (s : Machine.State) (k : Nat) : BitVec o.size.bits :=
  (Machine.srcOf o.vec o.ra).value d o.sa s o.size.bits k
def RI.b (o : RI) (t : Tail) : BitVec o.size.bits := (Machine.immOr (o.imm.signExtend 128) t).setWidth o.size.bits

namespace Machine

/-- An R2 instruction whose result is a function of its sources, which may draw, trap or change hidden state. -/
def r2M (d : Deco) (g : (w : Nat) → BitVec w → BitVec w → State → Acc Word) (o : R2) (x : Ext) (s : State) :
    Host.Outcome State Fault Refusal :=
  runExt x (vbitsVec o.vec)
    (fun s => alu o.size.bits (vbitsVec o.vec) o.rt x.mask (fun k => g o.size.bits (o.a d s k) (o.b d x.tail s k)) s) s

/-- An R2 instruction whose result is a function of its sources. -/
def r2 (d dt : Deco) (fill : Fill) (f : (w : Nat) → BitVec w → BitVec w → BitVec w) (o : R2) (x : Ext) (s : State) :
    Host.Outcome State Fault Refusal :=
  r2M d (fun w a b s => .ok (result dt o.st fill (f w a b)) s) o x s

/-- An R2 instruction whose sources its S bit swaps (30_encoding R218). -/
def r2Swap (d dt : Deco) (fill : Fill) (f : (w : Nat) → BitVec w → BitVec w → BitVec w) (o : R2) (x : Ext) (s : State) :
    Host.Outcome State Fault Refusal :=
  r2 d dt fill (fun w a b => if o.sw then f w b a else f w a b) o x s

/-- An RI instruction whose result is a function of its sources, which may draw, trap or change hidden state. -/
def riM (d : Deco) (g : (w : Nat) → BitVec w → BitVec w → State → Acc Word) (o : RI) (x : Ext) (s : State) :
    Host.Outcome State Fault Refusal :=
  runExt x o.vec (fun s => alu o.size.bits o.vec o.rt x.mask (fun k => g o.size.bits (o.a d s k) (o.b x.tail)) s) s

/-- An RI instruction whose result is a function of its sources. -/
def ri (d dt : Deco) (fill : Fill) (f : (w : Nat) → BitVec w → BitVec w → BitVec w) (o : RI) (x : Ext) (s : State) :
    Host.Outcome State Fault Refusal :=
  riM d (fun w a b s => .ok (result dt o.st fill (f w a b)) s) o x s

/-- An R1 instruction whose result is a function of its source. -/
def r1 (d dt : Deco) (fill : Fill) (f : (w : Nat) → BitVec w → BitVec w) (o : R1) (x : Ext) (s : State) :
    Host.Outcome State Fault Refusal :=
  runExt x (vbitsVec o.vec)
    (fun s => alu o.size.bits (vbitsVec o.vec) o.rt x.mask
      (fun k s' => .ok (result dt o.st fill
        (f o.size.bits ((srcOf (vbitsVec o.vec) o.ra).value d o.sa s o.size.bits k))) s') s) s

end Machine
end Sys2Proof
end

