-- ==== Sys2Proof/Machine/Float.lean ====
section
/-! DEFINITION. Binary floating point (42_float R401 to R405; IEEE 754 arithmetic, log 47): values taken apart exactly, exact
results over the integers, and one correct rounding into a format. -/

namespace Sys2Proof.Machine

/-- A binary format: the widths of exponent and significand fields (42_float R402). -/
structure Fmt where
  e : Nat
  m : Nat
deriving DecidableEq, Repr

def Fmt.half : Fmt := ⟨5, 10⟩
def Fmt.single : Fmt := ⟨8, 23⟩
def Fmt.double : Fmt := ⟨11, 52⟩
def Fmt.quad : Fmt := ⟨15, 112⟩

/-- The format of a precision. -/
def precFmt : Prec → Fmt
  | .h => .half | .s => .single | .d => .double | .q => .quad

/-- The exponent bias. -/
def Fmt.bias (f : Fmt) : Int := 2 ^ (f.e - 1) - 1
/-- The exponent of the last place of the subnormal numbers. -/
def Fmt.minExp (f : Fmt) : Int := 1 - f.bias - f.m
/-- The bits of plus infinity. -/
def Fmt.infBits (f : Fmt) : Nat := (2 ^ f.e - 1) * 2 ^ f.m
/-- The sign bit. -/
def Fmt.signBit (f : Fmt) : Nat := 2 ^ (f.e + f.m)

/-- A value: a NaN, an infinity, or plus or minus `sig` times two to the `exp`. -/
inductive FVal where
  | nan
  | inf (neg : Bool)
  | fin (neg : Bool) (sig : Nat) (exp : Int)
deriving DecidableEq, Repr

/-- The value of the bits of a format. -/
def Fmt.value (f : Fmt) (v : Nat) : FVal :=
  let neg := decide (v / f.signBit % 2 = 1)
  let ex := v / 2 ^ f.m % 2 ^ f.e
  let sig := v % 2 ^ f.m
  if ex = 2 ^ f.e - 1 then if sig = 0 then .inf neg else .nan
  else if ex = 0 then .fin neg sig f.minExp
  else .fin neg (2 ^ f.m + sig) (ex - f.bias - f.m)

/-- The bits with a sign. -/
def Fmt.withSign (f : Fmt) (neg : Bool) (v : Nat) : Nat := if neg then f.signBit + v else v

/-- The floor of the binary logarithm of `num` over `den`, both positive. -/
def logFloor (num den : Nat) : Int :=
  let k : Int := (num.log2 : Int) - den.log2
  if den * 2 ^ k.toNat ≤ num * 2 ^ (-k).toNat then k else k - 1

/-- Whether the magnitude `q` and `r` over `den` rounds up to `q + 1` (42_float R403). -/
def roundsUp (rm : RoundMode) (neg : Bool) (q r den : Nat) : Bool :=
  match rm with
  | .nearestEven => den < 2 * r || (2 * r == den && q % 2 == 1)
  | .towardZero => false
  | .up => !neg && r != 0
  | .down => neg && r != 0
  | .nearestAway => den ≤ 2 * r

/-- What a magnitude too large for the format rounds to. -/
def Fmt.overflow (f : Fmt) (rm : RoundMode) (neg : Bool) : Nat :=
  match rm with
  | .nearestEven | .nearestAway => f.infBits
  | .towardZero => f.infBits - 1
  | .up => if neg then f.infBits - 1 else f.infBits
  | .down => if neg then f.infBits else f.infBits - 1

/-- The bits of plus or minus `num / den` times two to the `exp`, correctly rounded. -/
def Fmt.round (f : Fmt) (rm : RoundMode) (neg : Bool) (num den : Nat) (exp : Int) : Nat :=
  if num = 0 then f.withSign neg 0
  else
    let unit : Int := max (logFloor num den + exp - f.m) f.minExp
    let n := num * 2 ^ (exp - unit).toNat
    let d := den * 2 ^ (unit - exp).toNat
    let q := n / d
    let q := if roundsUp rm neg q (n % d) d then q + 1 else q
    let mag := if q < 2 ^ f.m then q else (unit + f.bias + f.m).toNat * 2 ^ f.m + (q - 2 ^ f.m)
    f.withSign neg (if f.infBits ≤ mag then f.overflow rm neg else mag)

/-- A quiet NaN with the sign and payload of a draw (42_float R404; log 8). -/
def Fmt.quietNan (f : Fmt) (bits : Nat) : Nat :=
  f.withSign (decide (bits / f.signBit % 2 = 1)) (f.infBits + 2 ^ (f.m - 1) + bits % 2 ^ (f.m - 1))

/-- A result: the bits of a format, or a NaN, whose bits are drawn. -/
def nanOr (f : Fmt) (r : Option Nat) (s : State) : Acc Nat :=
  match r with
  | some v => .ok v s
  | none => draw (fun n => f.quietNan (Config.nanBits n).toNat) s

/-- The sign of an exact zero sum (IEEE 754). -/
def zeroSign (rm : RoundMode) (na nb : Bool) : Bool := if na == nb then na else rm == .down

/-- Addition of quad values; none where the result is a NaN (42_float R404, R411). -/
def fAdd (rm : RoundMode) (a b : FVal) : Option Nat :=
  match a, b with
  | .nan, _ => none
  | _, .nan => none
  | .inf na, .inf nb => if na == nb then some (Fmt.quad.withSign na Fmt.quad.infBits) else none
  | .inf na, .fin _ _ _ => some (Fmt.quad.withSign na Fmt.quad.infBits)
  | .fin _ _ _, .inf nb => some (Fmt.quad.withSign nb Fmt.quad.infBits)
  | .fin na sa ea, .fin nb sb eb =>
    let e := min ea eb
    let x : Int := (if na then -1 else 1) * (sa * 2 ^ (ea - e).toNat : Nat)
    let y : Int := (if nb then -1 else 1) * (sb * 2 ^ (eb - e).toNat : Nat)
    let z := x + y
    if z = 0 then some (Fmt.quad.withSign (zeroSign rm na nb) 0)
    else some (Fmt.quad.round rm (decide (z < 0)) z.natAbs 1 e)

/-- Multiplication of quad values (42_float R404, R424). -/
def fMul (rm : RoundMode) (a b : FVal) : Option Nat :=
  match a, b with
  | .nan, _ => none
  | _, .nan => none
  | .inf na, .inf nb => some (Fmt.quad.withSign (na != nb) Fmt.quad.infBits)
  | .inf na, .fin nb sb _ => if sb = 0 then none else some (Fmt.quad.withSign (na != nb) Fmt.quad.infBits)
  | .fin na sa _, .inf nb => if sa = 0 then none else some (Fmt.quad.withSign (na != nb) Fmt.quad.infBits)
  | .fin na sa ea, .fin nb sb eb => some (Fmt.quad.round rm (na != nb) (sa * sb) 1 (ea + eb))

/-- Division of quad values (42_float R404, R415). -/
def fDiv (rm : RoundMode) (a b : FVal) : Option Nat :=
  match a, b with
  | .nan, _ => none
  | _, .nan => none
  | .inf _, .inf _ => none
  | .inf na, .fin nb _ _ => some (Fmt.quad.withSign (na != nb) Fmt.quad.infBits)
  | .fin na _ _, .inf nb => some (Fmt.quad.withSign (na != nb) 0)
  | .fin na sa ea, .fin nb sb eb =>
    if sb = 0 then (if sa = 0 then none else some (Fmt.quad.withSign (na != nb) Fmt.quad.infBits))
    else some (Fmt.quad.round rm (na != nb) sa sb (ea - eb))

/-- IEEE arithmetic of two quad values (42_float R404). -/
def ieee (op : FpOp) (rm : RoundMode) (a b : FVal) : Option Nat :=
  match op with
  | .add => fAdd rm a b
  | .mul => fMul rm a b
  | .div => fDiv rm a b

/-- A value in a format, correctly rounded; none for a NaN (42_float R405; 47_memory_ops R596, R606). -/
def Fmt.convert (f : Fmt) (rm : RoundMode) (a : FVal) : Option Nat :=
  match a with
  | .nan => none
  | .inf n => some (f.withSign n f.infBits)
  | .fin n s e => some (f.round rm n s 1 e)

/-- The value of a register read as a quad number (42_float R401). -/
def quadVal (v : Word) : FVal := Fmt.quad.value v.toNat

/-- The bits of a value of a format as a quad number, exact but for the bits of a NaN (42_float R405); a quad number is
itself. -/
def toQuad (p : Prec) (v : Nat) (s : State) : Acc Word :=
  if p = .q then .ok (.ofNat 128 v) s
  else (nanOr .quad (Fmt.quad.convert .nearestEven ((precFmt p).value v)) s).map fun r => .ofNat 128 r

/-- A quad number in a storage format (47_memory_ops R606). -/
def fromQuad (p : Prec) (rm : RoundMode) (v : Word) (s : State) : Acc Nat :=
  if p = .q then .ok v.toNat s else nanOr (precFmt p) ((precFmt p).convert rm (quadVal v)) s

/-- A floating-point constant: a half precision field, or the single, double or quad value of a postfix run
(30_encoding R233; 42_float R405). -/
def floatConst (field : BitVec 16) (t : Tail) (s : State) : Acc Word :=
  if t.width = 0 then toQuad .h field.toNat s
  else if t.width = 32 then toQuad .s (t.raw.setWidth 32).toNat s
  else if t.width = 64 then toQuad .d (t.raw.setWidth 64).toNat s
  else .ok t.raw s

/-- Two to the n times a quad value; zero, infinities and NaNs unchanged (42_float R427). A result too large is an
infinity in every mode; one too small is rounded, to nearest even or as ROUND says (log 46). An exponent beyond 40000
either way gives what 40000 gives. -/
def scaleB (rm : RoundMode) (a : Word) (n : Int) : Word :=
  match quadVal a with
  | .fin neg sig e =>
    if sig = 0 then a
    else
      let exp := e + max (-40000) (min 40000 n)
      let near := Fmt.quad.round .nearestEven neg sig 1 exp
      .ofNat 128 (if near = Fmt.quad.withSign neg Fmt.quad.infBits then near else Fmt.quad.round rm neg sig 1 exp)
  | _ => a

/-- The fraction dropped (42_float R430). -/
def truncFraction (a : Word) : Word :=
  let ex := (a.extractLsb' 112 15).toNat
  if ex < 16383 then a &&& BitVec.twoPow 128 127
  else if 16383 + 112 ≤ ex then a
  else a &&& ~~~(BitVec.allOnes 128 >>> (16 + (ex - 16383)))

/-- The coding of rounding modes in Rm3 and in ROUND; none for 5, 6 and 7 (42_float R403; 49_modifiers R720). -/
def roundCode (c : BitVec 3) : Option RoundMode :=
  match c.toNat with
  | 0 => some .nearestEven
  | 1 => some .towardZero
  | 2 => some .up
  | 3 => some .down
  | 4 => some .nearestAway
  | _ => none

/-- The mode of an instruction's own Rm3 field (42_float R403). -/
def RoundMode.ofField (p : Params) : RmField → RoundMode
  | .ne => .nearestEven
  | .tz => .towardZero
  | .up => .up
  | .dn => .down
  | .na => .nearestAway
  | .fcr => p.fcrRm

/-- The mode in force: ROUND's for this position, or the instruction's own (49_modifiers R720). -/
def State.roundMode (s : State) (own : RoundMode) : RoundMode :=
  match s.win.round with
  | some w => (roundCode (w.mask.extractLsb' (3 * w.pos.toNat) 3)).getD own
  | none => own

end Sys2Proof.Machine
end

