-- ==== Sys2Proof/Machine/Flags.lean ====
section
/-! DEFINITION. The relation vectors of the compare instructions and the conditions of branches (40_integer R312; 42_float
R412; 46_flow_control R533, R540). The machine has no flags register (10_state R27). -/

namespace Sys2Proof.Machine

/-- Bit `b` of `a`, 0 at or beyond the width (40_integer R312). -/
def bitTest {w : Nat} (a b : BitVec w) : Bool := a.getLsbD b.toNat

/-- Bit k when the condition holds. -/
def flagBit (k : Nat) (c : Bool) : BitVec 16 := if c then 1#16 <<< k else 0

/-- The result vector of the signed byte comparison (40_integer R314). -/
def relSigned {w : Nat} (a b : BitVec w) : BitVec 16 :=
  flagBit 0 (a == b) ||| flagBit 1 (a != b) ||| flagBit 2 (a.slt b) ||| flagBit 3 (a.sle b) ||| flagBit 4 (b.sle a) |||
    flagBit 5 (b.slt a)

/-- The CMP result vector (40_integer R312). -/
def relvec {w : Nat} (a b : BitVec w) : BitVec 16 :=
  relSigned a b ||| flagBit 6 (!bitTest a b) ||| flagBit 7 (bitTest a b) ||| flagBit 10 (a.ult b) |||
    flagBit 11 (a.ule b) ||| flagBit 12 (b.ule a) ||| flagBit 13 (b.ult a)

/-- A quad value is a NaN. -/
def isNan (a : Word) : Bool := quadVal a == .nan

/-- The position of a quad value that is no NaN in numeric order; both zeros have the same (42_float R412). -/
def order (a : Word) : Int :=
  let mag : Int := (a.extractLsb' 0 127).toNat
  if a.getLsbD 127 then -mag else mag

/-- The FCMP result vector (42_float R412). -/
def frel (a b : Word) : BitVec 16 :=
  let un := isNan a || isNan b
  let eq := !un && order a == order b
  let lt := !un && decide (order a < order b)
  let gt := !un && decide (order b < order a)
  flagBit 0 eq ||| flagBit 1 (!eq) ||| flagBit 2 gt ||| flagBit 3 (un || gt) ||| flagBit 4 (gt || eq) |||
    flagBit 5 (un || gt || eq) ||| flagBit 6 lt ||| flagBit 7 (un || lt) ||| flagBit 8 (lt || eq) |||
    flagBit 9 (un || lt || eq) ||| flagBit 10 (!un && !eq) ||| flagBit 11 (un || !eq) ||| flagBit 12 (!un) |||
    flagBit 13 un

/-- An integer condition on whole registers (46_flow_control R533). -/
def cond (c : BitVec 4) (a b : Word) : Bool :=
  match c.toNat with
  | 0 => a == b
  | 1 => a != b
  | 2 => a.slt b
  | 3 => a.sle b
  | 4 => b.sle a
  | 5 => b.slt a
  | 6 => !bitTest a b
  | 7 => bitTest a b
  | 8 => !bitTest a b
  | 9 => bitTest a b
  | 10 => a.ult b
  | 11 => a.ule b
  | 12 => b.ule a
  | 13 => b.ult a
  | _ => true

/-- A floating-point condition (46_flow_control R540). -/
def fcond (c : BitVec 4) (a b : Word) : Bool := (frel a b).getLsbD c.toNat

end Sys2Proof.Machine
end

