-- ==== Sys2Proof/Machine/Integer.lean ====
section
/-! DEFINITION. Integer arithmetic: ADD, SUB, MUL, DIV, MOD and their variants with the CARRY modifier, ABS, the counts,
SQRT, CHK (40_integer R305 to R347; 41_vector R385, R386; 49_modifiers R715). -/

namespace Sys2Proof.Machine

/-- The code (in, out) of the CARRY window for this instruction (49_modifiers R714). -/
def State.carryCode (s : State) : Bool × Bool :=
  match s.win.carry with
  | some w => (w.pair.getLsbD 0, w.pair.getLsbD 1)
  | none => (false, false)

/-- Leave a carry, if the code says so. -/
def State.setCarry (out : Bool) (c : Nat) (s : State) : State :=
  if out then { s with win := { s.win with cy := .ofNat 128 c } } else s

/-- ADD and SUB with the carry (49_modifiers R715): the unbounded sum of the operands, SUB adding the one's complement
and, without a carry in, one. -/
def addCarry (sub : Bool) (dt : Bool) (w : Nat) (a b : BitVec w) (s : State) : Acc Word :=
  let c := s.carryCode
  let sum := a.toNat + (if sub then ~~~b else b).toNat + (if c.1 then s.win.cy.toNat else sub.toNat)
  .ok (result .neg dt .sign (BitVec.ofNat w sum)) (s.setCarry c.2 (sum / 2 ^ w))

/-- The low half of a product with the carry: `p` is the exact product (49_modifiers R715). -/
def mulCarry (dt : Bool) (w : Nat) (p : Int) (s : State) : Acc Word :=
  let c := s.carryCode
  let q := ((p + (if c.1 then (s.win.cy.toNat : Int) else 0)) % 2 ^ (2 * w)).toNat
  .ok (result .neg dt .sign (BitVec.ofNat w q)) (s.setCarry c.2 (q / 2 ^ w))

/-- How the operands of a product or a quotient are read. -/
inductive Signs where
  | ss | uu | su
deriving DecidableEq, Repr

/-- The first operand as a number. -/
def Signs.fst {w : Nat} (g : Signs) (a : BitVec w) : Int := if g = .uu then (a.toNat : Int) else a.toInt
/-- The second operand as a number. -/
def Signs.snd {w : Nat} (g : Signs) (b : BitVec w) : Int := if g = .ss then b.toInt else (b.toNat : Int)

/-- Quotient and remainder (40_integer R337): truncated, the remainder with the dividend's sign. Division by zero raises
vector 64 under DIV0_TRAPS, and otherwise gives free values. -/
def divide (g : Signs) (w : Nat) (a b : BitVec w) (s : State) : Acc (BitVec w × BitVec w) :=
  if b = 0 then
    if s.params.div0Traps then .trap ⟨64, none⟩ s
    else draw (fun n => (Config.divZeroQuotient n w, Config.divZeroRemainder n w)) s
  else .ok (BitVec.ofInt w ((g.fst a).tdiv (g.snd b)), BitVec.ofInt w ((g.fst a).tmod (g.snd b))) s

/-- A quotient; the remainder is the carry out of a scalar instruction (49_modifiers R715). -/
def divCarry (carry : Bool) (g : Signs) (dt : Bool) (w : Nat) (a b : BitVec w) (s : State) : Acc Word :=
  (divide g w a b s).bind fun qr s =>
    .ok (result .neg dt .sign qr.1) (s.setCarry (carry && s.carryCode.2) qr.2.toNat)

/-- ADD of any format: with the carry in a scalar instruction, without in a vector one (41_vector R384). -/
def addOp (vec dt : Bool) (w : Nat) (a b : BitVec w) (s : State) : Acc Word :=
  if vec then .ok (result .neg dt .sign (a + b)) s else addCarry false dt w a b s

/-- A product of any format. -/
def mulOp (vec : Bool) (g : Signs) (dt : Bool) (w : Nat) (a b : BitVec w) (s : State) : Acc Word :=
  if vec then .ok (result .neg dt .sign (BitVec.ofInt w (g.fst a * g.snd b))) s
  else mulCarry dt w (g.fst a * g.snd b) s

/-- The remainder (40_integer R338, R339). -/
def modOp (g : Signs) (dt : Bool) (w : Nat) (a b : BitVec w) (s : State) : Acc Word :=
  (divide g w a b s).map fun qr => result .neg dt .sign qr.2

/-- ADD, register form (40_integer R306). -/
def execAdd (o : R2) (x : Ext) (s : State) : Host.Outcome State Fault Refusal :=
  r2M .neg (addOp (vbitsVec o.vec) o.st) { o with sb := false } x s

/-- SUB, which is ADD with Sb = 1: it adds the negated register (40_integer R308), of r0 all ones (10_state R21; log 23). A
scalar SUB under a CARRY window adds the one's complement of the register and one, or the carry (49_modifiers R715). A
constant of the postfixes is added, Sb being ignored (30_encoding R232). -/
def execSub (o : R2) (x : Ext) (s : State) : Host.Outcome State Fault Refusal :=
  if s.win.carry.isSome && !vbitsVec o.vec then r2M .neg (addCarry (!x.tail.hasConst) o.st) { o with sb := false } x s
  else r2 .neg .neg .sign (fun _ a b => a + b) { o with sb := true } x s

/-- VADD, vectors (41_vector R385). -/
def execVaddVV (o : R2) (x : Ext) (s : State) : Host.Outcome State Fault Refusal :=
  r2M .neg (addOp (vbitsVec o.vec) o.st) { o with sb := false } x s

/-- VADD, scalar addend (41_vector R385). -/
def execVaddVS (o : R2) (x : Ext) (s : State) : Host.Outcome State Fault Refusal :=
  r2M .neg (addOp (vbitsVec o.vec) o.st) { o with sb := false } x s

/-- ADD, immediate form (40_integer R307). -/
def execAddi (o : RI) (x : Ext) (s : State) : Host.Outcome State Fault Refusal :=
  riM .neg (addOp o.vec o.st) o x s

/-- VADD, immediate form (41_vector R386). -/
def execVaddImm (o : RI) (x : Ext) (s : State) : Host.Outcome State Fault Refusal :=
  riM .neg (addOp o.vec o.st) o x s

/-- MUL (40_integer R340). -/
def execMul (o : R2) (x : Ext) (s : State) : Host.Outcome State Fault Refusal :=
  r2M .neg (mulOp (vbitsVec o.vec) .ss o.st) o x s

/-- MULU (40_integer R342). -/
def execMulu (o : R2) (x : Ext) (s : State) : Host.Outcome State Fault Refusal :=
  r2M .neg (mulOp (vbitsVec o.vec) .uu o.st) o x s

/-- MULSU (40_integer R343). -/
def execMulsu (o : R2) (x : Ext) (s : State) : Host.Outcome State Fault Refusal :=
  r2M .neg (mulOp (vbitsVec o.vec) .su o.st) o x s

/-- MULI (40_integer R341). -/
def execMuli (o : RI) (x : Ext) (s : State) : Host.Outcome State Fault Refusal :=
  riM .neg (mulOp o.vec .ss o.st) o x s

/-- MULUI (40_integer R342). -/
def execMului (o : RI) (x : Ext) (s : State) : Host.Outcome State Fault Refusal :=
  riM .neg (mulOp o.vec .uu o.st) o x s

/-- MULH (40_integer R344). -/
def execMulh (o : R2) (x : Ext) (s : State) : Host.Outcome State Fault Refusal :=
  r2 .neg .neg .sign (fun w a b => BitVec.ofInt w (a.toInt * b.toInt / 2 ^ w)) o x s

/-- MULUH (40_integer R345). -/
def execMuluh (o : R2) (x : Ext) (s : State) : Host.Outcome State Fault Refusal :=
  r2 .neg .neg .sign (fun w a b => BitVec.ofNat w (a.toNat * b.toNat / 2 ^ w)) o x s

/-- DIV (40_integer R333). -/
def execDiv (o : R2) (x : Ext) (s : State) : Host.Outcome State Fault Refusal :=
  r2M .neg (divCarry (!vbitsVec o.vec) .ss o.st) o x s

/-- DIVU (40_integer R336). -/
def execDivu (o : R2) (x : Ext) (s : State) : Host.Outcome State Fault Refusal :=
  r2M .neg (divCarry (!vbitsVec o.vec) .uu o.st) o x s

/-- DIVSU (40_integer R335). -/
def execDivsu (o : R2) (x : Ext) (s : State) : Host.Outcome State Fault Refusal :=
  r2M .neg (divCarry (!vbitsVec o.vec) .su o.st) o x s

/-- DIVI (40_integer R334): S swaps the operands. -/
def execDivi (o : RI) (x : Ext) (s : State) : Host.Outcome State Fault Refusal :=
  riM .neg (fun w a b s => if o.sw then divCarry (!o.vec) .ss o.st w b a s else divCarry (!o.vec) .ss o.st w a b s) o x s

/-- MOD (40_integer R338). -/
def execMod (o : R2) (x : Ext) (s : State) : Host.Outcome State Fault Refusal := r2M .neg (modOp .ss o.st) o x s

/-- MODU (40_integer R339). -/
def execModu (o : R2) (x : Ext) (s : State) : Host.Outcome State Fault Refusal := r2M .neg (modOp .uu o.st) o x s

/-- ABS (40_integer R305). -/
def execAbs (o : R1) (x : Ext) (s : State) : Host.Outcome State Fault Refusal :=
  r1 .neg .neg .sign (fun _ a => if a.msb then -a else a) o x s

/-- The number of leading zero bits (40_integer R327). -/
def leadingZeros {w : Nat} (a : BitVec w) : Nat := if a = 0 then w else w - 1 - a.toNat.log2

/-- The number of bits set. -/
def popCount {w : Nat} (a : BitVec w) : Nat := (List.range w).countP fun i => a.getLsbD i

/-- The bits in reverse order. -/
def reverseBits {w : Nat} (a : BitVec w) : BitVec w :=
  .ofNat w ((List.range w).foldl (fun r i => 2 * r + (a.getLsbD i).toNat) 0)

/-- The floor of the square root, from bit `k - 1` of the root down. -/
def isqrt (n : Nat) : Nat → Nat → Nat
  | 0, r => r
  | k + 1, r => if (r + 2 ^ k) * (r + 2 ^ k) ≤ n then isqrt n k (r + 2 ^ k) else isqrt n k r

/-- CNTLZ (40_integer R327). -/
def execCntlz (o : R1) (x : Ext) (s : State) : Host.Outcome State Fault Refusal :=
  r1 .compl .compl .zero (fun w a => .ofNat w (leadingZeros a)) { o with sa := false } x s

/-- CNTLO, the leading zeros of the complement (40_integer R328). -/
def execCntlo (o : R1) (x : Ext) (s : State) : Host.Outcome State Fault Refusal :=
  r1 .compl .compl .zero (fun w a => .ofNat w (leadingZeros a)) { o with sa := true } x s

/-- CNTPOP (40_integer R329). -/
def execCntpop (o : R1) (x : Ext) (s : State) : Host.Outcome State Fault Refusal :=
  r1 .compl .compl .zero (fun w a => .ofNat w (popCount a)) o x s

/-- REVBIT (40_integer R346). -/
def execRevbit (o : R1) (x : Ext) (s : State) : Host.Outcome State Fault Refusal :=
  r1 .compl .compl .sign (fun _ a => reverseBits a) o x s

/-- SQRT (40_integer R347). -/
def execSqrt (o : R1) (x : Ext) (s : State) : Host.Outcome State Fault Refusal :=
  r1 .neg .neg .sign (fun w a => .ofNat w (isqrt a.toNat (w / 2) 0)) o x s

/-- The condition a CHK asks for, by Cn3 (40_integer R330). -/
def chkHolds {w : Nat} (cn : BitVec 3) (a b c : BitVec w) : Bool :=
  let inRange :=
    match (cn.extractLsb' 0 2).toNat with
    | 0 => b.sle a && a.slt c
    | 1 => b.sle a && a.sle c
    | 2 => b.slt a && a.slt c
    | _ => b.slt a && a.sle c
  if cn.getLsbD 2 then !inRange else inRange

/-- CHK of one element or register: its exception when the condition fails (40_integer R332). -/
def chkOne (ok : Bool) (s : State) : Acc Unit := if ok then .ok () s else .trap ⟨s.params.chkVector, none⟩ s

/-- CHK over the elements (41_vector R383). -/
def chkLoop (m : Word) (f : Nat → Bool) : Nat → Nat → State → Acc Unit
  | 0, _, s => .ok () s
  | n + 1, k, s =>
    if m.getLsbD k && !f k then
      .trap ⟨s.params.chkVector, none⟩ { s with vrm := BitVec.allOnes 128 <<< k, verr := s.verr ||| (1#128 <<< k) }
    else chkLoop m f n (k + 1) s

/-- CHK, scalar or vector, of a condition per element. -/
def chkAll (w : Nat) (vec : Bool) (m : Option MaskByte) (f : Nat → Bool) (s : State) : Acc Flow :=
  if vec then (chkLoop (s.vecMask m) f (s.elems w) 0 s).bind fun _ s => .ok .seq { s with vrm := BitVec.allOnes 128 }
  else (chkOne (f 0) s).map fun _ => .seq

/-- CHK (40_integer R330); in the vector form with a scalar Rb, Rc is a scalar register too (log 21). -/
def execChk (o : ChkR) (x : Ext) (s : State) : Host.Outcome State Fault Refusal :=
  runExt x (vbitsVec o.vec)
    (fun s => chkAll o.size.bits (vbitsVec o.vec) x.mask
      (fun k => chkHolds o.cn ((srcOf (vbitsVec o.vec) o.ra).value .neg o.sa s o.size.bits k)
        ((srcOf (o.vec == .vv) o.rb).value .neg o.sb s o.size.bits k)
        ((srcOf (o.vec == .vv) o.rc).value .plain false s o.size.bits k)) s) s

/-- CHKI (40_integer R331). -/
def execChki (o : ChkI) (x : Ext) (s : State) : Host.Outcome State Fault Refusal :=
  runExt x (vbitsVec o.vec)
    (fun s => chkAll o.size.bits (vbitsVec o.vec) x.mask
      (fun k => chkHolds o.cn ((srcOf (vbitsVec o.vec) o.ra).value .neg o.sa s o.size.bits k)
        ((srcOf (o.vec == .vv) o.rb).value .neg o.sb s o.size.bits k)
        ((immOr (o.imm.signExtend 128) x.tail).setWidth o.size.bits)) s) s

end Sys2Proof.Machine
end

