-- ==== Sys2Proof/Machine/Logical.lean ====
section
/-! DEFINITION. Bitwise logic, byte maps, carry-less products, comparisons, set instructions and character search
(40_integer R309 to R326, R348 to R358; 41_vector R387; 43_string_block R467). -/

namespace Sys2Proof.Machine

/-- AND, register form (40_integer R309). -/
def execAnd (o : R2) (x : Ext) (s : State) : Host.Outcome State Fault Refusal :=
  r2 .compl .compl .sign (fun _ a b => a &&& b) { o with st := false } x s

/-- AND, immediate form (40_integer R310). -/
def execAndi (o : RI) (x : Ext) (s : State) : Host.Outcome State Fault Refusal :=
  ri .compl .compl .sign (fun _ a b => a &&& b) { o with st := false } x s

/-- NAND, register form (40_integer R316). -/
def execNand (o : R2) (x : Ext) (s : State) : Host.Outcome State Fault Refusal :=
  r2 .compl .compl .sign (fun _ a b => a &&& b) { o with st := true } x s

/-- NAND, immediate form (40_integer R316). -/
def execNandi (o : RI) (x : Ext) (s : State) : Host.Outcome State Fault Refusal :=
  ri .compl .compl .sign (fun _ a b => a &&& b) { o with st := true } x s

/-- OR, register form (40_integer R317). -/
def execOr (o : R2) (x : Ext) (s : State) : Host.Outcome State Fault Refusal :=
  r2 .compl .compl .sign (fun _ a b => a ||| b) { o with st := false } x s

/-- OR, immediate form (40_integer R318). -/
def execOri (o : RI) (x : Ext) (s : State) : Host.Outcome State Fault Refusal :=
  ri .compl .compl .sign (fun _ a b => a ||| b) { o with st := false } x s

/-- NOR, register form (40_integer R319). -/
def execNor (o : R2) (x : Ext) (s : State) : Host.Outcome State Fault Refusal :=
  r2 .compl .compl .sign (fun _ a b => a ||| b) { o with st := true } x s

/-- NOR, immediate form (40_integer R319). -/
def execNori (o : RI) (x : Ext) (s : State) : Host.Outcome State Fault Refusal :=
  ri .compl .compl .sign (fun _ a b => a ||| b) { o with st := true } x s

/-- EOR, register form (40_integer R320). -/
def execEor (o : R2) (x : Ext) (s : State) : Host.Outcome State Fault Refusal :=
  r2 .compl .compl .sign (fun _ a b => a ^^^ b) { o with st := false } x s

/-- EOR, immediate form (40_integer R321). -/
def execEori (o : RI) (x : Ext) (s : State) : Host.Outcome State Fault Refusal :=
  ri .compl .compl .sign (fun _ a b => a ^^^ b) { o with st := false } x s

/-- ENOR, register form (40_integer R322). -/
def execEnor (o : R2) (x : Ext) (s : State) : Host.Outcome State Fault Refusal :=
  r2 .compl .compl .sign (fun _ a b => a ^^^ b) { o with st := true } x s

/-- ENOR, immediate form (40_integer R322). -/
def execEnori (o : RI) (x : Ext) (s : State) : Host.Outcome State Fault Refusal :=
  ri .compl .compl .sign (fun _ a b => a ^^^ b) { o with st := true } x s

/-- VAND of vectors (41_vector R387). -/
def execVandVV (o : R2) (x : Ext) (s : State) : Host.Outcome State Fault Refusal :=
  r2 .compl .compl .sign (fun _ a b => a &&& b) { o with st := false } x s

/-- VAND with a scalar operand (41_vector R387). -/
def execVandVS (o : R2) (x : Ext) (s : State) : Host.Outcome State Fault Refusal :=
  r2 .compl .compl .sign (fun _ a b => a &&& b) { o with st := false } x s

/-- VAND, immediate form (41_vector R387). -/
def execVandImm (o : RI) (x : Ext) (s : State) : Host.Outcome State Fault Refusal :=
  ri .compl .compl .sign (fun _ a b => a &&& b) { o with st := false } x s

/-- The spec's BMAP_FN: byte i of the source goes to the byte that field i of the map names, later ones winning (40_integer
R323). -/
def scatter (a : BitVec 128) (map : BitVec 64) : BitVec 128 :=
  (List.range 16).foldl (fun r i => putByte r (map.extractLsb' (4 * i) 4).toNat (a.extractLsb' (8 * i) 8)) 0

/-- BMAP_FN (40_integer R323; log 48). -/
def bmapFn (p : Params) (a : BitVec 128) (map : BitVec 64) : BitVec 128 :=
  match p.bmap with
  | .scatter => scatter a map
  | .other => Config.bmapResult a map

/-- BMAP, register form, on whole registers: the size is not used (40_integer R323; log 48). -/
def execBmap (o : R2) (x : Ext) (s : State) : Host.Outcome State Fault Refusal :=
  r2 .compl .compl .sign (fun w a b => (bmapFn s.params (a.setWidth 128) (b.setWidth 64)).setWidth w) { o with size := .h } x s

/-- BMAP, immediate form (40_integer R324). -/
def execBmapImm (o : RI) (x : Ext) (s : State) : Host.Outcome State Fault Refusal :=
  ri .compl .compl .sign (fun w a b => (bmapFn s.params (a.setWidth 128) (b.setWidth 64)).setWidth w) { o with size := .h } x s

/-- The operands of an R2 word with an 8-bit immediate, sign-extended (40_integer R326). -/
def immOf (o : R2I) : RI := ⟨o.rt, o.st, o.ra, o.sa, o.imm.signExtend 15, o.vec, false, o.size⟩

/-- The low half of a carry-less product (40_integer R325). -/
def clmulFn (w : Nat) (a b : BitVec w) : BitVec w :=
  (List.range w).foldl (fun r i => if b.getLsbD i then r ^^^ (a <<< i) else r) 0

/-- CLMUL, register form (40_integer R325). -/
def execClmul (o : R2) (x : Ext) (s : State) : Host.Outcome State Fault Refusal :=
  r2 .compl .compl .sign clmulFn o x s

/-- CLMUL, immediate form (40_integer R326). -/
def execClmulImm (o : R2I) (x : Ext) (s : State) : Host.Outcome State Fault Refusal :=
  ri .compl .compl .sign clmulFn (immOf o) x s

/-- The index of the first W-bit character of `a` equal to `c`, -1 without one (43_string_block R467). -/
def charIndex (w n : Nat) (a : Word) (c : BitVec w) : Word :=
  match (List.range n).find? fun i => a.extractLsb' (w * i) w == c with
  | some i => .ofNat 128 i
  | none => BitVec.allOnes 128

/-- CHRNDX of a scalar over the whole of Ra, of a vector element over that one character (43_string_block R467; log 21). -/
def chrndxOp (size : Size) (vec : Bool) (rt : Reg) (st : Bool) (ra : Reg) (sa : Bool) (b : State → Nat → BitVec size.bits)
    (x : Ext) (s : State) : Host.Outcome State Fault Refusal :=
  runExt x vec
    (fun s => alu size.bits vec rt x.mask
      (fun k s' => .ok (decorate .compl st
        (if vec then charIndex size.bits 1 (((srcOf true ra).value .compl sa s size.bits k).setWidth 128) (b s k)
         else charIndex size.bits (128 / size.bits) ((srcOf false ra).value .compl sa s 128 k) (b s k))) s') s) s

/-- CHRNDX, register form (43_string_block R467). -/
def execChrndx (o : R2) (x : Ext) (s : State) : Host.Outcome State Fault Refusal :=
  chrndxOp o.size (vbitsVec o.vec) o.rt o.st o.ra o.sa (o.b .compl x.tail) x s

/-- CHRNDX, immediate form (43_string_block R467). -/
def execChrndxImm (o : R2I) (x : Ext) (s : State) : Host.Outcome State Fault Refusal :=
  chrndxOp o.size o.vec o.rt o.st o.ra o.sa
    (fun _ _ => (immOr (o.imm.signExtend 128) x.tail).setWidth o.size.bits) x s

/-- CMP, register form; St is ignored (40_integer R311). -/
def execCmp (o : R2) (x : Ext) (s : State) : Host.Outcome State Fault Refusal :=
  r2M .neg (fun _ a b s => .ok ((if o.sw then relvec b a else relvec a b).setWidth 128) s) o x s

/-- CMPS.B: the signed relations of the low bytes (40_integer R314). -/
def execCmpsB (o : R2) (x : Ext) (s : State) : Host.Outcome State Fault Refusal :=
  r2M .neg (fun _ a b s => .ok ((relSigned a b).setWidth 128) s) { o with size := .b } x s

/-- CMP, immediate form (40_integer R313). -/
def execCmpi (o : RI) (x : Ext) (s : State) : Host.Outcome State Fault Refusal :=
  riM .neg (fun _ a b s => .ok ((if o.sw then relvec b a else relvec a b).setWidth 128) s) o x s

/-- A Boolean as a value. -/
def boolVal (w : Nat) (c : Bool) : BitVec w := if c then 1#w else 0#w

/-- SEQ (40_integer R348). -/
def execSeq (o : R2) (x : Ext) (s : State) : Host.Outcome State Fault Refusal :=
  r2 .neg .flip .zero (fun w a b => boolVal w (a == b)) { o with st := false } x s

/-- SNE, SEQ with the Boolean inverted (40_integer R349). -/
def execSne (o : R2) (x : Ext) (s : State) : Host.Outcome State Fault Refusal :=
  r2 .neg .flip .zero (fun w a b => boolVal w (a == b)) { o with st := true } x s

/-- SLT (40_integer R350). -/
def execSlt (o : R2) (x : Ext) (s : State) : Host.Outcome State Fault Refusal :=
  r2Swap .neg .flip .zero (fun w a b => boolVal w (a.slt b)) { o with st := false } x s

/-- SGE, SLT with the Boolean inverted (40_integer R351). -/
def execSge (o : R2) (x : Ext) (s : State) : Host.Outcome State Fault Refusal :=
  r2Swap .neg .flip .zero (fun w a b => boolVal w (a.slt b)) { o with st := true } x s

/-- SLE (40_integer R352). -/
def execSle (o : R2) (x : Ext) (s : State) : Host.Outcome State Fault Refusal :=
  r2Swap .neg .flip .zero (fun w a b => boolVal w (a.sle b)) { o with st := false } x s

/-- SGT, SLE with the Boolean inverted (40_integer R353). -/
def execSgt (o : R2) (x : Ext) (s : State) : Host.Outcome State Fault Refusal :=
  r2Swap .neg .flip .zero (fun w a b => boolVal w (a.sle b)) { o with st := true } x s

/-- SLTU (40_integer R354). -/
def execSltu (o : R2) (x : Ext) (s : State) : Host.Outcome State Fault Refusal :=
  r2Swap .neg .flip .zero (fun w a b => boolVal w (a.ult b)) { o with st := false } x s

/-- SGEU, SLTU with the Boolean inverted (40_integer R355). -/
def execSgeu (o : R2) (x : Ext) (s : State) : Host.Outcome State Fault Refusal :=
  r2Swap .neg .flip .zero (fun w a b => boolVal w (a.ult b)) { o with st := true } x s

/-- SLEU (40_integer R356). -/
def execSleu (o : R2) (x : Ext) (s : State) : Host.Outcome State Fault Refusal :=
  r2Swap .neg .flip .zero (fun w a b => boolVal w (a.ule b)) { o with st := false } x s

/-- SGTU, SLEU with the Boolean inverted (40_integer R357). -/
def execSgtu (o : R2) (x : Ext) (s : State) : Host.Outcome State Fault Refusal :=
  r2Swap .neg .flip .zero (fun w a b => boolVal w (a.ule b)) { o with st := true } x s

end Sys2Proof.Machine
end

