-- ==== Sys2Proof/Machine/Shift.lean ====
section
/-! DEFINITION. Shifts and rotates (45_shift R500 to R511) and bit fields (44_bitfield R480 to R488). -/

namespace Sys2Proof.Machine

/-- A shift by an amount in a register or a constant: `f` of the operand, the amount and the old target (45_shift R500,
R501). -/
def shiftR (f : (w : Nat) → BitVec w → Nat → BitVec w → BitVec w) (o : R2) (x : Ext) (s : State) :
    Host.Outcome State Fault Refusal :=
  runExt x (vbitsVec o.vec)
    (fun s => alu o.size.bits (vbitsVec o.vec) o.rt x.mask
      (fun k s' => .ok (result .compl o.st .sign
        (f o.size.bits (o.a .compl s k) ((o.b .compl x.tail s k).toNat % 128) (o.old s k))) s') s) s

/-- A shift by an immediate amount, or by the low seven bits of a constant of the postfixes, as the model's choice (45_shift
R500, R501; 30_encoding R231; log 23). -/
def shiftI (f : (w : Nat) → BitVec w → Nat → BitVec w → BitVec w) (o : ShI) (x : Ext) (s : State) :
    Host.Outcome State Fault Refusal :=
  runExt x o.vec
    (fun s => alu o.size.bits o.vec o.rt x.mask
      (fun k s' => .ok (result .compl o.st .sign
        (f o.size.bits ((srcOf o.vec o.ra).value .compl o.sa s o.size.bits k)
          ((immOr (o.imm.setWidth 128) x.tail).toNat % 128)
          ((srcOf o.vec o.rt).value .plain false s o.size.bits k))) s') s) s

/-- Rotate left, the amount modulo the width (45_shift R510). -/
def rotl (w : Nat) (a : BitVec w) (n : Nat) : BitVec w := (a <<< (n % w)) ||| (a >>> (w - n % w))
/-- Rotate right, the amount modulo the width (45_shift R511). -/
def rotr (w : Nat) (a : BitVec w) (n : Nat) : BitVec w := (a >>> (n % w)) ||| (a <<< (w - n % w))

/-- ASL, amount in a register (45_shift R503). -/
def execAsl (o : R2) (x : Ext) (s : State) : Host.Outcome State Fault Refusal :=
  shiftR (fun _ a n _ => a <<< n) o x s

/-- ASL, immediate amount (45_shift R503). -/
def execAslImm (o : ShI) (x : Ext) (s : State) : Host.Outcome State Fault Refusal :=
  shiftI (fun _ a n _ => a <<< n) o x s

/-- ASR, amount in a register (45_shift R504). -/
def execAsr (o : R2) (x : Ext) (s : State) : Host.Outcome State Fault Refusal :=
  shiftR (fun _ a n _ => a.sshiftRight n) o x s

/-- ASR, immediate amount (45_shift R504). -/
def execAsrImm (o : ShI) (x : Ext) (s : State) : Host.Outcome State Fault Refusal :=
  shiftI (fun _ a n _ => a.sshiftRight n) o x s

/-- LSL, amount in a register (45_shift R505). -/
def execLsl (o : R2) (x : Ext) (s : State) : Host.Outcome State Fault Refusal :=
  shiftR (fun _ a n _ => a <<< n) o x s

/-- LSL, immediate amount (45_shift R505). -/
def execLslImm (o : ShI) (x : Ext) (s : State) : Host.Outcome State Fault Refusal :=
  shiftI (fun _ a n _ => a <<< n) o x s

/-- LSLAND, amount in a register (45_shift R506). -/
def execLsland (o : R2) (x : Ext) (s : State) : Host.Outcome State Fault Refusal :=
  shiftR (fun _ a n old => old &&& (a <<< n)) o x s

/-- LSLAND, immediate amount (45_shift R506). -/
def execLslandImm (o : ShI) (x : Ext) (s : State) : Host.Outcome State Fault Refusal :=
  shiftI (fun _ a n old => old &&& (a <<< n)) o x s

/-- LSLOR, amount in a register (45_shift R507). -/
def execLslor (o : R2) (x : Ext) (s : State) : Host.Outcome State Fault Refusal :=
  shiftR (fun _ a n old => old ||| (a <<< n)) o x s

/-- LSLOR, immediate amount (45_shift R507). -/
def execLslorImm (o : ShI) (x : Ext) (s : State) : Host.Outcome State Fault Refusal :=
  shiftI (fun _ a n old => old ||| (a <<< n)) o x s

/-- LSLXOR, amount in a register (45_shift R508). -/
def execLslxor (o : R2) (x : Ext) (s : State) : Host.Outcome State Fault Refusal :=
  shiftR (fun _ a n old => old ^^^ (a <<< n)) o x s

/-- LSLXOR, immediate amount (45_shift R508). -/
def execLslxorImm (o : ShI) (x : Ext) (s : State) : Host.Outcome State Fault Refusal :=
  shiftI (fun _ a n old => old ^^^ (a <<< n)) o x s

/-- LSR, amount in a register (45_shift R509). -/
def execLsr (o : R2) (x : Ext) (s : State) : Host.Outcome State Fault Refusal :=
  shiftR (fun _ a n _ => a >>> n) o x s

/-- LSR, immediate amount (45_shift R509). -/
def execLsrImm (o : ShI) (x : Ext) (s : State) : Host.Outcome State Fault Refusal :=
  shiftI (fun _ a n _ => a >>> n) o x s

/-- ROL, amount in a register (45_shift R510). -/
def execRol (o : R2) (x : Ext) (s : State) : Host.Outcome State Fault Refusal :=
  shiftR (fun w a n _ => rotl w a n) o x s

/-- ROL, immediate amount (45_shift R510). -/
def execRolImm (o : ShI) (x : Ext) (s : State) : Host.Outcome State Fault Refusal :=
  shiftI (fun w a n _ => rotl w a n) o x s

/-- ROR, amount in a register (45_shift R511). -/
def execRor (o : R2) (x : Ext) (s : State) : Host.Outcome State Fault Refusal :=
  shiftR (fun w a n _ => rotr w a n) o x s

/-- ROR, immediate amount (45_shift R511). -/
def execRorImm (o : ShI) (x : Ext) (s : State) : Host.Outcome State Fault Refusal :=
  shiftI (fun w a n _ => rotr w a n) o x s

/-- The bits `last` down to `first`, none when `last` is below `first` (44_bitfield R481). -/
def fieldMask (first last : Nat) : Word :=
  if last < first then 0 else (BitVec.allOnes 128 >>> (127 - (last - first))) <<< first

/-- A bit-field instruction with its bounds in registers: `f` of the operand, the bounds and the old target (44_bitfield
R480, R481). Rc is a vector register where Rb is one, and a general register else (log 21). -/
def bitsR (f : Word → Nat → Nat → Word → Word) (o : BitR) (x : Ext) (s : State) : Host.Outcome State Fault Refusal :=
  runExt x (vbitsVec o.vec)
    (fun s => alu 128 (vbitsVec o.vec) o.rt x.mask
      (fun k s' => .ok (decorate .compl o.st
        (f ((srcOf (vbitsVec o.vec) o.ra).value .compl o.sa s 128 k)
          (((srcOf (o.vec == .vv) o.rb).value .compl o.sb s 128 k).toNat % 128)
          (((srcOf (o.vec == .vv) o.rc).value .plain false s 128 k).toNat % 128)
          ((srcOf (vbitsVec o.vec) o.rt).value .plain false s 128 k))) s') s) s

/-- A bit-field instruction with immediate bounds (44_bitfield R480, R481). -/
def bitsI (f : Word → Nat → Nat → Word → Word) (o : BitI) (x : Ext) (s : State) : Host.Outcome State Fault Refusal :=
  runExt x o.vec
    (fun s => alu 128 o.vec o.rt x.mask
      (fun k s' => .ok (decorate .compl o.st
        (f ((srcOf o.vec o.ra).value .compl o.sa s 128 k) o.first.toNat o.last.toNat
          ((srcOf o.vec o.rt).value .plain false s 128 k))) s') s) s

/-- The field moved down to bit 0 (44_bitfield R486). -/
def fieldOf (a : Word) (first last : Nat) : Word := (a &&& fieldMask first last) >>> first

/-- The field, sign-extended from its last bit (44_bitfield R487). -/
def fieldSigned (a : Word) (first last : Nat) : Word :=
  if last < first then 0
  else if a.getLsbD last then fieldOf a first last ||| ~~~(fieldMask 0 (last - first)) else fieldOf a first last

/-- CLR, bounds in registers (44_bitfield R482). -/
def execClr (o : BitR) (x : Ext) (s : State) : Host.Outcome State Fault Refusal :=
  bitsR (fun a b e _ => a &&& ~~~fieldMask b e) o x s

/-- CLR, immediate bounds (44_bitfield R482). -/
def execClrImm (o : BitI) (x : Ext) (s : State) : Host.Outcome State Fault Refusal :=
  bitsI (fun a b e _ => a &&& ~~~fieldMask b e) o x s

/-- SET, bounds in registers (44_bitfield R483). -/
def execSet (o : BitR) (x : Ext) (s : State) : Host.Outcome State Fault Refusal :=
  bitsR (fun a b e _ => a ||| fieldMask b e) o x s

/-- SET, immediate bounds (44_bitfield R483). -/
def execSetImm (o : BitI) (x : Ext) (s : State) : Host.Outcome State Fault Refusal :=
  bitsI (fun a b e _ => a ||| fieldMask b e) o x s

/-- COM, bounds in registers (44_bitfield R484). -/
def execCom (o : BitR) (x : Ext) (s : State) : Host.Outcome State Fault Refusal :=
  bitsR (fun a b e _ => a ^^^ fieldMask b e) o x s

/-- COM, immediate bounds (44_bitfield R484). -/
def execComImm (o : BitI) (x : Ext) (s : State) : Host.Outcome State Fault Refusal :=
  bitsI (fun a b e _ => a ^^^ fieldMask b e) o x s

/-- SBX, bounds in registers (44_bitfield R485). -/
def execSbx (o : BitR) (x : Ext) (s : State) : Host.Outcome State Fault Refusal :=
  bitsR (fun a b e _ => if a.getLsbD b then a ||| fieldMask b e else a &&& ~~~fieldMask b e) o x s

/-- SBX, immediate bounds (44_bitfield R485). -/
def execSbxImm (o : BitI) (x : Ext) (s : State) : Host.Outcome State Fault Refusal :=
  bitsI (fun a b e _ => if a.getLsbD b then a ||| fieldMask b e else a &&& ~~~fieldMask b e) o x s

/-- EXTU, bounds in registers (44_bitfield R486). -/
def execExtu (o : BitR) (x : Ext) (s : State) : Host.Outcome State Fault Refusal :=
  bitsR (fun a b e _ => fieldOf a b e) o x s

/-- EXTU, immediate bounds (44_bitfield R486). -/
def execExtuImm (o : BitI) (x : Ext) (s : State) : Host.Outcome State Fault Refusal :=
  bitsI (fun a b e _ => fieldOf a b e) o x s

/-- EXTS, bounds in registers (44_bitfield R487). -/
def execExts (o : BitR) (x : Ext) (s : State) : Host.Outcome State Fault Refusal :=
  bitsR (fun a b e _ => fieldSigned a b e) o x s

/-- EXTS, immediate bounds (44_bitfield R487). -/
def execExtsImm (o : BitI) (x : Ext) (s : State) : Host.Outcome State Fault Refusal :=
  bitsI (fun a b e _ => fieldSigned a b e) o x s

/-- DEP, bounds in registers (44_bitfield R488). -/
def execDep (o : BitR) (x : Ext) (s : State) : Host.Outcome State Fault Refusal :=
  bitsR (fun a b e old => (old &&& ~~~fieldMask b e) ||| ((a <<< b) &&& fieldMask b e)) o x s

/-- DEP, immediate bounds (44_bitfield R488). -/
def execDepImm (o : BitI) (x : Ext) (s : State) : Host.Outcome State Fault Refusal :=
  bitsI (fun a b e old => (old &&& ~~~fieldMask b e) ||| ((a <<< b) &&& fieldMask b e)) o x s

end Sys2Proof.Machine
end

