-- ==== Sys2Proof/Machine/FloatOps.lean ====
section
/-! DEFINITION. Floating-point instructions (42_float R400 to R432). All work on whole registers as quad numbers; a
vector has elements of 128 bits (42_float R401). -/

namespace Sys2Proof.Machine

/-- A floating-point constant of the postfixes, if there is one (42_float R405). -/
def floatTail (t : Tail) (s : State) : Acc (Option Word) :=
  if t.hasConst then (floatConst 0 t s).map some else .ok none s

/-- The value of Rb, or the constant (30_encoding R232). -/
def floatB (c : Option Word) (v : Bool) (r : Reg) : Src :=
  match c with
  | some w => .imm w
  | none => srcOf v r

/-- A floating-point register instruction: `g` of the operands (42_float R400, R406), of each element in a vector form; the
rounding mode in `g`, a ROUND window's too, is that of every element, by the model's choice (41_vector R384; log 46). -/
def flt2 (g : Word → Word → State → Acc Word) (o : F2) (x : Ext) (s : State) : Host.Outcome State Fault Refusal :=
  runExt x (vbitsVec o.vec)
    (fun s => (floatTail x.tail s).bind fun c s' =>
      alu 128 (vbitsVec o.vec) o.rt x.mask
        (fun k => g ((srcOf (vbitsVec o.vec) o.ra).value .sign o.sa s 128 k)
          ((floatB c (o.vec == .vv) o.rb).value .sign o.sb s 128 k)) s') s

/-- A floating-point immediate instruction (42_float R405; 30_encoding R223), with one rounding mode for every element (log
46). -/
def fltI (g : Word → Word → State → Acc Word) (o : FI) (x : Ext) (s : State) : Host.Outcome State Fault Refusal :=
  runExt x o.vec
    (fun s => (floatConst o.imm x.tail s).bind fun c s' =>
      alu 128 o.vec o.rt x.mask (fun k => g ((srcOf o.vec o.ra).value .sign o.sa s 128 k) c) s') s

/-- A floating-point instruction of one operand (42_float R400). -/
def flt1 (f : Word → Word) (o : F1) (x : Ext) (s : State) : Host.Outcome State Fault Refusal :=
  runExt x (vbitsVec o.vec)
    (fun s => alu 128 (vbitsVec o.vec) o.rt x.mask
      (fun k s' => .ok (decorate .sign o.st (f ((srcOf (vbitsVec o.vec) o.ra).value .sign o.sa s 128 k))) s') s) s

/-- The FP oracle's result of an operation of two quad numbers (42_float R404; log 58). -/
def oracle (op : FpOp) (rm : RoundMode) (a b : Word) (s : State) : Acc Word :=
  match s.params.fp with
  | .ieee => (nanOr .quad (ieee op rm (quadVal a) (quadVal b)) s).map fun r => .ofNat 128 r
  | .other => .ok (Config.fpResult op rm a b) s

/-- An arithmetic operation of two quad numbers, its result under St (42_float R404, R406). -/
def fltOp (st : Bool) (op : FpOp) (rm : RoundMode) (a b : Word) (s : State) : Acc Word :=
  (oracle op rm a b s).map (decorate .sign st)

/-- The rounding mode of a register form. -/
def State.rmOf (s : State) (f : RmField) : RoundMode := s.roundMode (RoundMode.ofField s.params f)

/-- The rounding mode of an instruction without the field (42_float R403). -/
def State.rmImm (s : State) : RoundMode := s.roundMode s.params.fcrRm

/-- FADD (42_float R411). -/
def execFadd (o : F2) (x : Ext) (s : State) : Host.Outcome State Fault Refusal :=
  flt2 (fltOp o.st .add (s.rmOf o.rm)) { o with sb := false } x s

/-- FSUB, FADD of the negated second operand (42_float R429). -/
def execFsub (o : F2) (x : Ext) (s : State) : Host.Outcome State Fault Refusal :=
  flt2 (fltOp o.st .add (s.rmOf o.rm)) { o with sb := true } x s

/-- FMUL (42_float R424). -/
def execFmul (o : F2) (x : Ext) (s : State) : Host.Outcome State Fault Refusal :=
  flt2 (fltOp o.st .mul (s.rmOf o.rm)) o x s

/-- FDIV (42_float R415). -/
def execFdiv (o : F2) (x : Ext) (s : State) : Host.Outcome State Fault Refusal :=
  flt2 (fltOp o.st .div (s.rmOf o.rm)) o x s

/-- FADD, immediate form (42_float R432). -/
def execFaddi (o : FI) (x : Ext) (s : State) : Host.Outcome State Fault Refusal :=
  fltI (fltOp o.st .add s.rmImm) o x s

/-- FMUL, immediate form (42_float R425). -/
def execFmuli (o : FI) (x : Ext) (s : State) : Host.Outcome State Fault Refusal :=
  fltI (fltOp o.st .mul s.rmImm) o x s

/-- FDIV, immediate form; iw[15] swaps the operands (42_float R416). -/
def execFdivi (o : FI) (x : Ext) (s : State) : Host.Outcome State Fault Refusal :=
  fltI (fun a b => if o.st then fltOp false .div s.rmImm b a else fltOp false .div s.rmImm a b) o x s

/-- FCMP; St is ignored (42_float R413). -/
def execFcmp (o : F2) (x : Ext) (s : State) : Host.Outcome State Fault Refusal :=
  flt2 (fun a b s => .ok ((frel a b).setWidth 128) s) o x s

/-- FCMP, immediate form; iw[15] swaps the operands (42_float R414). -/
def execFcmpi (o : FI) (x : Ext) (s : State) : Host.Outcome State Fault Refusal :=
  fltI (fun a b s => .ok ((if o.st then frel b a else frel a b).setWidth 128) s) o x s

/-- A floating-point set instruction: bit `k` of the relation vector as a Boolean, inverted under St (42_float R417,
R418). -/
def fltSet (k : Nat) (o : F2) (x : Ext) (s : State) : Host.Outcome State Fault Refusal :=
  flt2 (fun a b s => .ok (decorate .flip o.st (boolVal 128 ((frel a b).getLsbD k))) s) o x s

/-- FSEQ (42_float R417). -/
def execFseq (o : F2) (x : Ext) (s : State) : Host.Outcome State Fault Refusal :=
  fltSet 0 { o with st := false } x s

/-- FSNE, FSEQ with the Boolean inverted (42_float R418). -/
def execFsne (o : F2) (x : Ext) (s : State) : Host.Outcome State Fault Refusal :=
  fltSet 0 { o with st := true } x s

/-- FSLE (42_float R421). -/
def execFsle (o : F2) (x : Ext) (s : State) : Host.Outcome State Fault Refusal :=
  fltSet 8 o x s

/-- FSLT (42_float R422). -/
def execFslt (o : F2) (x : Ext) (s : State) : Host.Outcome State Fault Refusal :=
  fltSet 6 o x s

/-- FSGE (42_float R419). -/
def execFsge (o : F2) (x : Ext) (s : State) : Host.Outcome State Fault Refusal :=
  fltSet 4 o x s

/-- FSGT (42_float R420). -/
def execFsgt (o : F2) (x : Ext) (s : State) : Host.Outcome State Fault Refusal :=
  fltSet 2 o x s

/-- FABS (42_float R410). -/
def execFabs (o : F1) (x : Ext) (s : State) : Host.Outcome State Fault Refusal :=
  flt1 (fun a => a &&& ~~~BitVec.twoPow 128 127) o x s

/-- FNEG (42_float R426). -/
def execFneg (o : F1) (x : Ext) (s : State) : Host.Outcome State Fault Refusal :=
  flt1 (fun a => a ^^^ BitVec.twoPow 128 127) o x s

/-- FTRUNC (42_float R430). -/
def execFtrunc (o : F1) (x : Ext) (s : State) : Host.Outcome State Fault Refusal :=
  flt1 truncFraction o x s

/-- FSCALEB, amount in a register, read undecorated, or a 16-bit constant; ROUND's mode for its position is the mode of
a result too small (42_float R427, R428; 49_modifiers R720; log 23, 46). -/
def execFscaleb (o : F2) (x : Ext) (s : State) : Host.Outcome State Fault Refusal :=
  runExt x (vbitsVec o.vec)
    (fun s => alu 128 (vbitsVec o.vec) o.rt x.mask
      (fun k s' => .ok (decorate .sign o.st
        (scaleB (s.roundMode .nearestEven) ((srcOf (vbitsVec o.vec) o.ra).value .sign o.sa s 128 k)
          (if x.tail.hasConst then (x.tail.raw.setWidth 16).toInt
           else ((srcOf (o.vec == .vv) o.rb).value .plain false s 128 k).toInt))) s') s) s

/-- FSCALEB, immediate form (42_float R428). -/
def execFscalebImm (o : FScI) (x : Ext) (s : State) : Host.Outcome State Fault Refusal :=
  runExt x o.vec
    (fun s => alu 128 o.vec o.rt x.mask
      (fun k s' => .ok (decorate .sign o.st
        (scaleB (s.roundMode .nearestEven) ((srcOf o.vec o.ra).value .sign o.sa s 128 k)
          (if x.tail.hasConst then (x.tail.raw.setWidth 16).toInt else o.imm.toInt))) s') s) s

/-- The constant of ORF: the 15-bit field is a half precision value without sign (42_float R431). -/
def execOrf (o : RI) (x : Ext) (s : State) : Host.Outcome State Fault Refusal :=
  runExt x o.vec
    (fun s => (floatConst (o.imm.setWidth 16) x.tail s).bind fun c s' =>
      alu 128 o.vec o.rt x.mask
        (fun k s'' => .ok (decorate .compl o.st ((srcOf o.vec o.ra).value .compl o.sa s 128 k ||| c)) s'') s') s

end Sys2Proof.Machine
end

