-- ==== Sys2Proof/Machine/VectorOps.lean ====
section
/-! DEFINITION. Element slides (41_vector R388 to R390), V2BITS (48_vector R652) and the cryptographic instructions
(48_vector R660 to R672). -/

namespace Sys2Proof.Machine

/-- The value of element k of n after a slide up by `amt` elements: the elements moved are under Sa and St, what comes in
is zero (41_vector R388; log 21). -/
def slideUp (w n amt : Nat) (src : Nat → BitVec w) (k : Nat) : BitVec w :=
  if k < n ∧ amt ≤ k then src (k - amt) else 0

/-- The value of element k of n after a slide down by `amt` elements (41_vector R390). -/
def slideDown (w n amt : Nat) (src : Nat → BitVec w) (k : Nat) : BitVec w :=
  if k + amt < n then src (k + amt) else 0

/-- A slide: `f` of the element count, the amount and the elements. -/
def slide (f : (w : Nat) → Nat → Nat → (Nat → BitVec w) → Nat → BitVec w) (size : Size) (rt : Reg) (st : Bool) (ra : Reg)
    (sa : Bool) (amt : State → Nat) (x : Ext) (s : State) : Host.Outcome State Fault Refusal :=
  runExt x true
    (fun s => alu size.bits true rt x.mask
      (fun k s' => .ok ((f size.bits (s.elems size.bits) (amt s)
        (fun j => decorate .compl st ((srcOf true ra).value .compl sa s size.bits j)) k).setWidth 128) s') s) s

/-- The amount of a slide in a register or a constant (41_vector R388). -/
def slideAmount (rb : Reg) (t : Tail) (s : State) : Nat := ((srcB false rb t).value .plain false s 128 0).toNat

/-- VSHLV, amount in a register (41_vector R388). -/
def execVshlv (o : R2) (x : Ext) (s : State) : Host.Outcome State Fault Refusal :=
  slide slideUp o.size o.rt o.st o.ra o.sa (slideAmount o.rb x.tail) x s

/-- VSHRV, amount in a register (41_vector R390). -/
def execVshrv (o : R2) (x : Ext) (s : State) : Host.Outcome State Fault Refusal :=
  slide slideDown o.size o.rt o.st o.ra o.sa (slideAmount o.rb x.tail) x s

/-- VSHLV, immediate amount (41_vector R389). -/
def execVshlvi (o : VshI) (x : Ext) (s : State) : Host.Outcome State Fault Refusal :=
  slide slideUp o.size o.rt o.st o.ra o.sa (fun _ => (immOr (o.imm.setWidth 128) x.tail).toNat) x s

/-- VSHRV, immediate amount (41_vector R390). -/
def execVshrvi (o : VshI) (x : Ext) (s : State) : Host.Outcome State Fault Refusal :=
  slide slideDown o.size o.rt o.st o.ra o.sa (fun _ => (immOr (o.imm.setWidth 128) x.tail).toNat) x s

/-- Bit `b` of each of `n` elements that the mask enables, as a number (48_vector R652). -/
def gatherBits (w : Nat) (m : Word) (v : Nat → BitVec w) (b n : Nat) : Word :=
  (List.range n).foldl (fun r k => if m.getLsbD k && (v k).getLsbD b then r ||| (1#128 <<< k) else r) 0

/-- V2BITS; Sa and Sb are ignored, the target is a scalar register (48_vector R652, R653). -/
def execV2bits (o : R2) (x : Ext) (s : State) : Host.Outcome State Fault Refusal :=
  runExt x true
    (fun s => .ok .seq ({ s with vrm := BitVec.allOnes 128 }.setReg o.rt
      (decorate .compl o.st (gatherBits o.size.bits (s.vecMask x.mask) (s.elem o.size.bits o.ra)
        (slideAmount o.rb x.tail s % o.size.bits) (s.elems o.size.bits))))) s

/-- A SHA-256 or SM3 function of the low 32 bits, sign-extended (48_vector R661, R668); at a narrower size, by the model's
choice, of the zero-extended operand (log 14). -/
def sha32 (f : BitVec 32 → BitVec 32) (o : R1) (x : Ext) (s : State) : Host.Outcome State Fault Refusal :=
  r1 .compl .compl .sign (fun w a => (f (a.setWidth 32)).signExtend w) o x s

/-- A SHA-512 function of the low 64 bits, sign-extended (48_vector R665, R667); at a narrower size, by the model's choice,
of the zero-extended operand (log 14). -/
def sha64 (f : BitVec 64 → BitVec 64) (o : R1) (x : Ext) (s : State) : Host.Outcome State Fault Refusal :=
  r1 .compl .compl .sign (fun w a => (f (a.setWidth 64)).signExtend w) o x s

/-- SHA256SIG0 (48_vector R661). -/
def execSha256sig0 (o : R1) (x : Ext) (s : State) : Host.Outcome State Fault Refusal :=
  sha32 (fun a => rotr 32 a 7 ^^^ rotr 32 a 18 ^^^ a >>> 3) o x s

/-- SHA256SIG1 (48_vector R662). -/
def execSha256sig1 (o : R1) (x : Ext) (s : State) : Host.Outcome State Fault Refusal :=
  sha32 (fun a => rotr 32 a 17 ^^^ rotr 32 a 19 ^^^ a >>> 10) o x s

/-- SHA256SUM0 (48_vector R663). -/
def execSha256sum0 (o : R1) (x : Ext) (s : State) : Host.Outcome State Fault Refusal :=
  sha32 (fun a => rotr 32 a 2 ^^^ rotr 32 a 13 ^^^ rotr 32 a 22) o x s

/-- SHA256SUM1 (48_vector R664). -/
def execSha256sum1 (o : R1) (x : Ext) (s : State) : Host.Outcome State Fault Refusal :=
  sha32 (fun a => rotr 32 a 6 ^^^ rotr 32 a 11 ^^^ rotr 32 a 25) o x s

/-- SHA512SIG0 (48_vector R665). -/
def execSha512sig0 (o : R1) (x : Ext) (s : State) : Host.Outcome State Fault Refusal :=
  sha64 (fun a => rotr 64 a 1 ^^^ rotr 64 a 8 ^^^ a >>> 7) o x s

/-- SHA512SIG1 (48_vector R666). -/
def execSha512sig1 (o : R1) (x : Ext) (s : State) : Host.Outcome State Fault Refusal :=
  sha64 (fun a => rotr 64 a 19 ^^^ rotr 64 a 61 ^^^ a >>> 6) o x s

/-- A cryptographic instruction that CRYPTO_FN supplies does `run`; another is Unimplemented Instruction, whatever its operands
(48_vector R672; log 14). -/
def supplied (op : CryptoOp) (run : State → Host.Outcome State Fault Refusal) (s : State) :
    Host.Outcome State Fault Refusal :=
  if s.params.crypto.contains op then run s else unimplemented s

/-- The result of CRYPTO_FN under St; where it gives none, Unimplemented Instruction (48_vector R672). -/
def cryptoResult (op : CryptoOp) (st : Bool) (a b : Word) (s : State) : Acc Word :=
  match Config.cryptoFn op a b with
  | some r => .ok (decorate .compl st r) s
  | none => .trap .unimplemented s

/-- An R1 cryptographic instruction without a formula (48_vector R669). -/
def crypto1 (op : CryptoOp) (o : R1) (x : Ext) : State → Host.Outcome State Fault Refusal :=
  supplied op <| runExt x (vbitsVec o.vec) fun s =>
    alu o.size.bits (vbitsVec o.vec) o.rt x.mask
      (fun k => cryptoResult op o.st
        (((srcOf (vbitsVec o.vec) o.ra).value .compl o.sa s o.size.bits k).setWidth 128) 0) s

/-- An R2 cryptographic instruction without a formula (48_vector R670). -/
def crypto2 (op : CryptoOp) (o : R2) (x : Ext) : State → Host.Outcome State Fault Refusal :=
  supplied op (r2M .compl (fun _ a b => cryptoResult op o.st (a.setWidth 128) (b.setWidth 128)) o x)

/-- SHA512SUM0, where CRYPTO_FN supplies it (48_vector R667). -/
def execSha512sum0 (o : R1) (x : Ext) (s : State) : Host.Outcome State Fault Refusal :=
  supplied .sha512sum0 (sha64 (fun a => rotr 64 a 28 ^^^ rotr 64 a 34 ^^^ rotr 64 a 39) o x) s

/-- SHA512SUM1, where CRYPTO_FN supplies it (48_vector R667). -/
def execSha512sum1 (o : R1) (x : Ext) (s : State) : Host.Outcome State Fault Refusal :=
  supplied .sha512sum1 (sha64 (fun a => rotr 64 a 14 ^^^ rotr 64 a 18 ^^^ rotr 64 a 41) o x) s

/-- SM3P0, where CRYPTO_FN supplies it (48_vector R668): the rotations left by 9 and 17. -/
def execSm3p0 (o : R1) (x : Ext) (s : State) : Host.Outcome State Fault Refusal :=
  supplied .sm3p0 (sha32 (fun a => a ^^^ rotr 32 a 23 ^^^ rotr 32 a 15) o x) s

/-- SM3P1, where CRYPTO_FN supplies it (48_vector R668): the rotations left by 15 and 23. -/
def execSm3p1 (o : R1) (x : Ext) (s : State) : Host.Outcome State Fault Refusal :=
  supplied .sm3p1 (sha32 (fun a => a ^^^ rotr 32 a 17 ^^^ rotr 32 a 9) o x) s

/-- AES64DS (48_vector R669). -/
def execAes64ds (o : R1) (x : Ext) (s : State) : Host.Outcome State Fault Refusal := crypto1 .aes64ds o x s
/-- AES64DSM (48_vector R669). -/
def execAes64dsm (o : R1) (x : Ext) (s : State) : Host.Outcome State Fault Refusal := crypto1 .aes64dsm o x s
/-- AES64ES (48_vector R669). -/
def execAes64es (o : R1) (x : Ext) (s : State) : Host.Outcome State Fault Refusal := crypto1 .aes64es o x s
/-- AES64ESM (48_vector R669). -/
def execAes64esm (o : R1) (x : Ext) (s : State) : Host.Outcome State Fault Refusal := crypto1 .aes64esm o x s
/-- SM4ED (48_vector R670). -/
def execSm4ed (o : R2) (x : Ext) (s : State) : Host.Outcome State Fault Refusal := crypto2 .sm4ed o x s
/-- SM4KS (48_vector R670). -/
def execSm4ks (o : R2) (x : Ext) (s : State) : Host.Outcome State Fault Refusal := crypto2 .sm4ks o x s

end Sys2Proof.Machine
end

