-- ==== Sys2Proof/Machine/Csr.lean ====
section
/-! DEFINITION. Control and status registers, CPUID and the vector length (10_state R32 to R70; 49_modifiers R725 to R732;
48_vector R650, R651). -/

namespace Sys2Proof.Machine

/-! The registers. -/

/-- SR as the current mode sees it (10_state R35, R37). -/
def State.srSeen (s : State) : BitVec 32 :=
  match s.mode.toNat with
  | 0 => s.sr &&& 1
  | 1 => s.sr &&& 0xFFFFFFF3
  | 2 => s.sr &&& 0xFFFFFFF7
  | _ => s.sr

/-- The bits of SR the current mode can write (10_state R35, R37). -/
def State.srWritable (s : State) : BitVec 32 :=
  match s.mode.toNat with
  | 0 => 1
  | 1 => 3
  | 2 => 7
  | _ => srMask

/-- U_REPBUF as a word (10_state R39). -/
def RepBuf.word (r : RepBuf) : Word :=
  (r.pc.setWidth 128 <<< 48) ||| ((BitVec.ofBool r.v).setWidth 128 <<< 43) ||| (r.icnt.setWidth 128 <<< 40) |||
    (r.limit.setWidth 128 <<< 8) ||| r.ins.setWidth 128

/-- U_REPBUF from a word (10_state R39). -/
def RepBuf.ofWord (v : Word) : RepBuf where
  pc := v.extractLsb' 48 64
  v := v.getLsbD 43
  icnt := v.extractLsb' 40 3
  limit := v.extractLsb' 8 32
  ins := v.extractLsb' 0 7

/-- The implemented bits of S_PTBR (10_state R56). -/
def ptbrMask : Word := 0xFFFFFFFFFFFFFCFC9

/-- Four status registers of the exception stack, from slot k on (10_state R66). -/
def srStackWord (st : Vector Slot 8) (k : Nat) : Word :=
  let sr := fun j => match st[k + j]? with
    | some e => e.sr
    | none => 0
  sr 3 ++ (sr 2 ++ (sr 1 ++ sr 0))

/-- Write four status registers of the exception stack. -/
def setSrStack (k : Nat) (v : Word) (st : Vector Slot 8) : Vector Slot 8 :=
  (List.range 4).foldl (fun st j => modifyAt st (k + j) fun e => { e with sr := v.extractLsb' (32 * j) 32 }) st

/-- The control registers by name. -/
inductive Csr where
  | sr | cause (m : Nat) | repbuf | scratch (m : Nat) | vl | vrm | verr | vrgsz | ved | ptbr | asid | key (k : Nat) | coreno
  | tick | seed | badAddr | badInstr | sema | tvec (k : Nat) | srStack (k : Nat) | ios | epc (k : Nat) | vb (m : Nat) | av
  | unimplemented
deriving DecidableEq, Repr

/-- The register of a number (10_state R32 to R70; 60_exceptions R774). A number that two parameters give, of which the spec
says nothing, is by the model's choice AV before a VB, and the first VB of those (log 31). -/
def csrOf (p : Params) (n : BitVec 14) : Csr :=
  let mode := n.toNat / 0x1000
  let low := n.toNat % 0x1000
  if low = 0x004 then .sr
  else if low = 0x006 then .cause mode
  else if low = 0x041 then .scratch mode
  else if n = 0x0008 then .repbuf
  else if n = 0x0050 then .vl
  else if n = 0x0051 then .vrm
  else if n = 0x0052 then .verr
  else if n = 0x0053 then .vrgsz
  else if n = 0x0054 then .ved
  else if n = 0x1003 then .ptbr
  else if n = 0x101F then .asid
  else if 0x1020 ≤ n ∧ n ≤ 0x1027 then .key (n.toNat - 0x1020)
  else if n = 0x3001 then .coreno
  else if n = 0x3002 then .tick
  else if n = 0x3003 then .seed
  else if n = 0x3007 then .badAddr
  else if n = 0x300B then .badInstr
  else if n = 0x300C then .sema
  else if 0x3030 ≤ n ∧ n ≤ 0x3034 then .tvec (n.toNat - 0x3030)
  else if n = 0x303C then .srStack 0
  else if n = 0x303D then .srStack 4
  else if n = 0x3100 then .ios
  else if 0x3108 ≤ n ∧ n ≤ 0x310F then .epc (n.toNat - 0x3108)
  else if p.avRegno = some n then .av
  else
    match p.vbRegno.toList.findIdx? fun r => r == some n with
    | some m => .vb m
    | none => .unimplemented

/-- The value of a register as the current mode sees it, zero-extended (10_state R34). M_SEED draws a fresh value
(10_state R61; log 9). -/
def State.csrValue (s : State) : Csr → Word
  | .sr => s.srSeen.setWidth 128
  | .cause m => ((s.cause[m]?).getD 0).setWidth 128
  | .repbuf => s.repbuf.word
  | .scratch m => (s.scratch[m]?).getD 0
  | .vl => s.vl.setWidth 128
  | .vrm => s.vrm
  | .verr => s.verr
  | .vrgsz => 64
  | .ved => s.ved
  | .ptbr => s.ptbr
  | .asid => s.asid.setWidth 128
  | .key k => ((s.keys[k]?).getD 0).setWidth 128
  | .coreno => s.params.coreno
  | .tick => s.tick.setWidth 128
  | .seed => (Config.seed s.draws &&& 0xF00000000000FFFF).setWidth 128
  | .badAddr => s.badAddr.setWidth 128
  | .badInstr => s.badInstr.setWidth 128
  | .sema => s.sema
  | .tvec k => ((s.tvec[k]?).getD 0).setWidth 128
  | .srStack k => srStackWord s.stack k
  | .ios => s.ios.setWidth 128
  | .epc k => match s.stack[k]? with
    | some e => e.pc.setWidth 128
    | none => 0
  | .vb m => ((s.vb[m]?).getD 0).setWidth 128
  | .av => s.av.setWidth 128
  | .unimplemented => 0

/-- A read of a register. -/
def csrRead (c : Csr) (s : State) : Acc Word :=
  .ok (s.csrValue c) (if c = .seed then { s with draws := s.draws + 1 } else s)

/-- A write of a register: the implemented bits it lets be written (10_state R34 to R70). U_VRGSZ, which the spec does
not call read-only, ignores writes (log 31). -/
def State.csrWrite (s : State) (c : Csr) (v : Word) : State :=
  match c with
  | .sr => { s with sr := (s.sr &&& ~~~s.srWritable) ||| (v.setWidth 32 &&& s.srWritable) }
  | .cause m => { s with cause := s.cause.setIfInBounds m (v.setWidth 12) }
  | .repbuf => { s with repbuf := RepBuf.ofWord v }
  | .scratch m => { s with scratch := s.scratch.setIfInBounds m v }
  | .vl => { s with vl := if v.extractLsb' 0 8 ≤ s.params.maxVl then v.extractLsb' 0 8 else s.params.maxVl }
  | .vrm => { s with vrm := v }
  | .verr => { s with verr := v }
  | .vrgsz => s
  | .ved => { s with ved := v &&& 0x77 }
  | .ptbr => { s with ptbr := v &&& ptbrMask }
  | .asid => { s with asid := v.setWidth 12 }
  | .key k => { s with keys := s.keys.setIfInBounds k (v.setWidth 24) }
  | .coreno => s
  | .tick => s
  | .seed => s
  | .badAddr => { s with badAddr := v.setWidth 64 }
  | .badInstr => { s with badInstr := v.setWidth 48 }
  | .sema => { s with sema := v }
  | .tvec k => { s with tvec := s.tvec.setIfInBounds k (v.setWidth 64) }
  | .srStack k => { s with stack := setSrStack k v s.stack }
  | .ios => { s with ios := v.setWidth 64 &&& ~~~0xFFFF }
  | .epc k => { s with stack := modifyAt s.stack k fun e => { e with pc := v.setWidth 64 } }
  | .vb m => { s with vb := s.vb.setIfInBounds m (v.setWidth 64 &&& ~~~7) }
  | .av => { s with av := v.setWidth 64 &&& ~~~0xF }
  | .unimplemented => s

/-! The instructions. -/

/-- What a CSR instruction writes, from the old value and the operand: nothing, or the new value (49_modifiers R726). -/
abbrev CsrNew := Word → Word → Option Word

/-- The CSR instruction: the privilege check, the read, the write, the old value to Rt (49_modifiers R726). -/
def csrOp (new : CsrNew) (rt : Reg) (st : Bool) (n : BitVec 14) (v : Word) (s : State) : Acc Flow :=
  if s.mode < n.extractLsb' 12 2 then .trap .privilege s
  else
    (csrRead (csrOf s.params n) s).bind fun old s =>
      let t := s.setReg rt (decorate .compl st old)
      .ok .seq (match new old v with
        | some w => t.csrWrite (csrOf s.params n) w
        | none => t)

/-- A CSR instruction with its operand in a register. -/
def csrR (new : CsrNew) (o : CsrR) (x : Ext) (s : State) : Host.Outcome State Fault Refusal :=
  runExt x false (fun s => csrOp new o.rt o.st o.regno (decorate .compl o.sa (s.reg o.ra)) s) s

/-- A CSR instruction with an immediate operand. -/
def csrI (new : CsrNew) (o : CsrI) (x : Ext) (s : State) : Host.Outcome State Fault Refusal :=
  runExt x false (csrOp new o.rt o.st o.regno (immOr (o.imm.setWidth 128) x.tail)) s

/-- CSR, read (49_modifiers R726). -/
def execCsrrd (o : CsrR) (x : Ext) (s : State) : Host.Outcome State Fault Refusal :=
  csrR (fun _ _ => none) o x s

/-- CSR, read, immediate form (49_modifiers R726). -/
def execCsrrdImm (o : CsrI) (x : Ext) (s : State) : Host.Outcome State Fault Refusal :=
  csrI (fun _ _ => none) o x s

/-- CSR, write (49_modifiers R726). -/
def execCsrwr (o : CsrR) (x : Ext) (s : State) : Host.Outcome State Fault Refusal :=
  csrR (fun _ v => some v) o x s

/-- CSR, write, immediate form (49_modifiers R726). -/
def execCsrwrImm (o : CsrI) (x : Ext) (s : State) : Host.Outcome State Fault Refusal :=
  csrI (fun _ v => some v) o x s

/-- CSR, set bits (49_modifiers R726). -/
def execCsrrs (o : CsrR) (x : Ext) (s : State) : Host.Outcome State Fault Refusal :=
  csrR (fun old v => some (old ||| v)) o x s

/-- CSR, set bits, immediate form (49_modifiers R726). -/
def execCsrrsImm (o : CsrI) (x : Ext) (s : State) : Host.Outcome State Fault Refusal :=
  csrI (fun old v => some (old ||| v)) o x s

/-- CSR, clear bits (49_modifiers R726). -/
def execCsrrc (o : CsrR) (x : Ext) (s : State) : Host.Outcome State Fault Refusal :=
  csrR (fun old v => some (old &&& ~~~v)) o x s

/-- CSR, clear bits, immediate form (49_modifiers R726). -/
def execCsrrcImm (o : CsrI) (x : Ext) (s : State) : Host.Outcome State Fault Refusal :=
  csrI (fun old v => some (old &&& ~~~v)) o x s

/-- CSR, flip bits (49_modifiers R726). -/
def execCsreor (o : CsrR) (x : Ext) (s : State) : Host.Outcome State Fault Refusal :=
  csrR (fun old v => some (old ^^^ v)) o x s

/-- CSR, flip bits, immediate form (49_modifiers R726). -/
def execCsreorImm (o : CsrI) (x : Ext) (s : State) : Host.Outcome State Fault Refusal :=
  csrI (fun old v => some (old ^^^ v)) o x s

/-- GETVL: a read of U_VL (48_vector R650). -/
def execGetvl (o : GetVl) (x : Ext) (s : State) : Host.Outcome State Fault Refusal :=
  runExt x false (csrOp (fun _ _ => none) o.rt o.st 0x50 0) s

/-- SETVL: a write of U_VL (48_vector R651). -/
def execSetvl (o : CsrR) (x : Ext) (s : State) : Host.Outcome State Fault Refusal :=
  csrR (fun _ v => some v) { o with regno := 0x50 } x s

/-- SETVL, immediate form (48_vector R651). -/
def execSetvlImm (o : CsrI) (x : Ext) (s : State) : Host.Outcome State Fault Refusal :=
  csrI (fun _ v => some v) { o with regno := 0x50 } x s

/-- The Info table of CPUID (49_modifiers R732). -/
def cpuInfo (p : Params) (i : Nat) : Word :=
  match i with
  | 0 => p.coreno
  | 2 => 0x6E6F7274696E6946
  | 4 => 0x0053537469423436
  | 6 => 0x33323032726F6854
  | 8 => 0x314D
  | 9 => 0x34333231
  | 10 => p.features
  | 11 => (p.dcacheBytes ++ p.icacheBytes).setWidth 128
  | 12 => p.maxVl.setWidth 128
  | _ => 0

/-- The row of CPUID: the sum of the operand and the number, modulo 2 to the 64 (49_modifiers R731). -/
def cpuidOp (rt : Reg) (st : Bool) (n : BitVec 14) (v : Word) (s : State) : Acc Flow :=
  .ok .seq (s.setReg rt (decorate .compl st (cpuInfo s.params ((v.toNat + n.toNat) % 2 ^ 64))))

/-- CPUID, register form (49_modifiers R731). -/
def execCpuid (o : CsrR) (x : Ext) (s : State) : Host.Outcome State Fault Refusal :=
  runExt x false (fun s => cpuidOp o.rt o.st o.regno (decorate .compl o.sa (s.reg o.ra)) s) s

/-- CPUID, immediate form (49_modifiers R731). -/
def execCpuidImm (o : CsrI) (x : Ext) (s : State) : Host.Outcome State Fault Refusal :=
  runExt x false (cpuidOp o.rt o.st o.regno (immOr (o.imm.setWidth 128) x.tail)) s

end Sys2Proof.Machine
end

