-- ==== Sys2Proof/Machine/Modifier.lean ====
section
/-! DEFINITION. The modifiers PRED, CARRY, REP, ATOM and ROUND (49_modifiers R700 to R720), NOP and the postfixes on their
own (30_encoding R235, R237). -/

namespace Sys2Proof.Machine

/-- PRED: latch the tested bit and open the window (49_modifiers R712). -/
def execPred (o : PredOp) (t : Tail) (s : State) : Host.Outcome State Fault Refusal :=
  runTail 5 t (fun s => .ok (.opened .pred)
    { s with win := { s.win with pred := some ⟨o.imm.setWidth 24, 0⟩, predVal := (s.reg o.rn).getLsbD o.cond.toNat } }) s

/-- CARRY: open the window with the carry 0; Rn has no meaning (49_modifiers R714). -/
def execCarry (o : CarryOp) (t : Tail) (s : State) : Host.Outcome State Fault Refusal :=
  runTail 5 t (fun s => .ok (.opened .carry) { s with win := { s.win with carry := some ⟨o.imm.setWidth 24, 0⟩, cy := 0 } }) s

/-- ATOM: open the window; Rt, St, V and Sz3 have no meaning (49_modifiers R710). -/
def execAtom (o : AtomOp) (t : Tail) (s : State) : Host.Outcome State Fault Refusal :=
  runTail 5 t (fun s => .ok (.opened .atom) { s with win := { s.win with atom := some ⟨o.imm.setWidth 24, 0⟩ } }) s

/-- ROUND: open the window (49_modifiers R720). -/
def execRound (imm : BitVec 24) (t : Tail) (s : State) : Host.Outcome State Fault Refusal :=
  runTail 5 t (fun s => .ok (.opened .round) { s with win := { s.win with round := some ⟨imm, 0⟩ } }) s

/-- What REP writes to U_REPBUF (49_modifiers R716). -/
def repbufOf (o : RepOp) (t : Tail) (pc : Addr) : RepBuf where
  pc := pc + .ofNat 64 (5 + t.len)
  v := true
  icnt := 0
  limit := (immOr (o.imm.signExtend 128) t).setWidth 32
  ins := BitVec.ofBool o.d ++ (o.cnt ++ o.cnd)

/-- REP: write U_REPBUF; a NOP under `rep_hold` (49_modifiers R716, R717). -/
def execRep (o : RepOp) (t : Tail) (s : State) : Host.Outcome State Fault Refusal :=
  runTail 5 t (fun s => if s.repHold then .ok .seq s else .ok .rep { s with repbuf := repbufOf o t s.pc }) s

/-- NOP (30_encoding R237). -/
def execNop (t : Tail) (s : State) : Host.Outcome State Fault Refusal := runTail 5 t (fun s => .ok .seq s) s

/-- A constant postfix of type 0 on its own (30_encoding R235). -/
def execPfx0 (_imm : BitVec 32) (s : State) : Host.Outcome State Fault Refusal := loneNop 5 s
/-- A constant postfix of type 1 on its own (30_encoding R235). -/
def execPfx1 (_imm : BitVec 32) (s : State) : Host.Outcome State Fault Refusal := loneNop 5 s
/-- A constant postfix of type 2 on its own (30_encoding R235). -/
def execPfx2 (_imm : BitVec 32) (s : State) : Host.Outcome State Fault Refusal := loneNop 5 s
/-- A REGS postfix on its own (30_encoding R235). -/
def execRegs (_list : BitVec 64) (s : State) : Host.Outcome State Fault Refusal := loneNop 9 s

end Sys2Proof.Machine
end

