-- ==== Sys2Proof/Machine/Branch.lean ====
section
/-! DEFINITION. Conditional and unconditional branches of both lengths, and decrement-and-branch (46_flow_control R530 to
R552, R561 to R578). -/

namespace Sys2Proof.Machine

/-- Go to the target when the branch is taken (46_flow_control R534). -/
def branchFlow (taken : Bool) (disp : Addr) (s : State) : Flow := if taken then .goto (s.pc + disp) else .seq

/-- The second compared value of an integer branch: Rn or a constant (46_flow_control R531). -/
def branchB (rn : Reg) (t : Tail) (s : State) : Word := (srcB false rn t).value .plain false s 128 0

/-- An integer branch: registers compared whole (46_flow_control R533, R534). -/
def branchInt (base : Nat) (c : BitVec 4) (rm rn : Reg) (disp : Addr) (t : Tail) (s : State) :
    Host.Outcome State Fault Refusal :=
  runTail base t (fun s => .ok (branchFlow (cond c (s.reg rm) (branchB rn t s)) disp s) s) s

/-- A branch on a bit whose number is the Rn field or a constant (46_flow_control R531, R533). -/
def branchBit (base : Nat) (c : BitVec 4) (rm : Reg) (imm6 : BitVec 6) (disp : Addr) (t : Tail) (s : State) :
    Host.Outcome State Fault Refusal :=
  runTail base t (fun s => .ok (branchFlow (cond c (s.reg rm) (immOr (imm6.setWidth 128) t)) disp s) s) s

/-- A floating-point branch (46_flow_control R540). -/
def branchFlt (base : Nat) (c : BitVec 4) (rm rn : Reg) (disp : Addr) (t : Tail) (s : State) :
    Host.Outcome State Fault Refusal :=
  runTail base t (fun s => (floatTail t s).bind fun b s =>
    .ok (branchFlow (fcond c (s.reg rm) ((floatB b false rn).value .plain false s 128 0)) disp s) s) s

/-- A decimal-float branch of `base` bytes is reserved unless HAS_DECIMAL is true; then, where the predicate lets it
execute, it needs a definition no source gives (46_flow_control R578; 93_implementation_defined section 3; 49_modifiers
R712). -/
def branchDecimal (base : Nat) (t : Tail) (s : State) : Host.Outcome State Fault Refusal :=
  if !s.params.hasDecimal then unimplemented s
  else if s.predOk then .refused .decimal
  else skip (base + t.len) s

/-- BRA: no register is written (46_flow_control R546). -/
def branchAlways (base : Nat) (disp : Addr) (t : Tail) (s : State) : Host.Outcome State Fault Refusal :=
  runTail base t (fun s => .ok (.goto (s.pc + disp)) s) s

/-- The number of a link register (10_state R26). -/
def linkReg (k : BitVec 2) : Reg := 56 + k.setWidth 6

/-- BSR: link the address after the instruction, and branch (46_flow_control R547). -/
def branchLink (base : Nat) (lr : BitVec 2) (disp : Addr) (t : Tail) (s : State) : Host.Outcome State Fault Refusal :=
  runTail base t (fun s => .ok (.goto (s.pc + disp))
    (s.setReg (linkReg lr) ((s.pc + .ofNat 64 (base + t.len)).setWidth 128))) s

/-- Decrement the loop counter, and branch when the condition is false and the counter is not minus one
(46_flow_control R552). -/
def decBranch (c : Bool) (disp : Addr) (s : State) : Acc Flow :=
  let lc := s.reg 55 - 1
  .ok (branchFlow (!c && lc != BitVec.allOnes 128) disp s) (s.setReg 55 lc)

/-- DBcc on an integer condition, Imm6 for conditions 8 and 9 (46_flow_control R552, R531). -/
def execDbcc (o : BrC) (t : Tail) (s : State) : Host.Outcome State Fault Refusal :=
  runTail 5 t (fun s => decBranch
    (cond o.cond (s.reg o.rm)
      (if o.cond = 8 ∨ o.cond = 9 then immOr (o.rn.setWidth 128) t else branchB o.rn t s)) (o.disp.signExtend 64) s) s

/-- DBcc on a floating-point condition (46_flow_control R552, R540). -/
def execDbccFloat (o : BrC) (t : Tail) (s : State) : Host.Outcome State Fault Refusal :=
  runTail 5 t (fun s => (floatTail t s).bind fun b s => decBranch
    (fcond o.cond (s.reg o.rm) ((floatB b false o.rn).value .plain false s 128 0)) (o.disp.signExtend 64) s) s

/-- DBcc on a posit condition is reserved (46_flow_control R578). -/
def execDbccPosit (_o : BrC) (_t : Tail) (s : State) : Host.Outcome State Fault Refusal := unimplemented s
/-- DBcc on a decimal-float condition (46_flow_control R578). -/
def execDbccDecimal (_o : BrC) (t : Tail) (s : State) : Host.Outcome State Fault Refusal := branchDecimal 5 t s
/-- PBcc is reserved (46_flow_control R578). -/
def execPbcc (_o : BrC) (_t : Tail) (s : State) : Host.Outcome State Fault Refusal := unimplemented s
/-- LPBcc is reserved (46_flow_control R578). -/
def execLpbcc (_o : LBrC) (_t : Tail) (s : State) : Host.Outcome State Fault Refusal := unimplemented s
/-- DFBcc (46_flow_control R578). -/
def execDfbcc (_o : BrC) (t : Tail) (s : State) : Host.Outcome State Fault Refusal := branchDecimal 5 t s
/-- LDFBcc (46_flow_control R578). -/
def execLdfbcc (_o : LBrC) (t : Tail) (s : State) : Host.Outcome State Fault Refusal := branchDecimal 6 t s

/-- BEQ (46_flow_control R536). -/
def execBeq (o : Br) (t : Tail) (s : State) : Host.Outcome State Fault Refusal :=
  branchInt 5 0 o.rm o.rn (o.disp.signExtend 64) t s

/-- BNE (46_flow_control R537). -/
def execBne (o : Br) (t : Tail) (s : State) : Host.Outcome State Fault Refusal :=
  branchInt 5 1 o.rm o.rn (o.disp.signExtend 64) t s

/-- BLT (46_flow_control R538). -/
def execBlt (o : Br) (t : Tail) (s : State) : Host.Outcome State Fault Refusal :=
  branchInt 5 2 o.rm o.rn (o.disp.signExtend 64) t s

/-- BLE (46_flow_control R539). -/
def execBle (o : Br) (t : Tail) (s : State) : Host.Outcome State Fault Refusal :=
  branchInt 5 3 o.rm o.rn (o.disp.signExtend 64) t s

/-- BGE (46_flow_control R541). -/
def execBge (o : Br) (t : Tail) (s : State) : Host.Outcome State Fault Refusal :=
  branchInt 5 4 o.rm o.rn (o.disp.signExtend 64) t s

/-- BGT (46_flow_control R542). -/
def execBgt (o : Br) (t : Tail) (s : State) : Host.Outcome State Fault Refusal :=
  branchInt 5 5 o.rm o.rn (o.disp.signExtend 64) t s

/-- BBC (46_flow_control R550). -/
def execBbc (o : Br) (t : Tail) (s : State) : Host.Outcome State Fault Refusal :=
  branchInt 5 6 o.rm o.rn (o.disp.signExtend 64) t s

/-- BBS (46_flow_control R551). -/
def execBbs (o : Br) (t : Tail) (s : State) : Host.Outcome State Fault Refusal :=
  branchInt 5 7 o.rm o.rn (o.disp.signExtend 64) t s

/-- BBC with an immediate bit number (46_flow_control R550). -/
def execBbcImm (o : Br) (t : Tail) (s : State) : Host.Outcome State Fault Refusal :=
  branchBit 5 8 o.rm o.rn (o.disp.signExtend 64) t s

/-- BBS with an immediate bit number (46_flow_control R551). -/
def execBbsImm (o : Br) (t : Tail) (s : State) : Host.Outcome State Fault Refusal :=
  branchBit 5 9 o.rm o.rn (o.disp.signExtend 64) t s

/-- BLTU (46_flow_control R543). -/
def execBltu (o : Br) (t : Tail) (s : State) : Host.Outcome State Fault Refusal :=
  branchInt 5 10 o.rm o.rn (o.disp.signExtend 64) t s

/-- BLEU (46_flow_control R544). -/
def execBleu (o : Br) (t : Tail) (s : State) : Host.Outcome State Fault Refusal :=
  branchInt 5 11 o.rm o.rn (o.disp.signExtend 64) t s

/-- BGEU (46_flow_control R548). -/
def execBgeu (o : Br) (t : Tail) (s : State) : Host.Outcome State Fault Refusal :=
  branchInt 5 12 o.rm o.rn (o.disp.signExtend 64) t s

/-- BGTU (46_flow_control R549). -/
def execBgtu (o : Br) (t : Tail) (s : State) : Host.Outcome State Fault Refusal :=
  branchInt 5 13 o.rm o.rn (o.disp.signExtend 64) t s

/-- FBEQ (46_flow_control R564). -/
def execFbeq (o : Br) (t : Tail) (s : State) : Host.Outcome State Fault Refusal :=
  branchFlt 5 0 o.rm o.rn (o.disp.signExtend 64) t s

/-- FBNE (46_flow_control R565). -/
def execFbne (o : Br) (t : Tail) (s : State) : Host.Outcome State Fault Refusal :=
  branchFlt 5 1 o.rm o.rn (o.disp.signExtend 64) t s

/-- FBGT (46_flow_control R566). -/
def execFbgt (o : Br) (t : Tail) (s : State) : Host.Outcome State Fault Refusal :=
  branchFlt 5 2 o.rm o.rn (o.disp.signExtend 64) t s

/-- FBUGT (46_flow_control R567). -/
def execFbugt (o : Br) (t : Tail) (s : State) : Host.Outcome State Fault Refusal :=
  branchFlt 5 3 o.rm o.rn (o.disp.signExtend 64) t s

/-- FBGE (46_flow_control R568). -/
def execFbge (o : Br) (t : Tail) (s : State) : Host.Outcome State Fault Refusal :=
  branchFlt 5 4 o.rm o.rn (o.disp.signExtend 64) t s

/-- FBUGE (46_flow_control R569). -/
def execFbuge (o : Br) (t : Tail) (s : State) : Host.Outcome State Fault Refusal :=
  branchFlt 5 5 o.rm o.rn (o.disp.signExtend 64) t s

/-- FBLT (46_flow_control R570). -/
def execFblt (o : Br) (t : Tail) (s : State) : Host.Outcome State Fault Refusal :=
  branchFlt 5 6 o.rm o.rn (o.disp.signExtend 64) t s

/-- FBULT (46_flow_control R571). -/
def execFbult (o : Br) (t : Tail) (s : State) : Host.Outcome State Fault Refusal :=
  branchFlt 5 7 o.rm o.rn (o.disp.signExtend 64) t s

/-- FBLE (46_flow_control R572). -/
def execFble (o : Br) (t : Tail) (s : State) : Host.Outcome State Fault Refusal :=
  branchFlt 5 8 o.rm o.rn (o.disp.signExtend 64) t s

/-- FBULE (46_flow_control R573). -/
def execFbule (o : Br) (t : Tail) (s : State) : Host.Outcome State Fault Refusal :=
  branchFlt 5 9 o.rm o.rn (o.disp.signExtend 64) t s

/-- FBGL (46_flow_control R574). -/
def execFbgl (o : Br) (t : Tail) (s : State) : Host.Outcome State Fault Refusal :=
  branchFlt 5 10 o.rm o.rn (o.disp.signExtend 64) t s

/-- FBUGL (46_flow_control R575). -/
def execFbugl (o : Br) (t : Tail) (s : State) : Host.Outcome State Fault Refusal :=
  branchFlt 5 11 o.rm o.rn (o.disp.signExtend 64) t s

/-- FBORD (46_flow_control R576). -/
def execFbord (o : Br) (t : Tail) (s : State) : Host.Outcome State Fault Refusal :=
  branchFlt 5 12 o.rm o.rn (o.disp.signExtend 64) t s

/-- FBUN (46_flow_control R577). -/
def execFbun (o : Br) (t : Tail) (s : State) : Host.Outcome State Fault Refusal :=
  branchFlt 5 13 o.rm o.rn (o.disp.signExtend 64) t s

/-- LBEQ (46_flow_control R561). -/
def execLbeq (o : LBr) (t : Tail) (s : State) : Host.Outcome State Fault Refusal :=
  branchInt 6 0 o.rm o.rn (o.disp.signExtend 64) t s

/-- LBNE (46_flow_control R561). -/
def execLbne (o : LBr) (t : Tail) (s : State) : Host.Outcome State Fault Refusal :=
  branchInt 6 1 o.rm o.rn (o.disp.signExtend 64) t s

/-- LBLT (46_flow_control R561). -/
def execLblt (o : LBr) (t : Tail) (s : State) : Host.Outcome State Fault Refusal :=
  branchInt 6 2 o.rm o.rn (o.disp.signExtend 64) t s

/-- LBLE (46_flow_control R561). -/
def execLble (o : LBr) (t : Tail) (s : State) : Host.Outcome State Fault Refusal :=
  branchInt 6 3 o.rm o.rn (o.disp.signExtend 64) t s

/-- LBGE (46_flow_control R561). -/
def execLbge (o : LBr) (t : Tail) (s : State) : Host.Outcome State Fault Refusal :=
  branchInt 6 4 o.rm o.rn (o.disp.signExtend 64) t s

/-- LBGT (46_flow_control R561). -/
def execLbgt (o : LBr) (t : Tail) (s : State) : Host.Outcome State Fault Refusal :=
  branchInt 6 5 o.rm o.rn (o.disp.signExtend 64) t s

/-- LBBC (46_flow_control R563). -/
def execLbbc (o : LBr) (t : Tail) (s : State) : Host.Outcome State Fault Refusal :=
  branchInt 6 6 o.rm o.rn (o.disp.signExtend 64) t s

/-- LBBS (46_flow_control R563). -/
def execLbbs (o : LBr) (t : Tail) (s : State) : Host.Outcome State Fault Refusal :=
  branchInt 6 7 o.rm o.rn (o.disp.signExtend 64) t s

/-- LBBC with an immediate bit number (46_flow_control R563). -/
def execLbbcImm (o : LBr) (t : Tail) (s : State) : Host.Outcome State Fault Refusal :=
  branchBit 6 8 o.rm o.rn (o.disp.signExtend 64) t s

/-- LBBS with an immediate bit number (46_flow_control R563). -/
def execLbbsImm (o : LBr) (t : Tail) (s : State) : Host.Outcome State Fault Refusal :=
  branchBit 6 9 o.rm o.rn (o.disp.signExtend 64) t s

/-- LBLTU (46_flow_control R561). -/
def execLbltu (o : LBr) (t : Tail) (s : State) : Host.Outcome State Fault Refusal :=
  branchInt 6 10 o.rm o.rn (o.disp.signExtend 64) t s

/-- LBLEU (46_flow_control R561). -/
def execLbleu (o : LBr) (t : Tail) (s : State) : Host.Outcome State Fault Refusal :=
  branchInt 6 11 o.rm o.rn (o.disp.signExtend 64) t s

/-- LBGEU (46_flow_control R561). -/
def execLbgeu (o : LBr) (t : Tail) (s : State) : Host.Outcome State Fault Refusal :=
  branchInt 6 12 o.rm o.rn (o.disp.signExtend 64) t s

/-- LBGTU (46_flow_control R561). -/
def execLbgtu (o : LBr) (t : Tail) (s : State) : Host.Outcome State Fault Refusal :=
  branchInt 6 13 o.rm o.rn (o.disp.signExtend 64) t s

/-- LFBEQ (46_flow_control R561). -/
def execLfbeq (o : LBr) (t : Tail) (s : State) : Host.Outcome State Fault Refusal :=
  branchFlt 6 0 o.rm o.rn (o.disp.signExtend 64) t s

/-- LFBNE (46_flow_control R561). -/
def execLfbne (o : LBr) (t : Tail) (s : State) : Host.Outcome State Fault Refusal :=
  branchFlt 6 1 o.rm o.rn (o.disp.signExtend 64) t s

/-- LFBGT (46_flow_control R561). -/
def execLfbgt (o : LBr) (t : Tail) (s : State) : Host.Outcome State Fault Refusal :=
  branchFlt 6 2 o.rm o.rn (o.disp.signExtend 64) t s

/-- LFBUGT (46_flow_control R561). -/
def execLfbugt (o : LBr) (t : Tail) (s : State) : Host.Outcome State Fault Refusal :=
  branchFlt 6 3 o.rm o.rn (o.disp.signExtend 64) t s

/-- LFBGE (46_flow_control R561). -/
def execLfbge (o : LBr) (t : Tail) (s : State) : Host.Outcome State Fault Refusal :=
  branchFlt 6 4 o.rm o.rn (o.disp.signExtend 64) t s

/-- LFBUGE (46_flow_control R561). -/
def execLfbuge (o : LBr) (t : Tail) (s : State) : Host.Outcome State Fault Refusal :=
  branchFlt 6 5 o.rm o.rn (o.disp.signExtend 64) t s

/-- LFBLT (46_flow_control R561). -/
def execLfblt (o : LBr) (t : Tail) (s : State) : Host.Outcome State Fault Refusal :=
  branchFlt 6 6 o.rm o.rn (o.disp.signExtend 64) t s

/-- LFBULT (46_flow_control R561). -/
def execLfbult (o : LBr) (t : Tail) (s : State) : Host.Outcome State Fault Refusal :=
  branchFlt 6 7 o.rm o.rn (o.disp.signExtend 64) t s

/-- LFBLE (46_flow_control R561). -/
def execLfble (o : LBr) (t : Tail) (s : State) : Host.Outcome State Fault Refusal :=
  branchFlt 6 8 o.rm o.rn (o.disp.signExtend 64) t s

/-- LFBULE (46_flow_control R561). -/
def execLfbule (o : LBr) (t : Tail) (s : State) : Host.Outcome State Fault Refusal :=
  branchFlt 6 9 o.rm o.rn (o.disp.signExtend 64) t s

/-- LFBGL (46_flow_control R561). -/
def execLfbgl (o : LBr) (t : Tail) (s : State) : Host.Outcome State Fault Refusal :=
  branchFlt 6 10 o.rm o.rn (o.disp.signExtend 64) t s

/-- LFBUGL (46_flow_control R561). -/
def execLfbugl (o : LBr) (t : Tail) (s : State) : Host.Outcome State Fault Refusal :=
  branchFlt 6 11 o.rm o.rn (o.disp.signExtend 64) t s

/-- LFBORD (46_flow_control R561). -/
def execLfbord (o : LBr) (t : Tail) (s : State) : Host.Outcome State Fault Refusal :=
  branchFlt 6 12 o.rm o.rn (o.disp.signExtend 64) t s

/-- LFBUN (46_flow_control R561). -/
def execLfbun (o : LBr) (t : Tail) (s : State) : Host.Outcome State Fault Refusal :=
  branchFlt 6 13 o.rm o.rn (o.disp.signExtend 64) t s

/-- BRA (46_flow_control R546). -/
def execBra (disp : BitVec 29) (t : Tail) (s : State) : Host.Outcome State Fault Refusal :=
  branchAlways 5 (disp.signExtend 64) t s

/-- LBRA (46_flow_control R562). -/
def execLbra (disp : BitVec 37) (t : Tail) (s : State) : Host.Outcome State Fault Refusal :=
  branchAlways 6 (disp.signExtend 64) t s

/-- BSR (46_flow_control R547). -/
def execBsr (lr : BitVec 2) (disp : BitVec 29) (t : Tail) (s : State) : Host.Outcome State Fault Refusal :=
  branchLink 5 lr (disp.signExtend 64) t s

/-- LBSR (46_flow_control R562). -/
def execLbsr (lr : BitVec 2) (disp : BitVec 37) (t : Tail) (s : State) : Host.Outcome State Fault Refusal :=
  branchLink 6 lr (disp.signExtend 64) t s

end Sys2Proof.Machine
end

