-- ==== Sys2Proof/Machine/Jump.lean ====
section
/-! DEFINITION. Jumps, table jumps, returns from subroutines and exceptions, TRAP and BRK (46_flow_control R545, R553 to
R560; 60_exceptions R776). -/

namespace Sys2Proof.Machine

/-- A jump: link the address after the instruction, and go (46_flow_control R553, R554). -/
def jumpTo (len : Nat) (rt : Reg) (target : Addr) (s : State) : Acc Flow :=
  .ok (.goto target) (s.setReg rt ((s.pc + .ofNat 64 len).setWidth 128))

/-- The program counter from a value of `z` bytes read from memory: its low bits replaced, or the value added
(46_flow_control R553, R555). -/
def loadedPc (op : Bool) (z : Size) (v : Nat) (pc : Addr) : Addr :=
  let e := BitVec.ofNat z.bits v
  if op then pc + e.signExtend 64
  else (pc &&& ~~~((BitVec.allOnes z.bits).setWidth 64)) ||| e.setWidth 64

/-- A jump through memory: the read before the link (46_flow_control R553, R554). -/
def jumpInd (len : Nat) (rt : Reg) (op : Bool) (z : Size) (ea : Addr) (s : State) : Acc Flow :=
  (memRead ea z.bytes s).bind fun v s => jumpTo len rt (loadedPc op z v s.pc) s

/-- The address of the forms Imm15(Ra) (46_flow_control R553). -/
def jumpBase (ra : Reg) (imm : BitVec 15) (t : Tail) (s : State) : Addr :=
  (s.reg ra + immOr (imm.signExtend 128) t).setWidth 64

/-- The address of the forms d(Ra, Rb) (46_flow_control R553). -/
def jumpIndex (ra rb : Reg) (z : Size) (t : Tail) (s : State) : Addr :=
  (s.reg ra + s.reg rb * .ofNat 128 z.bytes + immOr 0 t).setWidth 64

/-- JMP Imm15(Ra) (46_flow_control R553). -/
def execJmp (o : JmpA) (t : Tail) (s : State) : Host.Outcome State Fault Refusal :=
  runTail 5 t (fun s => jumpTo (5 + t.len) 0 (jumpBase o.ra o.imm t s) s) s

/-- JMP [Imm15(Ra)] (46_flow_control R553). -/
def execJmpInd (o : JmpB) (t : Tail) (s : State) : Host.Outcome State Fault Refusal :=
  runTail 5 t (fun s => jumpInd (5 + t.len) 0 o.op o.size (jumpBase o.ra o.imm t s) s) s

/-- JMP d(Ra, Rb) (46_flow_control R553). -/
def execJmpIdx (o : JmpC) (t : Tail) (s : State) : Host.Outcome State Fault Refusal :=
  runTail 5 t (fun s => jumpTo (5 + t.len) 0 (jumpIndex o.ra o.rb o.scale t s) s) s

/-- JMP [d(Ra, Rb)] (46_flow_control R553). -/
def execJmpIdxInd (o : JmpD) (t : Tail) (s : State) : Host.Outcome State Fault Refusal :=
  runTail 5 t (fun s => jumpInd (5 + t.len) 0 o.op o.scale (jumpIndex o.ra o.rb o.scale t s) s) s

/-- JSR Imm15(Ra) (46_flow_control R554). -/
def execJsr (o : JmpA) (t : Tail) (s : State) : Host.Outcome State Fault Refusal :=
  runTail 5 t (fun s => jumpTo (5 + t.len) o.rt (jumpBase o.ra o.imm t s) s) s

/-- JSR [Imm15(Ra)] (46_flow_control R554). -/
def execJsrInd (o : JmpB) (t : Tail) (s : State) : Host.Outcome State Fault Refusal :=
  runTail 5 t (fun s => jumpInd (5 + t.len) o.rt o.op o.size (jumpBase o.ra o.imm t s) s) s

/-- JSR d(Ra, Rb) (46_flow_control R554). -/
def execJsrIdx (o : JmpC) (t : Tail) (s : State) : Host.Outcome State Fault Refusal :=
  runTail 5 t (fun s => jumpTo (5 + t.len) o.rt (jumpIndex o.ra o.rb o.scale t s) s) s

/-- JSR [d(Ra, Rb)] (46_flow_control R554). -/
def execJsrIdxInd (o : JmpD) (t : Tail) (s : State) : Host.Outcome State Fault Refusal :=
  runTail 5 t (fun s => jumpInd (5 + t.len) o.rt o.op o.scale (jumpIndex o.ra o.rb o.scale t s) s) s

/-- A table jump: Table Limit, vector 66, beyond the limit; else through the table after the instruction
(46_flow_control R555). -/
def tableJump (len : Nat) (rt : Reg) (o : TabJ) (s : State) : Acc Flow :=
  let off := (s.reg o.ra).toNat * o.size.bytes
  if o.limit.toNat < off then .trap ⟨66, none⟩ s
  else jumpInd len rt o.op o.size (s.pc + .ofNat 64 len + .ofNat 64 off) s

/-- BRA [(Ra)],Limit (46_flow_control R555). -/
def execBraTable (o : TabJ) (t : Tail) (s : State) : Host.Outcome State Fault Refusal :=
  runTail 5 t (tableJump (5 + t.len) 0 o) s

/-- BSR [(Ra)],Limit (46_flow_control R555). -/
def execBsrTable (o : TabJ) (t : Tail) (s : State) : Host.Outcome State Fault Refusal :=
  runTail 5 t (tableJump (5 + t.len) o.rt o) s

/-- The sum of ADD at a size, in a register (46_flow_control R556). -/
def addTo (z : Size) (st : Bool) (rt : Reg) (a b : BitVec z.bits) (s : State) : State :=
  s.setReg rt (result .neg st .sign (a + b))

/-- RTD: add, and load the program counter from the link register as it was (46_flow_control R556). -/
def rtdReg (o : RtdR) (rt : Reg) (st : Bool) (t : Tail) (s : State) : Host.Outcome State Fault Refusal :=
  runTail 5 t (fun s => .ok (.goto ((s.reg (linkReg o.lr)).setWidth 64))
    (addTo o.size st rt ((srcOf false o.ra).value .neg o.sa s o.size.bits 0)
      ((srcB false o.rb t).value .neg o.sb s o.size.bits 0) s)) s

/-- RTD, immediate form: the immediate is a multiple of 16 (46_flow_control R556). -/
def rtdImm (o : RtdI) (rt : Reg) (st : Bool) (t : Tail) (s : State) : Host.Outcome State Fault Refusal :=
  runTail 5 t (fun s => .ok (.goto ((s.reg (linkReg o.lr)).setWidth 64))
    (addTo o.size st rt ((srcOf false o.ra).value .neg o.sa s o.size.bits 0)
      ((immOr ((o.imm ++ 0#4).signExtend 128) t).setWidth o.size.bits) s)) s

/-- RTD, register form (46_flow_control R556). -/
def execRtdReg (o : RtdR) (t : Tail) (s : State) : Host.Outcome State Fault Refusal := rtdReg o o.rt o.st t s
/-- RTS, register encoding: RTD to r0 (46_flow_control R557). -/
def execRtsReg (o : RtdR) (t : Tail) (s : State) : Host.Outcome State Fault Refusal := rtdReg o 0 false t s
/-- RTD, immediate form (46_flow_control R556). -/
def execRtdImm (o : RtdI) (t : Tail) (s : State) : Host.Outcome State Fault Refusal := rtdImm o o.rt o.st t s
/-- RTS, immediate encoding: RTD to r0 (46_flow_control R557). -/
def execRtsImm (o : RtdI) (t : Tail) (s : State) : Host.Outcome State Fault Refusal := rtdImm o 0 false t s

/-- Return from exception through `d` slots: the stack pointer moves by Arg hexis in the mode returned to
(60_exceptions R776). -/
def rteOp (d : Nat) (o : RteOp) (s : State) : Acc Flow :=
  (rteState d o.skip s).bind fun pc s => .ok (.goto pc)
    (addTo o.size o.st o.rt ((srcOf false o.ra).value .neg o.sa s o.size.bits 0) (.ofNat o.size.bits (16 * o.arg.toNat)) s)

/-- RTE, one level (46_flow_control R558; 60_exceptions R776). -/
def execRte1 (o : RteOp) (t : Tail) (s : State) : Host.Outcome State Fault Refusal := runTail 5 t (rteOp 1 o) s
/-- RTE, two levels (46_flow_control R558; 60_exceptions R776). -/
def execRte2 (o : RteOp) (t : Tail) (s : State) : Host.Outcome State Fault Refusal := runTail 5 t (rteOp 2 o) s

/-- Take a trap: the data to Rt, then the exception, the address after the instruction stacked; trap number 0 is the
breakpoint, 32 (46_flow_control R545, R560). -/
def trapOp (n : BitVec 9) (rt : Reg) (data : Word) (t : Tail) (s : State) : Host.Outcome State Fault Refusal :=
  if s.predOk then
    enter .sync (if n = 0 then 32 else n) (s.pc + .ofNat 64 (5 + t.len)) none { s.setReg rt data with retire := .trap }
  else skip (5 + t.len) s

/-- BRK (46_flow_control R545). -/
def execBrk (t : Tail) (s : State) : Host.Outcome State Fault Refusal := trapOp 32 0 0 t s

/-- TRAP, the number in Ra (46_flow_control R560). -/
def execTrapRa (o : TrapR) (t : Tail) (s : State) : Host.Outcome State Fault Refusal :=
  trapOp ((decorate .compl o.sa (s.reg o.ra)).setWidth 9) o.rt (immOr (o.data.signExtend 128) t) t s

/-- TRAP, the number in the instruction (46_flow_control R560). -/
def execTrapImm (o : TrapI) (t : Tail) (s : State) : Host.Outcome State Fault Refusal :=
  trapOp o.vec o.rt (immOr (o.data.signExtend 128) t) t s

end Sys2Proof.Machine
end

