-- ==== Sys2Proof/Machine/Load.lean ====
section
/-! DEFINITION. Addresses of memory operands, loads and address computation (47_memory_ops R580 to R597, R610, R616;
30_encoding R236). -/

namespace Sys2Proof.Machine

/-! Addresses. -/

/-- The displacement: the field, or a constant of the postfixes (47_memory_ops R582, R585). -/
def dispOr (field : Addr) (t : Tail) : Addr :=
  match t.const with
  | some c => c.setWidth 64
  | none => field

/-- The effective address of the displacement format (47_memory_ops R582). -/
def eaDisp (o : MemD) (t : Tail) (s : State) : Addr := (s.reg o.rb).setWidth 64 + dispOr (o.disp.signExtend 64) t

/-- The scale of an index for operands of `n` bytes (47_memory_ops R585). -/
def indexScale (sc : Bool) (n : Nat) : Nat := if sc then n else 1
/-- The step of an index update (47_memory_ops R585). -/
def indexStep (sc : Bool) (n : Nat) : Nat := if sc then 1 else n

/-- Base, scaled index and displacement (47_memory_ops R585). -/
def eaIndex (o : MemX) (n : Nat) (t : Tail) (idx : Word) (s : State) : Addr :=
  (s.reg o.rb).setWidth 64 + idx.setWidth 64 * .ofNat 64 (indexScale o.sc n) + dispOr 0 t

/-- The effective address of the indexed format for an operand of `n` bytes, and the value the index register is to get
after the access, sums being modulo 2^64 (47_memory_ops R585; log 30). -/
def eaIndexed (o : MemX) (n : Nat) (t : Tail) (s : State) : Acc (Addr × Option Word) :=
  let idx := s.reg o.rc
  let step : Addr := .ofNat 64 (indexStep o.sc n)
  let after : Word := (idx.setWidth 64 + step).setWidth 128
  let before : Word := (idx.setWidth 64 - step).setWidth 128
  match o.u2.toNat with
  | 0 => .ok (eaIndex o n t idx s, none) s
  | 1 => .ok (eaIndex o n t idx s, some after) s
  | 2 => .ok (eaIndex o n t before s, some before) s
  | _ => (memRead (eaIndex o n t idx s) 8 s).map fun p => (.ofNat 64 p, none)

/-- Update the index register. -/
def State.setIndex (s : State) (rc : Reg) (v : Option Word) : State :=
  match v with
  | some w => s.setReg rc w
  | none => s

/-! Register lists. -/

/-- A register a load writes or a store reads: by number, or a stack pointer by its mode. -/
inductive Tgt where
  | reg (r : Reg)
  | bank (m : BitVec 2)
deriving DecidableEq, Repr

/-- The register of a bit of a REGS list (30_encoding R236). -/
def regsBit (i : Nat) : Tgt :=
  if i < 3 then .reg (.ofNat 6 (1 + i))
  else if i < 20 then .reg (.ofNat 6 (8 + (i - 3)))
  else if i = 20 then .reg 32
  else if i = 21 then .reg 55
  else if i = 22 then .reg 56
  else if i = 23 then .reg 61
  else if i = 24 then .reg 62
  else if i < 29 then .reg (.ofNat 6 (4 + (i - 25)))
  else if i < 33 then .reg (.ofNat 6 (40 + (i - 29)))
  else if i < 37 then .reg (.ofNat 6 (44 + (i - 33)))
  else if i < 44 then .reg (.ofNat 6 (25 + (i - 37)))
  else if i < 51 then .reg (.ofNat 6 (33 + (i - 44)))
  else if i < 54 then .reg (.ofNat 6 (57 + (i - 51)))
  else if i = 54 then .reg 52
  else if i = 55 then .reg 60
  else if i = 56 then .reg 54
  else if i < 61 then .reg (.ofNat 6 (48 + (i - 57)))
  else .bank (.ofNat 2 (i - 61))

/-- The registers of a REGS list in ascending list-bit order (47_memory_ops R584). -/
def regsList (t : Tail) : List Tgt :=
  match t.regs with
  | some l => ((List.range 64).filter fun i => l.getLsbD i).map regsBit
  | none => []

/-! Loads. -/

/-- The value of a load of `n` bytes at an address. -/
abbrev Get := Addr → State → Acc Word

/-- LOAD: sign-extended (47_memory_ops R590). -/
def getSigned (z : Size) (a : Addr) (s : State) : Acc Word :=
  (memRead a z.bytes s).map fun v => (BitVec.ofNat z.bits v).signExtend 128
/-- LOADZ: zero-extended (47_memory_ops R592). -/
def getZero (z : Size) (a : Addr) (s : State) : Acc Word :=
  (memRead a z.bytes s).map fun v => (BitVec.ofNat z.bits v).setWidth 128
/-- FLOAD: converted to quad precision (47_memory_ops R596). -/
def getFloat (p : Prec) (a : Addr) (s : State) : Acc Word := (memRead a p.bytes s).bind fun v s => toQuad p v s

/-- A loaded value to its register; to r53 it is only compared with the stack canary (47_memory_ops R590). -/
def loadTo (t : Tgt) (v : Word) (s : State) : Acc Unit :=
  match t with
  | .reg r => if r = 53 then (if v = s.sc then .ok () s else .trap ⟨11, none⟩ s) else .ok () (s.setReg r v)
  | .bank m => .ok () (s.setBank m v)

/-- Loads to several registers, `n` bytes apart (47_memory_ops R584). -/
def loadMany (n : Nat) (get : Get) : List Tgt → Addr → State → Acc Unit
  | [], _, s => .ok () s
  | t :: ts, a, s =>
    (get a s).bind fun v s => (loadTo t v s).bind fun _ s => loadMany n get ts (a + .ofNat 64 n) s

/-- A scalar load, with the registers of a REGS list (47_memory_ops R584). -/
def loadScalar (n : Nat) (get : Get) (rt : Reg) (t : Tail) (a : Addr) (s : State) : Acc Flow :=
  (loadMany n get (.reg rt :: regsList t) a s).map fun _ => .seq

/-- A load in the displacement format: `n` bytes a transfer, elements of width `w` (47_memory_ops R582, R587). A
REGS list of a vector load is ignored, by the model's choice (R584; log 30), as in the indexed format. -/
def loadDisp (n w : Nat) (get : Get) (o : MemD) (x : Ext) (s : State) : Host.Outcome State Fault Refusal :=
  runExt x o.vd
    (fun s =>
      if o.vd then alu w true o.rt x.mask (fun k => get (eaDisp o x.tail s + .ofNat 64 (k * n))) s
      else loadScalar n get o.rt x.tail (eaDisp o x.tail s) s) s

/-- The address of element k in the indexed format: consecutive, or through an index vector (47_memory_ops R587). -/
def elemAddr (o : MemX) (n w : Nat) (t : Tail) (s : State) (k : Nat) : Addr :=
  if o.vec = .gather then eaIndex o n t ((s.elem w o.rc k).setWidth 128) s
  else eaIndex o n t (s.reg o.rc) s + .ofNat 64 (k * n)

/-- A load in the indexed format; where Rt is the index register the loaded value stays; where a REGS list loads it, the old
index plus the step is written over what was loaded (47_memory_ops R584, R585, R587; log 30). By the model's choice a load
to r53 that differs from the stack canary updates no index, and one with Rt = Rc = 53 is compared with the canary as it was,
no update being made at all (R585, R590; log 30). -/
def loadIndexed (n w : Nat) (get : Get) (o : MemX) (x : Ext) (s : State) : Host.Outcome State Fault Refusal :=
  runExt x (o.vec != .scalar)
    (fun s =>
      if o.vec = .scalar then
        (eaIndexed o n x.tail s).bind fun ea s =>
          (loadScalar n get o.rt x.tail ea.1 s).bind fun f s =>
            .ok f (if o.rt = o.rc then s else s.setIndex o.rc ea.2)
      else alu w true o.rt x.mask (fun k => get (elemAddr o n w x.tail s k)) s) s

/-- LOAD, displacement format (47_memory_ops R590). -/
def execLoad (z : Size) (o : MemD) (x : Ext) (s : State) : Host.Outcome State Fault Refusal :=
  loadDisp z.bytes z.bits (getSigned z) o x s
/-- LOAD, indexed format (47_memory_ops R590). -/
def execLoadX (z : Size) (o : MemX) (x : Ext) (s : State) : Host.Outcome State Fault Refusal :=
  loadIndexed z.bytes z.bits (getSigned z) o x s
/-- LOADZ, displacement format (47_memory_ops R592). -/
def execLoadz (z : Size) (o : MemD) (x : Ext) (s : State) : Host.Outcome State Fault Refusal :=
  loadDisp z.bytes z.bits (getZero z) o x s
/-- LOADZ, indexed format (47_memory_ops R592). -/
def execLoadzX (z : Size) (o : MemX) (x : Ext) (s : State) : Host.Outcome State Fault Refusal :=
  loadIndexed z.bytes z.bits (getZero z) o x s
/-- FLOAD, displacement format (47_memory_ops R596). -/
def execFload (p : Prec) (o : MemD) (x : Ext) (s : State) : Host.Outcome State Fault Refusal :=
  loadDisp p.bytes 128 (getFloat p) o x s
/-- FLOAD, indexed format (47_memory_ops R596). -/
def execFloadX (p : Prec) (o : MemX) (x : Ext) (s : State) : Host.Outcome State Fault Refusal :=
  loadIndexed p.bytes 128 (getFloat p) o x s

/-- LA, displacement format: no access (47_memory_ops R610). -/
def execLa (o : MemD) (x : Ext) (s : State) : Host.Outcome State Fault Refusal :=
  runExt x false (fun s => .ok .seq (s.setReg o.rt ((eaDisp o x.tail s).setWidth 128))) s

/-- LA, indexed format: the index is updated first (47_memory_ops R610, R585). -/
def execLaX (o : MemX) (x : Ext) (s : State) : Host.Outcome State Fault Refusal :=
  runExt x false
    (fun s => (eaIndexed o 1 x.tail s).bind fun ea s =>
      .ok .seq ((s.setIndex o.rc ea.2).setReg o.rt (ea.1.setWidth 128))) s

/-! Register groups. -/

/-- Register i of a group, and the lowest bit of the half the group names (47_memory_ops R616). -/
def groupReg (g : Reg) (i : Nat) : Reg := .ofNat 6 (8 * (g.toNat % 8) + i)
def groupLo (g : Reg) : Nat := 64 * (g.toNat / 8 % 2)

/-- Half of a register replaced. -/
def putHalf (v : Word) (lo : Nat) (h : BitVec 64) : Word :=
  (v &&& ~~~(((BitVec.allOnes 64).setWidth 128) <<< lo)) ||| (h.setWidth 128 <<< lo)

/-- A bit of the register mask of a group; without a mask every register takes part (47_memory_ops R616). -/
def groupBit (m : Option (BitVec 8)) (i : Nat) : Bool :=
  match m with
  | some b => b.getLsbD i
  | none => true

/-- The registers of a group from a block of 64 bytes; r0 and r53 are skipped (47_memory_ops R616). -/
def loadGroup (g : Reg) (m : Option (BitVec 8)) (blk : BitVec 512) (s : State) : State :=
  (List.range 8).foldl (fun s i =>
    let r := groupReg g i
    if groupBit m i && r != 0 && r != 53 then s.setReg r (putHalf (s.reg r) (groupLo g) (blk.extractLsb' (64 * i) 64))
    else s) s

/-- LOADG, displacement format (47_memory_ops R616). -/
def execLoadg (o : MemD) (m : Option (BitVec 8)) (t : Tail) (s : State) : Host.Outcome State Fault Refusal :=
  runTail (5 + m.isSome.toNat) t
    (fun s => (memRead (eaDisp o t s) 64 s).bind fun v s => .ok .seq (loadGroup o.rt m (.ofNat 512 v) s)) s

/-- LOADG, indexed format (47_memory_ops R616). -/
def execLoadgX (o : MemX) (m : Option (BitVec 8)) (t : Tail) (s : State) : Host.Outcome State Fault Refusal :=
  runTail (5 + m.isSome.toNat) t
    (fun s => (eaIndexed o 64 t s).bind fun ea s => (memRead ea.1 64 s).bind fun v s =>
      .ok .seq (loadGroup o.rt m (.ofNat 512 v) (s.setIndex o.rc ea.2))) s

end Sys2Proof.Machine
end

