-- ==== Sys2Proof/Machine/Store.lean ====
section
/-! DEFINITION. Stores, register groups, pairs, pointers and CACHE (47_memory_ops R600 to R617). -/

namespace Sys2Proof.Machine

/-- A store of a register value at an address. -/
abbrev Put := Addr → Word → State → Acc Unit

/-- The low bytes of a value (47_memory_ops R600). -/
def putLow (z : Size) (a : Addr) (v : Word) (s : State) : Acc Unit := memWrite a z.bytes (v.setWidth z.bits).toNat s

/-- A quad value in a storage format, rounded by ROUND's mode or the float control register's (47_memory_ops R606). -/
def putFloat (p : Prec) (a : Addr) (v : Word) (s : State) : Acc Unit :=
  (fromQuad p s.rmImm v s).bind fun r s => memWrite a p.bytes r s

/-- The value of a register of a list. -/
def Tgt.value (t : Tgt) (s : State) : Word :=
  match t with
  | .reg r => s.reg r
  | .bank m => s.bank m

/-- Stores of several registers, `n` bytes apart (47_memory_ops R584). -/
def storeMany (n : Nat) (put : Put) : List Tgt → Addr → State → Acc Unit
  | [], _, s => .ok () s
  | t :: ts, a, s => (put a (t.value s) s).bind fun _ s => storeMany n put ts (a + .ofNat 64 n) s

/-- A scalar store of `v`, then of the registers of a REGS list (47_memory_ops R584). -/
def storeScalar (n : Nat) (put : Put) (v : Word) (t : Tail) (a : Addr) (s : State) : Acc Flow :=
  (put a v s).bind fun _ s => (storeMany n put (regsList t) (a + .ofNat 64 n) s).map fun _ => .seq

/-- The elements of a vector store from element k on (47_memory_ops R587). -/
def storeLoop (w : Nat) (ra : Reg) (m : Word) (put : Put) (addr : Nat → Addr) : Nat → Nat → State → Acc Unit
  | 0, _, s => .ok () s
  | n + 1, k, s =>
    if m.getLsbD k then
      match put (addr k) ((s.elem w ra k).setWidth 128) s with
      | .ok _ s => storeLoop w ra m put addr n (k + 1) s
      | .trap e s => .trap e { s with vrm := BitVec.allOnes 128 <<< k, verr := s.verr ||| (1#128 <<< k) }
      | .refuse r => .refuse r
    else storeLoop w ra m put addr n (k + 1) s

/-- A vector store. -/
def storeVec (w : Nat) (put : Put) (ra : Reg) (m : Option MaskByte) (addr : Nat → Addr) (s : State) : Acc Flow :=
  (storeLoop w ra (s.vecMask m) put addr (s.elems w) 0 s).bind fun _ s => .ok .seq { s with vrm := BitVec.allOnes 128 }

/-- A store in the displacement format of the scalar `v` (47_memory_ops R582, R587). A REGS list of a vector store is
ignored, by the model's choice (R584; log 30), as in the indexed format. -/
def storeDisp (n w : Nat) (put : Put) (v : State → Word) (o : MemD) (x : Ext) (s : State) :
    Host.Outcome State Fault Refusal :=
  runExt x o.vd
    (fun s =>
      if o.vd then storeVec w put o.rt x.mask (fun k => eaDisp o x.tail s + .ofNat 64 (k * n)) s
      else storeScalar n put (v s) x.tail (eaDisp o x.tail s) s) s

/-- A store in the indexed format of the scalar `v` (47_memory_ops R585, R587). -/
def storeIndexed (n w : Nat) (put : Put) (v : State → Word) (o : MemX) (x : Ext) (s : State) :
    Host.Outcome State Fault Refusal :=
  runExt x (o.vec != .scalar)
    (fun s =>
      if o.vec = .scalar then
        (eaIndexed o n x.tail s).bind fun ea s =>
          (storeScalar n put (v s) x.tail ea.1 s).bind fun f s => .ok f (s.setIndex o.rc ea.2)
      else storeVec w put o.rt x.mask (elemAddr o n w x.tail s) s) s

/-- STORE, displacement format: r53 is the stack canary (47_memory_ops R600). -/
def execStore (z : Size) (o : MemD) (x : Ext) (s : State) : Host.Outcome State Fault Refusal :=
  storeDisp z.bytes z.bits (putLow z) (fun s => s.storeReg o.rt) o x s
/-- STORE, indexed format (47_memory_ops R600). -/
def execStoreX (z : Size) (o : MemX) (x : Ext) (s : State) : Host.Outcome State Fault Refusal :=
  storeIndexed z.bytes z.bits (putLow z) (fun s => s.storeReg o.rt) o x s
/-- FSTORE, displacement format (47_memory_ops R606). -/
def execFstore (p : Prec) (o : MemD) (x : Ext) (s : State) : Host.Outcome State Fault Refusal :=
  storeDisp p.bytes 128 (putFloat p) (fun s => s.reg o.rt) o x s
/-- FSTORE, indexed format (47_memory_ops R606). -/
def execFstoreX (p : Prec) (o : MemX) (x : Ext) (s : State) : Host.Outcome State Fault Refusal :=
  storeIndexed p.bytes 128 (putFloat p) (fun s => s.reg o.rt) o x s

/-- STPTR, displacement format: a store; the card tables are outside the model (47_memory_ops R611; log 50). -/
def stptr (z : Size) (o : MemD) (x : Ext) (s : State) : Host.Outcome State Fault Refusal :=
  runExt x false (fun s => storeScalar z.bytes (putLow z) (s.reg o.rt) Tail.empty (eaDisp o x.tail s) s) s
/-- STPTR, indexed format (47_memory_ops R611; log 50). -/
def stptrX (z : Size) (o : MemX) (x : Ext) (s : State) : Host.Outcome State Fault Refusal :=
  runExt x false
    (fun s => (eaIndexed o z.bytes x.tail s).bind fun ea s =>
      (storeScalar z.bytes (putLow z) (s.reg o.rt) Tail.empty ea.1 s).bind fun f s => .ok f (s.setIndex o.rc ea.2)) s

/-- STPTR.t (47_memory_ops R611). -/
def execStptrT (o : MemD) (x : Ext) (s : State) : Host.Outcome State Fault Refusal := stptr .t o x s
/-- STPTR.t, indexed (47_memory_ops R611). -/
def execStptrTX (o : MemX) (x : Ext) (s : State) : Host.Outcome State Fault Refusal := stptrX .t o x s
/-- STPTR.o (47_memory_ops R611). -/
def execStptrO (o : MemD) (x : Ext) (s : State) : Host.Outcome State Fault Refusal := stptr .o o x s
/-- STPTR.o, indexed (47_memory_ops R611). -/
def execStptrOX (o : MemX) (x : Ext) (s : State) : Host.Outcome State Fault Refusal := stptrX .o o x s
/-- STPTR.h (47_memory_ops R611). -/
def execStptrH (o : MemD) (x : Ext) (s : State) : Host.Outcome State Fault Refusal := stptr .h o x s
/-- STPTR.h, indexed (47_memory_ops R611). -/
def execStptrHX (o : MemX) (x : Ext) (s : State) : Host.Outcome State Fault Refusal := stptrX .h o x s

/-- The 512 bits a group store writes (47_memory_ops R617). -/
def groupBlock (g : Reg) (m : Option (BitVec 8)) (s : State) : BitVec 512 :=
  (List.range 8).foldl (fun (b : BitVec 512) i =>
    if groupBit m i then putElem b i ((s.reg (groupReg g i)).extractLsb' (groupLo g) 64) else b) 0

/-- STOREG, displacement format (47_memory_ops R617). -/
def execStoreg (o : MemD) (m : Option (BitVec 8)) (t : Tail) (s : State) : Host.Outcome State Fault Refusal :=
  runTail (5 + m.isSome.toNat) t
    (fun s => (memWrite (eaDisp o t s) 64 (groupBlock o.rt m s).toNat s).map fun _ => .seq) s

/-- STOREG, indexed format (47_memory_ops R617). -/
def execStoregX (o : MemX) (m : Option (BitVec 8)) (t : Tail) (s : State) : Host.Outcome State Fault Refusal :=
  runTail (5 + m.isSome.toNat) t
    (fun s => (eaIndexed o 64 t s).bind fun ea s =>
      (memWrite ea.1 64 (groupBlock o.rt m s).toNat s).bind fun _ s => .ok .seq (s.setIndex o.rc ea.2)) s

/-- STORE_PAIR (47_memory_ops R615). -/
def execStorePair (o : Pair) (x : Ext) (s : State) : Host.Outcome State Fault Refusal :=
  runExt x false
    (fun s =>
      let ea := (s.reg o.ra).setWidth 64 + dispOr (o.disp.signExtend 64) x.tail
      (putLow o.size ea (s.reg o.rb) s).bind fun _ s =>
        (putLow o.size (ea + .ofNat 64 o.size.bytes) (s.reg o.rc) s).map fun _ => .seq) s

/-! CACHE. -/

/-- An entry made invalid. -/
def killEntry (e : TlbEntry) : TlbEntry := { e with pte := e.pte &&& ~~~BitVec.twoPow 96 31 }

/-- Every entry invalid: the current count moves on, and an entry left over from the last time round is cleared
(20_memory R145; 47_memory_ops R612; log 34). -/
def Tlb.invalidate (t : Tlb) : Tlb :=
  { t with
    count := t.count + 1
    entries := t.entries.map fun e => (e.1, if e.2.count = t.count + 1 then killEntry e.2 else e.2) }

/-- Every entry that translates an address invalid (47_memory_ops R612). -/
def State.tlbInvalidateEntry (s : State) (va : Addr) : State :=
  let va := s.virt va
  { s with tlb := (s.hits va).foldl (fun t way => t.put (waySlot way va) (killEntry (t.get (waySlot way va)))) s.tlb }

/-- A CACHE command: an instruction-cache invalidate ends what a fetch may see of old bytes; the data-cache commands
have no effect (47_memory_ops R612). -/
def cacheCommand (cmd : BitVec 6) (ea : Addr) (s : State) : State :=
  match (cmd.extractLsb' 0 3).toNat with
  | 0 => { s with stale := [] }
  | 1 => { s with stale := [] }
  | 4 => { s with tlb := s.tlb.invalidate }
  | 5 => s.tlbInvalidateEntry ea
  | _ => s

/-- CACHE, displacement format (47_memory_ops R612). -/
def execCache (o : MemD) (x : Ext) (s : State) : Host.Outcome State Fault Refusal :=
  runExt x false (fun s => .ok .seq (cacheCommand o.rt (eaDisp o x.tail s) s)) s

/-- CACHE, indexed format, which has no address modes (47_memory_ops R612). -/
def execCacheX (o : MemX) (x : Ext) (s : State) : Host.Outcome State Fault Refusal :=
  runExt x false (fun s => .ok .seq (cacheCommand o.rt (eaIndex o 1 x.tail (s.reg o.rc) s) s)) s

end Sys2Proof.Machine
end

