-- ==== Sys2Proof/Machine/Atomic.lean ====
section
/-! DEFINITION. Atomic memory operations and compare-and-exchange (47_memory_ops R614, R620 to R628). -/

namespace Sys2Proof.Machine

/-- A read-modify-write of `z` bytes at the address in Ra, the old value sign-extended to Rt (47_memory_ops R620). -/
def amo (z : Size) (rt ra : Reg) (f : BitVec z.bits → Option (BitVec z.bits)) (s : State) : Acc Flow :=
  (atomic ((s.reg ra).setWidth 64) z.bytes (fun v => (f (.ofNat z.bits v)).map BitVec.toNat) s).bind fun old s =>
    .ok .seq (s.setReg rt ((BitVec.ofNat z.bits old).signExtend 128))

/-- The register form of an atomic operation (47_memory_ops R620). -/
def amoR (f : (w : Nat) → BitVec w → BitVec w → BitVec w) (o : AmoR) (x : Ext) (s : State) :
    Host.Outcome State Fault Refusal :=
  runExt x false (fun s => amo o.size o.rt o.ra
    (fun v => some (f o.size.bits v ((srcB false o.rb x.tail).value .plain false s o.size.bits 0))) s) s

/-- The immediate form of an atomic operation (47_memory_ops R620). -/
def amoI (f : (w : Nat) → BitVec w → BitVec w → BitVec w) (o : AmoI) (x : Ext) (s : State) :
    Host.Outcome State Fault Refusal :=
  runExt x false (fun s => amo o.size o.rt o.ra
    (fun v => some (f o.size.bits v ((immOr (o.imm.signExtend 128) x.tail).setWidth o.size.bits))) s) s

/-- AMADD (47_memory_ops R621). -/
def execAmadd (o : AmoR) (x : Ext) (s : State) : Host.Outcome State Fault Refusal := amoR (fun _ v b => v + b) o x s
/-- AMADD, immediate form (47_memory_ops R621). -/
def execAmaddImm (o : AmoI) (x : Ext) (s : State) : Host.Outcome State Fault Refusal := amoI (fun _ v b => v + b) o x s
/-- AMAND (47_memory_ops R622). -/
def execAmand (o : AmoR) (x : Ext) (s : State) : Host.Outcome State Fault Refusal := amoR (fun _ v b => v &&& b) o x s
/-- AMAND, immediate form (47_memory_ops R622). -/
def execAmandImm (o : AmoI) (x : Ext) (s : State) : Host.Outcome State Fault Refusal := amoI (fun _ v b => v &&& b) o x s
/-- AMASL (47_memory_ops R623). -/
def execAmasl (o : AmoR) (x : Ext) (s : State) : Host.Outcome State Fault Refusal :=
  amoR (fun _ v b => v <<< (b.toNat % 128)) o x s
/-- AMASL, immediate form (47_memory_ops R623). -/
def execAmaslImm (o : AmoI) (x : Ext) (s : State) : Host.Outcome State Fault Refusal :=
  amoI (fun _ v b => v <<< (b.toNat % 128)) o x s
/-- AMEOR (47_memory_ops R624). -/
def execAmeor (o : AmoR) (x : Ext) (s : State) : Host.Outcome State Fault Refusal := amoR (fun _ v b => v ^^^ b) o x s
/-- AMEOR, immediate form (47_memory_ops R624). -/
def execAmeorImm (o : AmoI) (x : Ext) (s : State) : Host.Outcome State Fault Refusal := amoI (fun _ v b => v ^^^ b) o x s
/-- AMLSR (47_memory_ops R625). -/
def execAmlsr (o : AmoR) (x : Ext) (s : State) : Host.Outcome State Fault Refusal :=
  amoR (fun _ v b => v >>> (b.toNat % 128)) o x s
/-- AMLSR, immediate form (47_memory_ops R625). -/
def execAmlsrImm (o : AmoI) (x : Ext) (s : State) : Host.Outcome State Fault Refusal :=
  amoI (fun _ v b => v >>> (b.toNat % 128)) o x s
/-- AMMIN (47_memory_ops R626). -/
def execAmmin (o : AmoR) (x : Ext) (s : State) : Host.Outcome State Fault Refusal :=
  amoR (fun _ v b => if b.slt v then b else v) o x s
/-- AMMINU (47_memory_ops R627). -/
def execAmminu (o : AmoR) (x : Ext) (s : State) : Host.Outcome State Fault Refusal :=
  amoR (fun _ v b => if b.ult v then b else v) o x s
/-- AMOR (47_memory_ops R628). -/
def execAmor (o : AmoR) (x : Ext) (s : State) : Host.Outcome State Fault Refusal := amoR (fun _ v b => v ||| b) o x s
/-- AMOR, immediate form (47_memory_ops R628). -/
def execAmorImm (o : AmoI) (x : Ext) (s : State) : Host.Outcome State Fault Refusal := amoI (fun _ v b => v ||| b) o x s

/-- CMPXCHG (47_memory_ops R614). -/
def execCmpxchg (o : Xchg) (x : Ext) (s : State) : Host.Outcome State Fault Refusal :=
  runExt x false (fun s => amo o.size o.rt o.ra
    (fun v => if v = (s.reg o.rb).setWidth o.size.bits then some ((s.reg o.rc).setWidth o.size.bits) else none) s) s

end Sys2Proof.Machine
end

