-- ==== Sys2Proof/Machine/Block.lean ====
section
/-! DEFINITION. Block compare, find, move and set: one iteration a step (43_string_block R460 to R466; log 29). -/

namespace Sys2Proof.Machine

/-- A register moved by an amount, on all 128 bits; where the amount is zero it is not written (43_string_block R461; log
29). -/
def State.adjust (s : State) (r : Reg) (d : Word) : State := if d = 0 then s else s.setReg r (s.reg r + d)

/-- The amount of an adjustment code for elements of `n` bytes (43_string_block R461). -/
def adjustment (c : BitVec 2) (n : Nat) : Word :=
  match c.toNat with
  | 1 => .ofNat 128 n
  | 2 => -.ofNat 128 n
  | _ => 0

/-- The amount of an adjustment code of BSET (43_string_block R466). -/
def setAdjustment (c : BitVec 4) : Word :=
  match c.toNat with
  | 1 => 1
  | 2 => 2
  | 3 => 4
  | 4 => 8
  | 5 => 16
  | 15 => -1
  | 14 => -2
  | 13 => -4
  | 12 => -8
  | 11 => -16
  | _ => 0

/-- The end of an iteration: the loop counter, r55, goes down; another iteration follows unless it is zero
(43_string_block R461, R462). -/
def endIteration (s : State) : Acc Flow :=
  let s := s.adjust 55 (-1)
  .ok (if s.reg 55 = 0 then .seq else .again) s

/-- An iteration, when the loop counter is not zero. -/
def blockOp (body : State → Acc Flow) (s : State) : Acc Flow := if s.reg 55 = 0 then .ok .seq s else body s

/-- BCMP (43_string_block R463). -/
def execBcmp (o : Blk) (x : Ext) (s : State) : Host.Outcome State Fault Refusal :=
  runExt x false (blockOp fun s =>
    (memRead ((s.reg o.ra).setWidth 64) o.size.bytes s).bind fun a s =>
      (memRead ((s.reg o.rb).setWidth 64) o.size.bytes s).bind fun b s =>
        if a = b then
          endIteration ((s.adjust o.ra (adjustment o.ai o.size.bytes)).adjust o.rb (adjustment o.bi o.size.bytes))
        else .ok .seq s) s

/-- BFND (43_string_block R464). -/
def execBfnd (o : Blk) (x : Ext) (s : State) : Host.Outcome State Fault Refusal :=
  runExt x false (blockOp fun s =>
    (memRead ((s.reg o.rb).setWidth 64) o.size.bytes s).bind fun b s =>
      if BitVec.ofNat o.size.bits b = (s.reg o.ra).setWidth o.size.bits then .ok .seq s
      else endIteration (s.adjust o.rb (adjustment o.bi o.size.bytes))) s

/-- BMOV (43_string_block R465). -/
def execBmov (o : Blk) (x : Ext) (s : State) : Host.Outcome State Fault Refusal :=
  runExt x false (blockOp fun s =>
    (memRead ((s.reg o.ra).setWidth 64) o.size.bytes s).bind fun v s =>
      (memWrite ((s.reg o.rb).setWidth 64) o.size.bytes v s).bind fun _ s =>
        endIteration ((s.adjust o.ra (adjustment o.ai o.size.bytes)).adjust o.rb (adjustment o.bi o.size.bytes))) s

/-- BSET (43_string_block R466). -/
def execBset (o : BSetOp) (x : Ext) (s : State) : Host.Outcome State Fault Refusal :=
  runExt x false (blockOp fun s =>
    (putLow o.size ((s.reg o.rb).setWidth 64) (s.reg o.ra) s).bind fun _ s =>
      endIteration (s.adjust o.rb (setAdjustment o.bi))) s

end Sys2Proof.Machine
end

