-- ==== Sys2Proof/Machine/MapOnly.lean ====
section
/-! DEFINITION. Instructions an opcode map names and no page describes: Unimplemented Instruction, vector 4 (30_encoding
R262; 60_exceptions R744). -/

namespace Sys2Proof.Machine

/-- DIF (R262). -/
def execDif (_w : BitVec 40) (_x : Ext) (s : State) : Host.Outcome State Fault Refusal := unimplemented s
/-- PTRDIF (R262). -/
def execPtrdif (_w : BitVec 40) (_x : Ext) (s : State) : Host.Outcome State Fault Refusal := unimplemented s
/-- REVBIT__R2_map_position (R262). -/
def execRevbitMap (_w : BitVec 40) (_x : Ext) (s : State) : Host.Outcome State Fault Refusal := unimplemented s
/-- BITS2V (R655). -/
def execBits2v (_w : BitVec 40) (_x : Ext) (s : State) : Host.Outcome State Fault Refusal := unimplemented s
/-- VEX (R655). -/
def execVex (_w : BitVec 40) (_x : Ext) (s : State) : Host.Outcome State Fault Refusal := unimplemented s
/-- VEINS (R655). -/
def execVeins (_w : BitVec 40) (_x : Ext) (s : State) : Host.Outcome State Fault Refusal := unimplemented s
/-- VGNDX (R655). -/
def execVgndx (_w : BitVec 40) (_x : Ext) (s : State) : Host.Outcome State Fault Refusal := unimplemented s
/-- SGEU__map_position_46 (R262). -/
def execSgeuMap (_w : BitVec 40) (_x : Ext) (s : State) : Host.Outcome State Fault Refusal := unimplemented s
/-- SGTU__map_position_47 (R262). -/
def execSgtuMap (_w : BitVec 40) (_x : Ext) (s : State) : Host.Outcome State Fault Refusal := unimplemented s
/-- MIN (R262). -/
def execMin (_w : BitVec 40) (_x : Ext) (s : State) : Host.Outcome State Fault Refusal := unimplemented s
/-- MAX (R262). -/
def execMax (_w : BitVec 40) (_x : Ext) (s : State) : Host.Outcome State Fault Refusal := unimplemented s
/-- BMM (R262). -/
def execBmm (_w : BitVec 40) (_x : Ext) (s : State) : Host.Outcome State Fault Refusal := unimplemented s
/-- MUX (R262). -/
def execMux (_w : BitVec 40) (_x : Ext) (s : State) : Host.Outcome State Fault Refusal := unimplemented s
/-- AES64KS1I (R671). -/
def execAes64ks1i (_w : BitVec 40) (_x : Ext) (s : State) : Host.Outcome State Fault Refusal := unimplemented s
/-- AES64KS2 (R671). -/
def execAes64ks2 (_w : BitVec 40) (_x : Ext) (s : State) : Host.Outcome State Fault Refusal := unimplemented s
/-- AES64IM (R671). -/
def execAes64im (_w : BitVec 40) (_x : Ext) (s : State) : Host.Outcome State Fault Refusal := unimplemented s
/-- FMIN (R433). -/
def execFmin (_w : BitVec 40) (_x : Ext) (s : State) : Host.Outcome State Fault Refusal := unimplemented s
/-- FMAX (R433). -/
def execFmax (_w : BitVec 40) (_x : Ext) (s : State) : Host.Outcome State Fault Refusal := unimplemented s
/-- FNXT (R433). -/
def execFnxt (_w : BitVec 40) (_x : Ext) (s : State) : Host.Outcome State Fault Refusal := unimplemented s
/-- FREM (R433). -/
def execFrem (_w : BitVec 40) (_x : Ext) (s : State) : Host.Outcome State Fault Refusal := unimplemented s
/-- FTOI (R433). -/
def execFtoi (_w : BitVec 40) (_x : Ext) (s : State) : Host.Outcome State Fault Refusal := unimplemented s
/-- ITOF (R433). -/
def execItof (_w : BitVec 40) (_x : Ext) (s : State) : Host.Outcome State Fault Refusal := unimplemented s
/-- FSIGN (R433). -/
def execFsign (_w : BitVec 40) (_x : Ext) (s : State) : Host.Outcome State Fault Refusal := unimplemented s
/-- FSIG (R433). -/
def execFsig (_w : BitVec 40) (_x : Ext) (s : State) : Host.Outcome State Fault Refusal := unimplemented s
/-- FSQRT (R433). -/
def execFsqrt (_w : BitVec 40) (_x : Ext) (s : State) : Host.Outcome State Fault Refusal := unimplemented s
/-- FS2D (R433). -/
def execFs2d (_w : BitVec 40) (_x : Ext) (s : State) : Host.Outcome State Fault Refusal := unimplemented s
/-- FS2Q (R433). -/
def execFs2q (_w : BitVec 40) (_x : Ext) (s : State) : Host.Outcome State Fault Refusal := unimplemented s
/-- FD2Q (R433). -/
def execFd2q (_w : BitVec 40) (_x : Ext) (s : State) : Host.Outcome State Fault Refusal := unimplemented s
/-- ISNAN (R433). -/
def execIsnan (_w : BitVec 40) (_x : Ext) (s : State) : Host.Outcome State Fault Refusal := unimplemented s
/-- FINITE (R433). -/
def execFinite (_w : BitVec 40) (_x : Ext) (s : State) : Host.Outcome State Fault Refusal := unimplemented s
/-- FRES (R433). -/
def execFres (_w : BitVec 40) (_x : Ext) (s : State) : Host.Outcome State Fault Refusal := unimplemented s
/-- FD2S (R433). -/
def execFd2s (_w : BitVec 40) (_x : Ext) (s : State) : Host.Outcome State Fault Refusal := unimplemented s
/-- FQ2S (R433). -/
def execFq2s (_w : BitVec 40) (_x : Ext) (s : State) : Host.Outcome State Fault Refusal := unimplemented s
/-- FQ2D (R433). -/
def execFq2d (_w : BitVec 40) (_x : Ext) (s : State) : Host.Outcome State Fault Refusal := unimplemented s
/-- FCLASS (R433). -/
def execFclass (_w : BitVec 40) (_x : Ext) (s : State) : Host.Outcome State Fault Refusal := unimplemented s
/-- FMA (R433). -/
def execFma (_w : BitVec 40) (_t : Tail) (s : State) : Host.Outcome State Fault Refusal := unimplemented s
/-- BITRR (R262). -/
def execBitrr (_w : BitVec 40) (_x : Ext) (s : State) : Host.Outcome State Fault Refusal := unimplemented s
/-- AMSWAP (R629). -/
def execAmswap (_w : BitVec 40) (_x : Ext) (s : State) : Host.Outcome State Fault Refusal := unimplemented s
/-- AMMAX (R629). -/
def execAmmax (_w : BitVec 40) (_x : Ext) (s : State) : Host.Outcome State Fault Refusal := unimplemented s
/-- AMMAXU (R629). -/
def execAmmaxu (_w : BitVec 40) (_x : Ext) (s : State) : Host.Outcome State Fault Refusal := unimplemented s
/-- AMCAS (R629). -/
def execAmcas (_w : BitVec 40) (_x : Ext) (s : State) : Host.Outcome State Fault Refusal := unimplemented s
/-- AMSWAP__immediate (R629). -/
def execAmswapImm (_w : BitVec 40) (_x : Ext) (s : State) : Host.Outcome State Fault Refusal := unimplemented s
/-- AMMIN__immediate (R629). -/
def execAmminImm (_w : BitVec 40) (_x : Ext) (s : State) : Host.Outcome State Fault Refusal := unimplemented s
/-- AMMAX__immediate (R629). -/
def execAmmaxImm (_w : BitVec 40) (_x : Ext) (s : State) : Host.Outcome State Fault Refusal := unimplemented s
/-- AMMINU__immediate (R629). -/
def execAmminuImm (_w : BitVec 40) (_x : Ext) (s : State) : Host.Outcome State Fault Refusal := unimplemented s
/-- AMMAXU__immediate (R629). -/
def execAmmaxuImm (_w : BitVec 40) (_x : Ext) (s : State) : Host.Outcome State Fault Refusal := unimplemented s
/-- AMCAS__immediate (R629). -/
def execAmcasImm (_w : BitVec 40) (_x : Ext) (s : State) : Host.Outcome State Fault Refusal := unimplemented s

end Sys2Proof.Machine
end

