-- ==== Sys2Proof/Machine/Dispatch.lean ====
section
/-! DEFINITION. The dispatch: each instruction to its meaning. -/

namespace Sys2Proof.Machine

def exec (i : Instr) (s : State) : Host.Outcome State Fault Refusal :=
  match i with
  | .brk t => Sys2Proof.Machine.execBrk t s
  | .trapRa o t => Sys2Proof.Machine.execTrapRa o t s
  | .trapImm o t => Sys2Proof.Machine.execTrapImm o t s
  | .add o x => Sys2Proof.Machine.execAdd o x s
  | .sub o x => Sys2Proof.Machine.execSub o x s
  | .rtdReg o t => Sys2Proof.Machine.execRtdReg o t s
  | .rtsReg o t => Sys2Proof.Machine.execRtsReg o t s
  | .cmp o x => Sys2Proof.Machine.execCmp o x s
  | .cmpsB o x => Sys2Proof.Machine.execCmpsB o x s
  | .mul o x => Sys2Proof.Machine.execMul o x s
  | .mulu o x => Sys2Proof.Machine.execMulu o x s
  | .mulsu o x => Sys2Proof.Machine.execMulsu o x s
  | .div o x => Sys2Proof.Machine.execDiv o x s
  | .divu o x => Sys2Proof.Machine.execDivu o x s
  | .divsu o x => Sys2Proof.Machine.execDivsu o x s
  | .and o x => Sys2Proof.Machine.execAnd o x s
  | .nand o x => Sys2Proof.Machine.execNand o x s
  | .or o x => Sys2Proof.Machine.execOr o x s
  | .nor o x => Sys2Proof.Machine.execNor o x s
  | .eor o x => Sys2Proof.Machine.execEor o x s
  | .enor o x => Sys2Proof.Machine.execEnor o x s
  | .mulh o x => Sys2Proof.Machine.execMulh o x s
  | .muluh o x => Sys2Proof.Machine.execMuluh o x s
  | .chrndx o x => Sys2Proof.Machine.execChrndx o x s
  | .chrndxImm o x => Sys2Proof.Machine.execChrndxImm o x s
  | .clmul o x => Sys2Proof.Machine.execClmul o x s
  | .clmulImm o x => Sys2Proof.Machine.execClmulImm o x s
  | .mod o x => Sys2Proof.Machine.execMod o x s
  | .modu o x => Sys2Proof.Machine.execModu o x s
  | .bmap o x => Sys2Proof.Machine.execBmap o x s
  | .jmpIdx o t => Sys2Proof.Machine.execJmpIdx o t s
  | .jmpIdxInd o t => Sys2Proof.Machine.execJmpIdxInd o t s
  | .jsrIdx o t => Sys2Proof.Machine.execJsrIdx o t s
  | .jsrIdxInd o t => Sys2Proof.Machine.execJsrIdxInd o t s
  | .seq o x => Sys2Proof.Machine.execSeq o x s
  | .sne o x => Sys2Proof.Machine.execSne o x s
  | .slt o x => Sys2Proof.Machine.execSlt o x s
  | .sge o x => Sys2Proof.Machine.execSge o x s
  | .sle o x => Sys2Proof.Machine.execSle o x s
  | .sgt o x => Sys2Proof.Machine.execSgt o x s
  | .sltu o x => Sys2Proof.Machine.execSltu o x s
  | .sgeu o x => Sys2Proof.Machine.execSgeu o x s
  | .sleu o x => Sys2Proof.Machine.execSleu o x s
  | .sgtu o x => Sys2Proof.Machine.execSgtu o x s
  | .pred o t => Sys2Proof.Machine.execPred o t s
  | .carry o t => Sys2Proof.Machine.execCarry o t s
  | .rep o t => Sys2Proof.Machine.execRep o t s
  | .atom o t => Sys2Proof.Machine.execAtom o t s
  | .round imm t => Sys2Proof.Machine.execRound imm t s
  | .v2bits o x => Sys2Proof.Machine.execV2bits o x s
  | .dif w x => Sys2Proof.Machine.execDif w x s
  | .ptrdif w x => Sys2Proof.Machine.execPtrdif w x s
  | .revbitMap w x => Sys2Proof.Machine.execRevbitMap w x s
  | .bits2v w x => Sys2Proof.Machine.execBits2v w x s
  | .vex w x => Sys2Proof.Machine.execVex w x s
  | .veins w x => Sys2Proof.Machine.execVeins w x s
  | .vgndx w x => Sys2Proof.Machine.execVgndx w x s
  | .sgeuMap w x => Sys2Proof.Machine.execSgeuMap w x s
  | .sgtuMap w x => Sys2Proof.Machine.execSgtuMap w x s
  | .min w x => Sys2Proof.Machine.execMin w x s
  | .max w x => Sys2Proof.Machine.execMax w x s
  | .bmm w x => Sys2Proof.Machine.execBmm w x s
  | .mux w x => Sys2Proof.Machine.execMux w x s
  | .aes64ks1i w x => Sys2Proof.Machine.execAes64ks1i w x s
  | .aes64ks2 w x => Sys2Proof.Machine.execAes64ks2 w x s
  | .sm4ed o x => Sys2Proof.Machine.execSm4ed o x s
  | .sm4ks o x => Sys2Proof.Machine.execSm4ks o x s
  | .cntlz o x => Sys2Proof.Machine.execCntlz o x s
  | .cntlo o x => Sys2Proof.Machine.execCntlo o x s
  | .cntpop o x => Sys2Proof.Machine.execCntpop o x s
  | .abs o x => Sys2Proof.Machine.execAbs o x s
  | .sqrt o x => Sys2Proof.Machine.execSqrt o x s
  | .revbit o x => Sys2Proof.Machine.execRevbit o x s
  | .sm3p0 o x => Sys2Proof.Machine.execSm3p0 o x s
  | .sm3p1 o x => Sys2Proof.Machine.execSm3p1 o x s
  | .aes64ds o x => Sys2Proof.Machine.execAes64ds o x s
  | .aes64dsm o x => Sys2Proof.Machine.execAes64dsm o x s
  | .aes64es o x => Sys2Proof.Machine.execAes64es o x s
  | .aes64esm o x => Sys2Proof.Machine.execAes64esm o x s
  | .aes64im w x => Sys2Proof.Machine.execAes64im w x s
  | .sha256sig0 o x => Sys2Proof.Machine.execSha256sig0 o x s
  | .sha256sig1 o x => Sys2Proof.Machine.execSha256sig1 o x s
  | .sha256sum0 o x => Sys2Proof.Machine.execSha256sum0 o x s
  | .sha256sum1 o x => Sys2Proof.Machine.execSha256sum1 o x s
  | .sha512sig0 o x => Sys2Proof.Machine.execSha512sig0 o x s
  | .sha512sig1 o x => Sys2Proof.Machine.execSha512sig1 o x s
  | .sha512sum0 o x => Sys2Proof.Machine.execSha512sum0 o x s
  | .sha512sum1 o x => Sys2Proof.Machine.execSha512sum1 o x s
  | .csrrd o x => Sys2Proof.Machine.execCsrrd o x s
  | .csrrdImm o x => Sys2Proof.Machine.execCsrrdImm o x s
  | .csrwr o x => Sys2Proof.Machine.execCsrwr o x s
  | .csrwrImm o x => Sys2Proof.Machine.execCsrwrImm o x s
  | .csrrs o x => Sys2Proof.Machine.execCsrrs o x s
  | .csrrsImm o x => Sys2Proof.Machine.execCsrrsImm o x s
  | .csrrc o x => Sys2Proof.Machine.execCsrrc o x s
  | .csrrcImm o x => Sys2Proof.Machine.execCsrrcImm o x s
  | .csreor o x => Sys2Proof.Machine.execCsreor o x s
  | .csreorImm o x => Sys2Proof.Machine.execCsreorImm o x s
  | .cpuid o x => Sys2Proof.Machine.execCpuid o x s
  | .cpuidImm o x => Sys2Proof.Machine.execCpuidImm o x s
  | .getvl o x => Sys2Proof.Machine.execGetvl o x s
  | .setvl o x => Sys2Proof.Machine.execSetvl o x s
  | .setvlImm o x => Sys2Proof.Machine.execSetvlImm o x s
  | .addi o x => Sys2Proof.Machine.execAddi o x s
  | .rtdImm o t => Sys2Proof.Machine.execRtdImm o t s
  | .rtsImm o t => Sys2Proof.Machine.execRtsImm o t s
  | .rte1 o t => Sys2Proof.Machine.execRte1 o t s
  | .rte2 o t => Sys2Proof.Machine.execRte2 o t s
  | .cmpi o x => Sys2Proof.Machine.execCmpi o x s
  | .muli o x => Sys2Proof.Machine.execMuli o x s
  | .mului o x => Sys2Proof.Machine.execMului o x s
  | .divi o x => Sys2Proof.Machine.execDivi o x s
  | .andi o x => Sys2Proof.Machine.execAndi o x s
  | .nandi o x => Sys2Proof.Machine.execNandi o x s
  | .ori o x => Sys2Proof.Machine.execOri o x s
  | .nori o x => Sys2Proof.Machine.execNori o x s
  | .orf o x => Sys2Proof.Machine.execOrf o x s
  | .eori o x => Sys2Proof.Machine.execEori o x s
  | .enori o x => Sys2Proof.Machine.execEnori o x s
  | .chk o x => Sys2Proof.Machine.execChk o x s
  | .chki o x => Sys2Proof.Machine.execChki o x s
  | .bmapImm o x => Sys2Proof.Machine.execBmapImm o x s
  | .fscaleb o x => Sys2Proof.Machine.execFscaleb o x s
  | .fscalebImm o x => Sys2Proof.Machine.execFscalebImm o x s
  | .fadd o x => Sys2Proof.Machine.execFadd o x s
  | .fsub o x => Sys2Proof.Machine.execFsub o x s
  | .fcmp o x => Sys2Proof.Machine.execFcmp o x s
  | .fmul o x => Sys2Proof.Machine.execFmul o x s
  | .fdiv o x => Sys2Proof.Machine.execFdiv o x s
  | .fseq o x => Sys2Proof.Machine.execFseq o x s
  | .fsne o x => Sys2Proof.Machine.execFsne o x s
  | .fsle o x => Sys2Proof.Machine.execFsle o x s
  | .fslt o x => Sys2Proof.Machine.execFslt o x s
  | .fsge o x => Sys2Proof.Machine.execFsge o x s
  | .fsgt o x => Sys2Proof.Machine.execFsgt o x s
  | .fmin w x => Sys2Proof.Machine.execFmin w x s
  | .fmax w x => Sys2Proof.Machine.execFmax w x s
  | .fnxt w x => Sys2Proof.Machine.execFnxt w x s
  | .frem w x => Sys2Proof.Machine.execFrem w x s
  | .ftrunc o x => Sys2Proof.Machine.execFtrunc o x s
  | .fabs o x => Sys2Proof.Machine.execFabs o x s
  | .fneg o x => Sys2Proof.Machine.execFneg o x s
  | .ftoi w x => Sys2Proof.Machine.execFtoi w x s
  | .itof w x => Sys2Proof.Machine.execItof w x s
  | .fsign w x => Sys2Proof.Machine.execFsign w x s
  | .fsig w x => Sys2Proof.Machine.execFsig w x s
  | .fsqrt w x => Sys2Proof.Machine.execFsqrt w x s
  | .fs2d w x => Sys2Proof.Machine.execFs2d w x s
  | .fs2q w x => Sys2Proof.Machine.execFs2q w x s
  | .fd2q w x => Sys2Proof.Machine.execFd2q w x s
  | .isnan w x => Sys2Proof.Machine.execIsnan w x s
  | .finite w x => Sys2Proof.Machine.execFinite w x s
  | .fres w x => Sys2Proof.Machine.execFres w x s
  | .fd2s w x => Sys2Proof.Machine.execFd2s w x s
  | .fq2s w x => Sys2Proof.Machine.execFq2s w x s
  | .fq2d w x => Sys2Proof.Machine.execFq2d w x s
  | .fclass w x => Sys2Proof.Machine.execFclass w x s
  | .fma w t => Sys2Proof.Machine.execFma w t s
  | .faddi o x => Sys2Proof.Machine.execFaddi o x s
  | .fcmpi o x => Sys2Proof.Machine.execFcmpi o x s
  | .fmuli o x => Sys2Proof.Machine.execFmuli o x s
  | .fdivi o x => Sys2Proof.Machine.execFdivi o x s
  | .clr o x => Sys2Proof.Machine.execClr o x s
  | .clrImm o x => Sys2Proof.Machine.execClrImm o x s
  | .set o x => Sys2Proof.Machine.execSet o x s
  | .setImm o x => Sys2Proof.Machine.execSetImm o x s
  | .com o x => Sys2Proof.Machine.execCom o x s
  | .comImm o x => Sys2Proof.Machine.execComImm o x s
  | .sbx o x => Sys2Proof.Machine.execSbx o x s
  | .sbxImm o x => Sys2Proof.Machine.execSbxImm o x s
  | .extu o x => Sys2Proof.Machine.execExtu o x s
  | .extuImm o x => Sys2Proof.Machine.execExtuImm o x s
  | .exts o x => Sys2Proof.Machine.execExts o x s
  | .extsImm o x => Sys2Proof.Machine.execExtsImm o x s
  | .dep o x => Sys2Proof.Machine.execDep o x s
  | .depImm o x => Sys2Proof.Machine.execDepImm o x s
  | .bitrr w x => Sys2Proof.Machine.execBitrr w x s
  | .asl o x => Sys2Proof.Machine.execAsl o x s
  | .aslImm o x => Sys2Proof.Machine.execAslImm o x s
  | .asr o x => Sys2Proof.Machine.execAsr o x s
  | .asrImm o x => Sys2Proof.Machine.execAsrImm o x s
  | .lsl o x => Sys2Proof.Machine.execLsl o x s
  | .lslImm o x => Sys2Proof.Machine.execLslImm o x s
  | .lsland o x => Sys2Proof.Machine.execLsland o x s
  | .lslandImm o x => Sys2Proof.Machine.execLslandImm o x s
  | .lslor o x => Sys2Proof.Machine.execLslor o x s
  | .lslorImm o x => Sys2Proof.Machine.execLslorImm o x s
  | .lslxor o x => Sys2Proof.Machine.execLslxor o x s
  | .lslxorImm o x => Sys2Proof.Machine.execLslxorImm o x s
  | .lsr o x => Sys2Proof.Machine.execLsr o x s
  | .lsrImm o x => Sys2Proof.Machine.execLsrImm o x s
  | .rol o x => Sys2Proof.Machine.execRol o x s
  | .rolImm o x => Sys2Proof.Machine.execRolImm o x s
  | .ror o x => Sys2Proof.Machine.execRor o x s
  | .rorImm o x => Sys2Proof.Machine.execRorImm o x s
  | .vshlv o x => Sys2Proof.Machine.execVshlv o x s
  | .vshrv o x => Sys2Proof.Machine.execVshrv o x s
  | .vshlvi o x => Sys2Proof.Machine.execVshlvi o x s
  | .vshrvi o x => Sys2Proof.Machine.execVshrvi o x s
  | .load z o x => Sys2Proof.Machine.execLoad z o x s
  | .loadX z o x => Sys2Proof.Machine.execLoadX z o x s
  | .loadg o m t => Sys2Proof.Machine.execLoadg o m t s
  | .loadgX o m t => Sys2Proof.Machine.execLoadgX o m t s
  | .fload p o x => Sys2Proof.Machine.execFload p o x s
  | .floadX p o x => Sys2Proof.Machine.execFloadX p o x s
  | .loadz z o x => Sys2Proof.Machine.execLoadz z o x s
  | .loadzX z o x => Sys2Proof.Machine.execLoadzX z o x s
  | .la o x => Sys2Proof.Machine.execLa o x s
  | .laX o x => Sys2Proof.Machine.execLaX o x s
  | .stptrT o x => Sys2Proof.Machine.execStptrT o x s
  | .stptrTX o x => Sys2Proof.Machine.execStptrTX o x s
  | .stptrO o x => Sys2Proof.Machine.execStptrO o x s
  | .stptrOX o x => Sys2Proof.Machine.execStptrOX o x s
  | .stptrH o x => Sys2Proof.Machine.execStptrH o x s
  | .stptrHX o x => Sys2Proof.Machine.execStptrHX o x s
  | .cache o x => Sys2Proof.Machine.execCache o x s
  | .cacheX o x => Sys2Proof.Machine.execCacheX o x s
  | .store z o x => Sys2Proof.Machine.execStore z o x s
  | .storeX z o x => Sys2Proof.Machine.execStoreX z o x s
  | .storeg o m t => Sys2Proof.Machine.execStoreg o m t s
  | .storegX o m t => Sys2Proof.Machine.execStoregX o m t s
  | .fstore p o x => Sys2Proof.Machine.execFstore p o x s
  | .fstoreX p o x => Sys2Proof.Machine.execFstoreX p o x s
  | .jmp o t => Sys2Proof.Machine.execJmp o t s
  | .jmpInd o t => Sys2Proof.Machine.execJmpInd o t s
  | .jsr o t => Sys2Proof.Machine.execJsr o t s
  | .jsrInd o t => Sys2Proof.Machine.execJsrInd o t s
  | .braTable o t => Sys2Proof.Machine.execBraTable o t s
  | .bsrTable o t => Sys2Proof.Machine.execBsrTable o t s
  | .cmpxchg o x => Sys2Proof.Machine.execCmpxchg o x s
  | .storePair o x => Sys2Proof.Machine.execStorePair o x s
  | .ammin o x => Sys2Proof.Machine.execAmmin o x s
  | .amadd o x => Sys2Proof.Machine.execAmadd o x s
  | .amaddImm o x => Sys2Proof.Machine.execAmaddImm o x s
  | .amasl o x => Sys2Proof.Machine.execAmasl o x s
  | .amaslImm o x => Sys2Proof.Machine.execAmaslImm o x s
  | .amlsr o x => Sys2Proof.Machine.execAmlsr o x s
  | .amlsrImm o x => Sys2Proof.Machine.execAmlsrImm o x s
  | .amand o x => Sys2Proof.Machine.execAmand o x s
  | .amandImm o x => Sys2Proof.Machine.execAmandImm o x s
  | .amor o x => Sys2Proof.Machine.execAmor o x s
  | .amorImm o x => Sys2Proof.Machine.execAmorImm o x s
  | .ameor o x => Sys2Proof.Machine.execAmeor o x s
  | .ameorImm o x => Sys2Proof.Machine.execAmeorImm o x s
  | .amminu o x => Sys2Proof.Machine.execAmminu o x s
  | .amswap w x => Sys2Proof.Machine.execAmswap w x s
  | .ammax w x => Sys2Proof.Machine.execAmmax w x s
  | .ammaxu w x => Sys2Proof.Machine.execAmmaxu w x s
  | .amcas w x => Sys2Proof.Machine.execAmcas w x s
  | .amswapImm w x => Sys2Proof.Machine.execAmswapImm w x s
  | .amminImm w x => Sys2Proof.Machine.execAmminImm w x s
  | .ammaxImm w x => Sys2Proof.Machine.execAmmaxImm w x s
  | .amminuImm w x => Sys2Proof.Machine.execAmminuImm w x s
  | .ammaxuImm w x => Sys2Proof.Machine.execAmmaxuImm w x s
  | .amcasImm w x => Sys2Proof.Machine.execAmcasImm w x s
  | .bcmp o x => Sys2Proof.Machine.execBcmp o x s
  | .bfnd o x => Sys2Proof.Machine.execBfnd o x s
  | .bmov o x => Sys2Proof.Machine.execBmov o x s
  | .bset o x => Sys2Proof.Machine.execBset o x s
  | .beq o t => Sys2Proof.Machine.execBeq o t s
  | .bne o t => Sys2Proof.Machine.execBne o t s
  | .blt o t => Sys2Proof.Machine.execBlt o t s
  | .ble o t => Sys2Proof.Machine.execBle o t s
  | .bge o t => Sys2Proof.Machine.execBge o t s
  | .bgt o t => Sys2Proof.Machine.execBgt o t s
  | .bbc o t => Sys2Proof.Machine.execBbc o t s
  | .bbs o t => Sys2Proof.Machine.execBbs o t s
  | .bbcImm o t => Sys2Proof.Machine.execBbcImm o t s
  | .bbsImm o t => Sys2Proof.Machine.execBbsImm o t s
  | .bltu o t => Sys2Proof.Machine.execBltu o t s
  | .bleu o t => Sys2Proof.Machine.execBleu o t s
  | .bgeu o t => Sys2Proof.Machine.execBgeu o t s
  | .bgtu o t => Sys2Proof.Machine.execBgtu o t s
  | .fbeq o t => Sys2Proof.Machine.execFbeq o t s
  | .fbne o t => Sys2Proof.Machine.execFbne o t s
  | .fbgt o t => Sys2Proof.Machine.execFbgt o t s
  | .fbugt o t => Sys2Proof.Machine.execFbugt o t s
  | .fbge o t => Sys2Proof.Machine.execFbge o t s
  | .fbuge o t => Sys2Proof.Machine.execFbuge o t s
  | .fblt o t => Sys2Proof.Machine.execFblt o t s
  | .fbult o t => Sys2Proof.Machine.execFbult o t s
  | .fble o t => Sys2Proof.Machine.execFble o t s
  | .fbule o t => Sys2Proof.Machine.execFbule o t s
  | .fbgl o t => Sys2Proof.Machine.execFbgl o t s
  | .fbugl o t => Sys2Proof.Machine.execFbugl o t s
  | .fbord o t => Sys2Proof.Machine.execFbord o t s
  | .fbun o t => Sys2Proof.Machine.execFbun o t s
  | .pbcc o t => Sys2Proof.Machine.execPbcc o t s
  | .dfbcc o t => Sys2Proof.Machine.execDfbcc o t s
  | .bra disp t => Sys2Proof.Machine.execBra disp t s
  | .bsr lr disp t => Sys2Proof.Machine.execBsr lr disp t s
  | .lbeq o t => Sys2Proof.Machine.execLbeq o t s
  | .lbne o t => Sys2Proof.Machine.execLbne o t s
  | .lblt o t => Sys2Proof.Machine.execLblt o t s
  | .lble o t => Sys2Proof.Machine.execLble o t s
  | .lbge o t => Sys2Proof.Machine.execLbge o t s
  | .lbgt o t => Sys2Proof.Machine.execLbgt o t s
  | .lbbc o t => Sys2Proof.Machine.execLbbc o t s
  | .lbbs o t => Sys2Proof.Machine.execLbbs o t s
  | .lbbcImm o t => Sys2Proof.Machine.execLbbcImm o t s
  | .lbbsImm o t => Sys2Proof.Machine.execLbbsImm o t s
  | .lbltu o t => Sys2Proof.Machine.execLbltu o t s
  | .lbleu o t => Sys2Proof.Machine.execLbleu o t s
  | .lbgeu o t => Sys2Proof.Machine.execLbgeu o t s
  | .lbgtu o t => Sys2Proof.Machine.execLbgtu o t s
  | .lfbeq o t => Sys2Proof.Machine.execLfbeq o t s
  | .lfbne o t => Sys2Proof.Machine.execLfbne o t s
  | .lfbgt o t => Sys2Proof.Machine.execLfbgt o t s
  | .lfbugt o t => Sys2Proof.Machine.execLfbugt o t s
  | .lfbge o t => Sys2Proof.Machine.execLfbge o t s
  | .lfbuge o t => Sys2Proof.Machine.execLfbuge o t s
  | .lfblt o t => Sys2Proof.Machine.execLfblt o t s
  | .lfbult o t => Sys2Proof.Machine.execLfbult o t s
  | .lfble o t => Sys2Proof.Machine.execLfble o t s
  | .lfbule o t => Sys2Proof.Machine.execLfbule o t s
  | .lfbgl o t => Sys2Proof.Machine.execLfbgl o t s
  | .lfbugl o t => Sys2Proof.Machine.execLfbugl o t s
  | .lfbord o t => Sys2Proof.Machine.execLfbord o t s
  | .lfbun o t => Sys2Proof.Machine.execLfbun o t s
  | .lpbcc o t => Sys2Proof.Machine.execLpbcc o t s
  | .ldfbcc o t => Sys2Proof.Machine.execLdfbcc o t s
  | .lbra disp t => Sys2Proof.Machine.execLbra disp t s
  | .lbsr lr disp t => Sys2Proof.Machine.execLbsr lr disp t s
  | .dbcc o t => Sys2Proof.Machine.execDbcc o t s
  | .dbccFloat o t => Sys2Proof.Machine.execDbccFloat o t s
  | .dbccPosit o t => Sys2Proof.Machine.execDbccPosit o t s
  | .dbccDecimal o t => Sys2Proof.Machine.execDbccDecimal o t s
  | .pfx0 imm => Sys2Proof.Machine.execPfx0 imm s
  | .pfx1 imm => Sys2Proof.Machine.execPfx1 imm s
  | .pfx2 imm => Sys2Proof.Machine.execPfx2 imm s
  | .regs list => Sys2Proof.Machine.execRegs list s
  | .nop t => Sys2Proof.Machine.execNop t s
  | .vaddVV o x => Sys2Proof.Machine.execVaddVV o x s
  | .vaddVS o x => Sys2Proof.Machine.execVaddVS o x s
  | .vaddImm o x => Sys2Proof.Machine.execVaddImm o x s
  | .vandVV o x => Sys2Proof.Machine.execVandVV o x s
  | .vandVS o x => Sys2Proof.Machine.execVandVS o x s
  | .vandImm o x => Sys2Proof.Machine.execVandImm o x s

end Sys2Proof.Machine
end

