-- ==== Sys2Proof/Machine/Fetch.lean ====
section
/-! DEFINITION. Fetching and decoding an instruction (20_memory R103; 30_encoding R203, R204; 60_exceptions R756), what an
instruction consumes (49_modifiers R700, R717), and the acts of the environment and the MMU (00_scope R15). -/

namespace Sys2Proof.Machine

/-! Fetch. -/

/-- The longest instruction (30_encoding R203). -/
def maxLen : Nat := 35

/-- How many of `n` bytes from `pa` on hold instructions, one after the other: memory, or the region table's registers. -/
def State.fetchable (s : State) : Nat → Nat → Nat
  | _, 0 => 0
  | pa, n + 1 => if s.claimed pa && !s.strict pa then s.fetchable (pa + 1) n + 1 else 0

/-- The bytes a fetch sees from `pa` on, up to the first that holds no instruction. -/
def State.fetchList (s : State) (pa n : Nat) : List Byte :=
  (List.range (s.fetchable pa n)).map fun i => s.fetchByte (pa + i)

/-- The bytes at the program counter that can be fetched, up to the longest instruction (log 19). -/
def State.peek (s : State) : List Byte :=
  let n := inPage s.pc maxLen
  match locate .execute s.mode (s.virt s.pc) n s with
  | .ok pa t =>
    let bs := t.fetchList pa n
    if bs.length < n ∨ n = maxLen then bs
    else
      match locate .execute s.mode (s.virt (s.pc + .ofNat 64 n)) (maxLen - n) t with
      | .ok pb u => bs ++ u.fetchList pb (maxLen - n)
      | _ => bs
  | _ => []

/-- The fetch of `n` bytes in one page: a byte nothing claims is a Bus Error; the registers of a unit that takes one size of
access give no instruction bytes (20_memory R114). -/
def fetchPiece (va : Addr) (n : Nat) (s : State) : Acc Unit :=
  (locate .execute s.mode (s.virt va) n s).bind fun pa s =>
    let k := s.fetchable pa n
    if k = n then .ok () s
    else if s.strict (pa + k) then .refuse .deviceAccess
    else .trap ⟨2, some (s.virt va + .ofNat 64 k)⟩ s

/-- The fetch of `n` bytes from `va` on, at most two pieces in ascending order (20_memory R103). -/
def fetchBytes (va : Addr) (n : Nat) (s : State) : Acc Unit :=
  let f := inPage va n
  if f = n then fetchPiece va n s
  else (fetchPiece va f s).bind fun _ s => fetchPiece (va + .ofNat 64 f) (n - f) s

/-- The byte at `va` that a fetch sees, where it can be fetched (log 19). -/
def State.head (s : State) (va : Addr) : Option Byte :=
  match locate .execute s.mode (s.virt va) 1 s with
  | .ok pa t => (t.fetchList pa 1).head?
  | _ => none

/-- The fetch of the rest of a malformed run, word by word, and of a REGS word after it: every word of the run is fetched
before the run is found malformed (30_encoding R231, R236; 60_exceptions R756). -/
def fetchRun : Nat → Addr → State → Acc Unit
  | 0, _, s => .ok () s
  | fuel + 1, va, s =>
    match (s.head va).map BitVec.toNat with
    | some 31 | some 63 | some 95 => (fetchBytes va 5 s).bind fun _ s => fetchRun fuel (va + 5) s
    | some 191 => fetchBytes va 9 s
    | _ => .ok () s

/-- The words that may still follow what was decoded: the rest of a malformed run. A run of more than 2^64 words would come
back to its first. -/
def fetchRest (r : Dec) (va : Addr) (s : State) : Acc Unit :=
  match r with
  | .error .malformed => fetchRun (2 ^ 64) va s
  | _ => .ok () s

/-- The instruction at the program counter: how many bytes it has and what they decode to. Where it cannot be fetched whole,
the exception of the first byte that cannot (60_exceptions R756). M_BAD_INSTR is to get the bits of the base word and the
mask byte (10_state R63). -/
noncomputable def fetch (s : State) : Acc (Nat × Dec) :=
  match decode s.peek with
  | .short =>
    (fetchBytes s.pc maxLen { s with ir := .ofNat 48 (fromBytes (s.peek.take (baseLen s.peek))) }).bind fun _ s =>
      .ok (maxLen, .error .reserved) s
  | .done w used r =>
    (fetchBytes s.pc used { s with ir := w }).bind fun _ s =>
      (fetchRest r (s.pc + .ofNat 64 used) s).bind fun _ s => .ok (used, r) { s with draws := s.draws + 1 }

/-- What a word of `len` bytes that is no instruction does (30_encoding R234, R250; 40_integer R301). A decimal instruction
that a false predicate or mask keeps from executing only advances the program counter (49_modifiers R712). -/
def reject (len : Nat) (r : Reject) (s : State) : Host.Outcome State Fault Refusal :=
  match r with
  | .malformed => enter .sync 34 s.pc none { s with retire := .fault }
  | .reserved => unimplemented s
  | .decimal m =>
    if !s.params.hasDecimal then unimplemented s
    else if s.predOk && s.maskOk m then .refused .decimal
    else skip len s

/-- Fetch, decode and execute one instruction; the state it was executed in stands beside the outcome. -/
noncomputable def runOne (s : State) : State × Host.Outcome State Fault Refusal :=
  match fetch s with
  | .ok (_, .ok i) t => (t, exec i t)
  | .ok (n, .error r) t => (t, reject n r t)
  | .trap e t => (t, enter .sync e.vec s.pc e.bad { t with retire := .fault })
  | .refuse r => (s, .refused r)

/-! The windows and REP. -/

/-- A window after one instruction; after position 7 it is closed (49_modifiers R700). -/
def Window.next (w : Window) : Option Window := if w.pos = 7 then none else some { w with pos := w.pos + 1 }

/-- A window that was open before the instruction moves on, unless the instruction opened it anew. -/
def windowAfter (before after : Option Window) (reopened : Bool) : Option Window :=
  if before.isSome && !reopened then after.bind Window.next else after

/-- The windows after an instruction that completed (49_modifiers R700); the carry goes with its window. -/
def windowsAfter (before : Windows) (r : Retire) (after : Windows) : Windows :=
  let carry := windowAfter before.carry after.carry (r == .opened .carry)
  { after with
    pred := windowAfter before.pred after.pred (r == .opened .pred)
    carry := carry
    atom := windowAfter before.atom after.atom (r == .opened .atom)
    round := windowAfter before.round after.round (r == .opened .round)
    cy := if carry.isSome then after.cy else 0 }

/-- The instruction in progress stands under ATOM's mark 10, lock the bus (49_modifiers R710; 20_memory R174). -/
def Windows.lockMark (w : Windows) : Bool :=
  match w.atom with
  | some a => a.pair == 2
  | .none => false

/-- The test of a REP (49_modifiers R716, R717). -/
def repTest (cnd : BitVec 3) (lc : Word) (limit : BitVec 32) : Bool :=
  let l : Word := limit.signExtend 128
  match cnd.toNat with
  | 0 => lc == l
  | 1 => lc != l
  | 2 => lc.slt l
  | 3 => lc.sle l
  | 4 => l.sle lc
  | 5 => l.slt lc
  | 6 => !lc.getLsbD (limit.toNat % 128)
  | _ => lc.getLsbD (limit.toNat % 128)

/-- The REP mechanism after an instruction that completed (49_modifiers R717). -/
def repAfter (jumped : Bool) (s : State) : State :=
  let b := s.repbuf
  if jumped then { s with repbuf := { b with v := false } }
  else if b.icnt < b.ins.extractLsb' 3 3 then { s with repbuf := { b with icnt := b.icnt + 1 } }
  else
    let lc := s.reg 55 + (if b.ins.getLsbD 6 then 1 else -1)
    let t := s.setReg 55 lc
    if repTest (b.ins.extractLsb' 0 3) lc b.limit then { t with repbuf := { b with icnt := 0 }, pc := b.pc }
    else { t with repbuf := { b with v := false, icnt := 0 } }

/-- The instruction completed: it raised no exception, is no lone postfix and has no iteration left (60_exceptions R768). -/
def Retire.completed (r : Retire) : Bool :=
  match r with
  | .seq | .jump | .opened _ | .rep => true
  | .again | .lone | .trap | .fault => false

/-- What step 5 of 60_exceptions R768 does after an instruction: `s` is the state it began in, `t` the one it left. REP
counts an instruction that completed with V = 1 before and after it, so the CSR instruction that sets V is not counted;
a TRAP ends a repeat too (49_modifiers R717; log 28). -/
def settle (s t : State) : State :=
  if t.retire.completed then
    let t := { t with
      win := { windowsAfter s.win t.retire t.win with locked := s.win.lockMark }
      traceDue := t.traceDue || s.te }
    if s.repbuf.v && t.repbuf.v && !s.repHold && t.retire != .rep then repAfter (t.retire == .jump) t else t
  else if t.retire == .trap && s.repbuf.v && !s.repHold then { t with repbuf := { t.repbuf with v := false } }
  else if t.retire == .again then { t with win := { t.win with locked := s.win.lockMark } }
  else t

/-! The environment and the MMU. -/

/-- The bus is locked between the last instruction, or iteration, and the next: both stand under ATOM's mark 10
(49_modifiers R710; 20_memory R174; log 15). -/
def State.busLocked (s : State) : Bool := s.win.locked && s.win.lockMark

/-- One act of the environment; reset is for the step (00_scope R15; log 15). -/
def Input.apply (i : Input) (s : State) : State :=
  match i with
  | .picLine n v => { s with pic := { s.pic with
      lines := if v then s.pic.lines ||| (1#32 <<< n.toNat) else s.pic.lines &&& ~~~(1#32 <<< n.toNat) } }
  | .pitClock two => if two then { s with pit2 := s.pit2.clock s.params } else { s with pit1 := s.pit1.clock s.params }
  | .pitEdge two n => if two then { s with pit2 := s.pit2.edge n.toNat } else { s with pit1 := s.pit1.edge n.toNat }
  | .pitGate two n v =>
    if two then { s with pit2 := s.pit2.setGate n.toNat v } else { s with pit1 := s.pit1.setGate n.toNat v }
  | .memory pa b => { s with mem := Memory.write pa b s.mem }
  | .sema v => { s with sema := v }
  | .reset => s

/-- A write of another agent to memory, which a locked bus holds off (20_memory R174). -/
def Input.isAccess (i : Input) : Bool :=
  match i with
  | .memory _ _ => true
  | .picLine _ _ | .pitClock _ | .pitEdge _ _ | .pitGate _ _ _ | .sema _ | .reset => false

/-- The acts of the environment before a step: while the bus is locked the accesses of other agents wait for a later step
(20_memory R174; log 15). -/
def State.acts (s : State) : List Input :=
  let is := s.env.head?.getD []
  if s.busLocked then is.filter fun i => !i.isAccess else is

/-- The acts that are then still to come. -/
def State.later (s : State) : List (List Input) :=
  let held := if s.busLocked then (s.env.head?.getD []).filter Input.isAccess else []
  if held.isEmpty then s.env.tail
  else (held ++ s.env.tail.head?.getD []) :: s.env.tail.tail

/-- The acts of the environment before a step, each followed by a sample of the interrupt lines. -/
def State.takeInputs (s : State) : State :=
  s.acts.foldl (fun t i => (i.apply t).samplePic) ({ s with env := s.later } : State).samplePic

/-- The reset input is among the acts before this step; the bus lock does not hold it off (70_reset R830). -/
def State.resetAsked (s : State) : Bool := (s.env.head?.getD []).any (· == .reset)

/-- Write bytes to physical memory where it is memory. -/
def State.agentWrite (s : State) (pa : Nat) (bs : List Byte) : State :=
  if s.target pa bs.length = .memory then { s with mem := Memory.writeList pa bs s.mem } else s

/-- The translation of a page that has one, as a TLB entry, and the physical address of the page (20_memory R126). -/
def State.mmuEntry (s : State) (p : MmuPage) : Option (TlbEntry × Nat) :=
  match p with
  | .entry slot page =>
    let e := s.tlb.get slot
    if entryValid e && e.count == s.tlb.count then
      (entryPhys e (slot / 1024) (page.setWidth 64 <<< 14)).map fun pa => (e, s.phys pa)
    else none
  | .table asid va =>
    (s.walk asid va).bind fun h =>
      let e : TlbEntry := ⟨h.pte, h.vpn, s.tlb.count, 0, none⟩
      (entryPhys e (if h.big then 4 else 0) va).map fun pa => (e, s.phys pa)

/-- The address of the page management table entry of a page that has a translation (20_memory R124, R126). -/
def State.mmuPmte (s : State) (p : MmuPage) : Option Nat := (s.mmuEntry p).map fun (e, pa) => s.pmteAddr e pa

/-- One write of the MMU to the page management table, in a state `t`, for a page that has a translation in `s` (20_memory
R126; log 12): M is bit 29, AccessCount bits 95:64 (R125). -/
def State.mmuMove (s t : State) (mv : MmuMove) : State :=
  match s.mmuPmte mv.page with
  | none => t
  | some a =>
    let u := if mv.setM then t.agentWrite (a + 3) [t.byte (a + 3) ||| 0x20] else t
    u.agentWrite (a + 8) (toBytes 4 mv.accessCount.toNat)

/-- The writes of the MMU, an agent like the others, before a step, for pages that have a translation then: none while the bus
is locked (20_memory R126, R174; 00_scope R15; log 12, 15). -/
def State.takeMmu (s : State) : State :=
  match s.params.translate with
  | .flat => s
  | .tlb => if s.busLocked then s else (Config.mmuMoves s.draws).foldl s.mmuMove { s with draws := s.draws + 1 }

/-- M_TICK grows by at least 1 at each step (70_reset R850; log 6). -/
def State.advance (s : State) : State :=
  { s with tick := s.tick + .ofNat 64 (1 + Config.tickExtra s.draws), draws := s.draws + 1 }

/-- The state the reset input makes (70_reset R830): memory, the levels of the interrupt lines and gates and the inputs
still to come are not the core's. -/
def State.afterReset (s : State) : State :=
  { State.resetWith s.params with
    mem := s.mem
    stale := s.stale
    env := s.env
    draws := s.draws
    pic := { Pic.reset with lines := s.pic.lines }
    pit1 := { Pit.reset with extGate := s.pit1.extGate }
    pit2 := { Pit.reset with extGate := s.pit2.extGate } }

/-- The reset input; with RESET_MODE = vector the stack pointer and the program counter come from addresses 0 and 8;
where reading them faults, the core halts (log 26). -/
def resetStep (s : State) : Host.Outcome State Fault Refusal :=
  let t := s.afterReset
  match t.params.resetMode with
  | .zero => .next t
  | .vector =>
    match (memReadAs .read 3 0 8 t).bind fun sp t => (memReadAs .read 3 8 8 t).bind fun pc t =>
      .ok () { t with msp := .ofNat 128 sp, pc := .ofNat 64 pc } with
    | .ok _ t => .next t
    | .trap _ t => .next { t with halted := true }
    | .refuse r => .refused r

/-- No window is open (49_modifiers R702). -/
def Windows.closed (w : Windows) : Bool := w.pred.isNone && w.carry.isNone && w.atom.isNone && w.round.isNone

/-- An interrupt is acceptable (60_exceptions R764). -/
def State.interruptDue (s : State) : Bool := decide (s.ipl < s.irq.1) && s.intEnabled && s.win.closed

/-- One step of a core that is not halted (60_exceptions R768): interrupt, trace, or the next instruction. -/
noncomputable def coreStep (s : State) : Host.Outcome State Fault Refusal :=
  if s.interruptDue then enter (.interrupt s.irq.1 s.irq.2) (24 + s.irq.1.setWidth 9) s.pc none s
  else if s.traceDue && s.win.closed then enter .trace 9 s.pc none s
  else
    match runOne s with
    | (t, .next u) => .next (settle t u)
    | (_, r) => r

/-- Change the next state of an outcome. -/
def mapNext (f : State → State) (r : Host.Outcome State Fault Refusal) : Host.Outcome State Fault Refusal :=
  match r with
  | .next s => .next (f s)
  | .fault e => .fault e
  | .refused e => .refused e

end Sys2Proof.Machine
end

