-- ==== Sys2Proof/Machine/Step.lean ====
section
/-! DEFINITION. One step of the machine (60_exceptions R768), and an instruction placed where the next step fetches it. -/

namespace Sys2Proof.Machine

/-- One step: the acts of the environment and the MMU; then the reset input, or the core's step; then M_TICK. A halted
core takes no steps. -/
noncomputable def step (s : State) : Host.Outcome State Fault Refusal :=
  let t := s.takeInputs.takeMmu
  if s.resetAsked then resetStep t
  else if t.halted then .fault .halted
  else mapNext State.advance (coreStep t)

/-- The bytes of `w`, least significant first and followed by zeros, stored at the program counter as physical memory, and
seen by the fetch (log 16). -/
def State.withFetchWord (s : State) (_nbits w : Nat) : State :=
  { s with
    mem := (toBytes 36 w).zipIdx.foldl (fun m b => Memory.write (s.pc + .ofNat 64 b.2).toNat b.1 m) s.mem
    stale := [] }

end Sys2Proof.Machine
end

