-- ==== Sys2Proof/Safety.lean ====
section
/-! DEFINITION. The states a run stays in (`State.Inv`), and the words the statements are made of: memory that can be
read, what an instruction that completes leaves, what a vector instruction does to its elements, an exception taken. -/

namespace Sys2Proof.Machine

/-! Safe states. -/

/-- The core takes steps: it is not in the terminal state of 60_exceptions R770 (e). -/
def State.running (s : State) : Bool := !s.halted

/-- What every step keeps: memory is in its canonical form; the reserved bits of SR (10_state R35), of S_PTBR (10_state
R56) and the low bits of AV (60_exceptions R774) read as zero; VL is at most MAX_VL (10_state R41); the carry is zero
outside a CARRY window (10_state R77). -/
def State.Inv (s : State) : Prop :=
  Memory.wf s.mem = true ∧ s.sr &&& ~~~srMask = 0 ∧ s.ptbr &&& ~~~ptbrMask = 0 ∧ s.av &&& 0xF = 0 ∧
    s.vl ≤ s.params.maxVl ∧ (s.win.carry = none → s.win.cy = 0)

/-! Memory under flat translation (20_memory R150). -/

/-- The instance FLAT of TRANSLATE (20_memory R150), at the address widths of the spec's default, 64 bits (R100). -/
def State.flat (s : State) : Prop := s.params.translate = .flat ∧ 64 ≤ s.params.vaBits ∧ 64 ≤ s.params.paBits

/-- The `n` bytes at `va` are memory. -/
def State.ram (s : State) (va : Addr) (n : Nat) : Prop :=
  s.flat ∧ ∀ i, i < n → s.claimed (va + .ofNat 64 i).toNat = true ∧ s.device (va + .ofNat 64 i).toNat = none

/-- The `n` bytes at `va`, least significant first. -/
def State.data (s : State) (va : Addr) : Nat → Nat
  | 0 => 0
  | n + 1 => (s.byte va.toNat).toNat + 256 * s.data (va + 1) n

/-- The `n` bytes at `va` hold the low bytes of `v`, and every other byte of memory is as it was. -/
def Stored (s t : State) (va : Addr) (n v : Nat) : Prop :=
  (∀ i, i < n → t.byte (va + .ofNat 64 i).toNat = .ofNat 8 (v / 256 ^ i)) ∧
    ∀ a, (∀ i, i < n → a ≠ (va + .ofNat 64 i).toNat) → t.byte a = s.byte a

/-! What an instruction leaves. -/

/-- An instruction of a format with a V bit executes: the predicate lets it, and a scalar one its mask too. -/
def State.enabled (s : State) (x : Ext) (vec : Bool) : Prop :=
  s.predOk = true ∧ (vec = true ∨ s.maskOk x.mask = true)

/-- `s` after an instruction of length `len` that did nothing else. -/
def State.passed (s : State) (len : Nat) : State := { s with pc := s.pc + .ofNat 64 len, retire := .seq }

/-- `s` after an instruction of length `len` that wrote `v` to `rt` and did nothing else. -/
def State.wrote (s : State) (len : Nat) (rt : Reg) (v : Word) : State := (s.setReg rt v).passed len

/-- `s` after a transfer of control to `a`. -/
def State.went (s : State) (a : Addr) : State := { s with pc := a, retire := .jump }

/-- `t` is `s` after a vector instruction of length `len` whose result for each enabled element k meets `P k`: of its
target's elements below the number processed, those the mask enables are results, every other one is as it was; the
restart mask is all ones; nothing else changes but the count of values drawn. -/
def LanesRel (s t : State) (w : Nat) (rt : Reg) (m : Word) (len : Nat) (P : Nat → BitVec w → Prop) : Prop :=
  (∀ k, k < 512 / w →
    if k < s.elems w ∧ m.getLsbD k = true then P k (t.elem w rt k) else t.elem w rt k = s.elem w rt k) ∧
  t = { s with
    vreg := s.vreg.setIfInBounds (rt.toNat % 32) (t.vec rt)
    vrm := BitVec.allOnes 128
    pc := s.pc + .ofNat 64 len
    retire := .seq
    draws := t.draws }

/-- The result for element k is `f k`, and no value is drawn. -/
def Lanes (s t : State) (w : Nat) (rt : Reg) (m : Word) (len : Nat) (f : Nat → BitVec w) : Prop :=
  LanesRel s t w rt m len (fun k r => r = f k) ∧ t.draws = s.draws

/-- The instruction, when it executes, completes and does one thing: a scalar form writes `f 0` to Rt; a vector form
writes the low bits of `f k` to each enabled element k of Rt (41_vector R380). -/
def Computes (i : Instr) (s : State) (x : Ext) (vec : Bool) (w : Nat) (rt : Reg) (f : Nat → Word) : Prop :=
  s.enabled x vec →
    if vec then
      ∃ t, exec i s = .next t ∧ Lanes s t w rt (s.vecMask x.mask) (extLen x) fun k => (f k).setWidth w
    else exec i s = .next (s.wrote (extLen x) rt (f 0))

/-- The instruction, when it executes, completes with results of which `P` holds: a scalar form writes one to Rt, a vector
form one to each enabled element of 128 bits of Rt; nothing else changes but the count of values drawn. -/
def Yields (i : Instr) (s : State) (x : Ext) (vec : Bool) (rt : Reg) (P : Nat → Word → Prop) : Prop :=
  s.enabled x vec →
    if vec then ∃ t, exec i s = .next t ∧ LanesRel s t 128 rt (s.vecMask x.mask) (extLen x) P
    else ∃ r d, P 0 r ∧ exec i s = .next { s.wrote (extLen x) rt r with draws := d }

/-- Two values are the same number, infinity, or NaNs. -/
def FVal.same : FVal → FVal → Prop
  | .nan, .nan => True
  | .inf n, .inf m => n = m
  | .fin n s e, .fin m t f => n = m ∧ (s : ℚ) * 2 ^ e = t * 2 ^ f
  | _, _ => False

/-! Exceptions. -/

/-- The vector table entry an exception through `vec` reads in state `s` is memory and holds `a` (60_exceptions R772). -/
def State.handler (s : State) (vec : BitVec 9) (a : Addr) : Prop :=
  s.ram (vectorEntry vec s).1 8 ∧ s.data (vectorEntry vec s).1 8 = a.toNat

/-- `t` is `s` after the synchronous exception `vec` with `epc` stacked and the handler at `a`, `bad` being the address
M_BADADDR gets, if any (60_exceptions R770 to R773). -/
def State.took (s : State) (vec : BitVec 9) (epc : Addr) (bad : Option Addr) (a : Addr) : State :=
  { enterState .sync vec epc bad s with pc := a }

/-- The instruction, its own address stacked, ends in the synchronous exception `vec`, having changed nothing else. -/
def Traps (i : Instr) (s : State) (vec : BitVec 9) (bad : Option Addr) : Prop :=
  ∀ a, s.handler vec a → exec i s = .next { s.took vec s.pc bad a with retire := .fault }

/-- A trap at element k of a vector instruction (41_vector R383): below it the enabled elements are results of which `P`
holds, every other element is as it was; the restart mask is set from k up and bit k of the error mask is set; nothing else
changes but, if `drawn`, the count of values drawn. -/
def ElementTraps (i : Instr) (s : State) (w : Nat) (rt : Reg) (m : Word) (vec : BitVec 9) (bad : Option Addr) (k : Nat)
    (drawn : Bool) (P : Nat → BitVec w → Prop) : Prop :=
  ∀ a, s.handler vec a → ∃ u, exec i s = .next { State.took u vec s.pc bad a with retire := .fault } ∧
    (∀ j, j < 512 / w →
      if j < k ∧ j < s.elems w ∧ m.getLsbD j = true then P j (u.elem w rt j) else u.elem w rt j = s.elem w rt j) ∧
    (drawn = false → u.draws = s.draws) ∧
    u = { s with
      vreg := s.vreg.setIfInBounds (rt.toNat % 32) (u.vec rt)
      vrm := BitVec.allOnes 128 <<< k
      verr := s.verr ||| 1#128 <<< k
      draws := u.draws }

/-! What an instruction that does not execute leaves. -/

/-- What an instruction that something keeps from executing is: a postfix on its own; a decimal branch; an instruction
whose operation CRYPTO_FN may supply; one without an operation; any other. -/
inductive Idle where
  | lone | decimal | crypto (op : CryptoOp) | unimplemented | plain
deriving DecidableEq, Repr

/-- The class of an instruction (30_encoding R235, R262; 46_flow_control R578; 48_vector R672). -/
def idle : Instr → Idle
  | .pfx0 _ | .pfx1 _ | .pfx2 _ | .regs _ => .lone
  | .dbccDecimal _ _ | .dfbcc _ _ | .ldfbcc _ _ => .decimal
  | .sha512sum0 _ _ => .crypto .sha512sum0
  | .sha512sum1 _ _ => .crypto .sha512sum1
  | .sm3p0 _ _ => .crypto .sm3p0
  | .sm3p1 _ _ => .crypto .sm3p1
  | .aes64ds _ _ => .crypto .aes64ds
  | .aes64dsm _ _ => .crypto .aes64dsm
  | .aes64es _ _ => .crypto .aes64es
  | .aes64esm _ _ => .crypto .aes64esm
  | .sm4ed _ _ => .crypto .sm4ed
  | .sm4ks _ _ => .crypto .sm4ks
  | .dif _ _ | .ptrdif _ _ | .revbitMap _ _ | .bits2v _ _ | .vex _ _ | .veins _ _ | .vgndx _ _ | .sgeuMap _ _
  | .sgtuMap _ _ | .min _ _ | .max _ _ | .bmm _ _ | .mux _ _ | .aes64ks1i _ _ | .aes64ks2 _ _ | .aes64im _ _
  | .fmin _ _ | .fmax _ _ | .fnxt _ _ | .frem _ _ | .ftoi _ _ | .itof _ _ | .fsign _ _ | .fsig _ _ | .fsqrt _ _
  | .fs2d _ _ | .fs2q _ _ | .fd2q _ _ | .isnan _ _ | .finite _ _ | .fres _ _ | .fd2s _ _ | .fq2s _ _ | .fq2d _ _
  | .fclass _ _ | .fma _ _ | .bitrr _ _ | .amswap _ _ | .ammax _ _ | .ammaxu _ _ | .amcas _ _ | .amswapImm _ _
  | .amminImm _ _ | .ammaxImm _ _ | .amminuImm _ _ | .ammaxuImm _ _ | .amcasImm _ _ | .pbcc _ _ | .lpbcc _ _
  | .dbccPosit _ _ => .unimplemented
  | .brk _ | .trapRa _ _ | .trapImm _ _ | .add _ _ | .sub _ _ | .rtdReg _ _ | .rtsReg _ _ | .cmp _ _ | .cmpsB _ _
  | .mul _ _ | .mulu _ _ | .mulsu _ _ | .div _ _ | .divu _ _ | .divsu _ _ | .and _ _ | .nand _ _ | .or _ _
  | .nor _ _ | .eor _ _ | .enor _ _ | .mulh _ _ | .muluh _ _ | .chrndx _ _ | .chrndxImm _ _ | .clmul _ _
  | .clmulImm _ _ | .mod _ _ | .modu _ _ | .bmap _ _ | .jmpIdx _ _ | .jmpIdxInd _ _ | .jsrIdx _ _ | .jsrIdxInd _ _
  | .seq _ _ | .sne _ _ | .slt _ _ | .sge _ _ | .sle _ _ | .sgt _ _ | .sltu _ _ | .sgeu _ _ | .sleu _ _ | .sgtu _ _
  | .pred _ _ | .carry _ _ | .rep _ _ | .atom _ _ | .round _ _ | .v2bits _ _ | .cntlz _ _ | .cntlo _ _
  | .cntpop _ _ | .abs _ _ | .sqrt _ _ | .revbit _ _ | .sha256sig0 _ _ | .sha256sig1 _ _ | .sha256sum0 _ _
  | .sha256sum1 _ _ | .sha512sig0 _ _ | .sha512sig1 _ _ | .csrrd _ _ | .csrrdImm _ _ | .csrwr _ _ | .csrwrImm _ _
  | .csrrs _ _ | .csrrsImm _ _ | .csrrc _ _ | .csrrcImm _ _ | .csreor _ _ | .csreorImm _ _ | .cpuid _ _
  | .cpuidImm _ _ | .getvl _ _ | .setvl _ _ | .setvlImm _ _ | .addi _ _ | .rtdImm _ _ | .rtsImm _ _ | .rte1 _ _
  | .rte2 _ _ | .cmpi _ _ | .muli _ _ | .mului _ _ | .divi _ _ | .andi _ _ | .nandi _ _ | .ori _ _ | .nori _ _
  | .orf _ _ | .eori _ _ | .enori _ _ | .chk _ _ | .chki _ _ | .bmapImm _ _ | .fscaleb _ _ | .fscalebImm _ _
  | .fadd _ _ | .fsub _ _ | .fcmp _ _ | .fmul _ _ | .fdiv _ _ | .fseq _ _ | .fsne _ _ | .fsle _ _ | .fslt _ _
  | .fsge _ _ | .fsgt _ _ | .ftrunc _ _ | .fabs _ _ | .fneg _ _ | .faddi _ _ | .fcmpi _ _ | .fmuli _ _ | .fdivi _ _
  | .clr _ _ | .clrImm _ _ | .set _ _ | .setImm _ _ | .com _ _ | .comImm _ _ | .sbx _ _ | .sbxImm _ _ | .extu _ _
  | .extuImm _ _ | .exts _ _ | .extsImm _ _ | .dep _ _ | .depImm _ _ | .asl _ _ | .aslImm _ _ | .asr _ _
  | .asrImm _ _ | .lsl _ _ | .lslImm _ _ | .lsland _ _ | .lslandImm _ _ | .lslor _ _ | .lslorImm _ _ | .lslxor _ _
  | .lslxorImm _ _ | .lsr _ _ | .lsrImm _ _ | .rol _ _ | .rolImm _ _ | .ror _ _ | .rorImm _ _ | .vshlv _ _
  | .vshrv _ _ | .vshlvi _ _ | .vshrvi _ _ | .load _ _ _ | .loadX _ _ _ | .loadg _ _ _ | .loadgX _ _ _
  | .fload _ _ _ | .floadX _ _ _ | .loadz _ _ _ | .loadzX _ _ _ | .la _ _ | .laX _ _ | .stptrT _ _ | .stptrTX _ _
  | .stptrO _ _ | .stptrOX _ _ | .stptrH _ _ | .stptrHX _ _ | .cache _ _ | .cacheX _ _ | .store _ _ _
  | .storeX _ _ _ | .storeg _ _ _ | .storegX _ _ _ | .fstore _ _ _ | .fstoreX _ _ _ | .jmp _ _ | .jmpInd _ _
  | .jsr _ _ | .jsrInd _ _ | .braTable _ _ | .bsrTable _ _ | .cmpxchg _ _ | .storePair _ _ | .ammin _ _
  | .amadd _ _ | .amaddImm _ _ | .amasl _ _ | .amaslImm _ _ | .amlsr _ _ | .amlsrImm _ _ | .amand _ _
  | .amandImm _ _ | .amor _ _ | .amorImm _ _ | .ameor _ _ | .ameorImm _ _ | .amminu _ _ | .bcmp _ _ | .bfnd _ _
  | .bmov _ _ | .bset _ _ | .beq _ _ | .bne _ _ | .blt _ _ | .ble _ _ | .bge _ _ | .bgt _ _ | .bbc _ _ | .bbs _ _
  | .bbcImm _ _ | .bbsImm _ _ | .bltu _ _ | .bleu _ _ | .bgeu _ _ | .bgtu _ _ | .fbeq _ _ | .fbne _ _ | .fbgt _ _
  | .fbugt _ _ | .fbge _ _ | .fbuge _ _ | .fblt _ _ | .fbult _ _ | .fble _ _ | .fbule _ _ | .fbgl _ _ | .fbugl _ _
  | .fbord _ _ | .fbun _ _ | .bra _ _ | .bsr _ _ _ | .lbeq _ _ | .lbne _ _ | .lblt _ _ | .lble _ _ | .lbge _ _
  | .lbgt _ _ | .lbbc _ _ | .lbbs _ _ | .lbbcImm _ _ | .lbbsImm _ _ | .lbltu _ _ | .lbleu _ _ | .lbgeu _ _
  | .lbgtu _ _ | .lfbeq _ _ | .lfbne _ _ | .lfbgt _ _ | .lfbugt _ _ | .lfbge _ _ | .lfbuge _ _ | .lfblt _ _
  | .lfbult _ _ | .lfble _ _ | .lfbule _ _ | .lfbgl _ _ | .lfbugl _ _ | .lfbord _ _ | .lfbun _ _ | .lbra _ _
  | .lbsr _ _ _ | .dbcc _ _ | .dbccFloat _ _ | .nop _ | .vaddVV _ _ | .vaddVS _ _ | .vaddImm _ _ | .vandVV _ _
  | .vandVS _ _ | .vandImm _ _ => .plain

/-- What follows the base word of an instruction that takes a scalar mask: one that has an operation, in its scalar form
(30_encoding R240). -/
def scalarExt : Instr → Option Ext
  | .add o x | .sub o x | .cmp o x | .cmpsB o x | .mul o x | .mulu o x | .mulsu o x | .div o x | .divu o x | .divsu o x
  | .and o x | .nand o x | .or o x | .nor o x | .eor o x | .enor o x | .mulh o x | .muluh o x | .chrndx o x | .clmul o x
  | .mod o x | .modu o x | .bmap o x | .seq o x | .sne o x | .slt o x | .sge o x | .sle o x | .sgt o x | .sltu o x |
  .sgeu o x | .sleu o x | .sgtu o x | .sm4ed o x | .sm4ks o x | .asl o x | .asr o x | .lsl o x | .lsland o x |
  .lslor o x | .lslxor o x | .lsr o x | .rol o x | .ror o x | .vaddVV o x | .vaddVS o x | .vandVV o x | .vandVS o x =>
    if o.vec = .scalar then some x else none
  | .cntlz o x | .cntlo o x | .cntpop o x | .abs o x | .sqrt o x | .revbit o x | .sm3p0 o x | .sm3p1 o x | .aes64ds o x
  | .aes64dsm o x | .aes64es o x | .aes64esm o x | .sha256sig0 o x | .sha256sig1 o x | .sha256sum0 o x | .sha256sum1 o x
  | .sha512sig0 o x | .sha512sig1 o x | .sha512sum0 o x | .sha512sum1 o x =>
    if o.vec = .scalar then some x else none
  | .chk o x =>
    if o.vec = .scalar then some x else none
  | .chki o x =>
    if o.vec = .scalar then some x else none
  | .fscaleb o x | .fadd o x | .fsub o x | .fcmp o x | .fmul o x | .fdiv o x | .fseq o x | .fsne o x | .fsle o x |
  .fslt o x | .fsge o x | .fsgt o x =>
    if o.vec = .scalar then some x else none
  | .ftrunc o x | .fabs o x | .fneg o x =>
    if o.vec = .scalar then some x else none
  | .clr o x | .set o x | .com o x | .sbx o x | .extu o x | .exts o x | .dep o x =>
    if o.vec = .scalar then some x else none
  | .chrndxImm o x | .clmulImm o x =>
    if o.vec = false then some x else none
  | .addi o x | .cmpi o x | .muli o x | .mului o x | .divi o x | .andi o x | .nandi o x | .ori o x | .nori o x |
  .orf o x | .eori o x | .enori o x | .bmapImm o x | .vaddImm o x | .vandImm o x =>
    if o.vec = false then some x else none
  | .fscalebImm o x =>
    if o.vec = false then some x else none
  | .faddi o x | .fcmpi o x | .fmuli o x | .fdivi o x =>
    if o.vec = false then some x else none
  | .clrImm o x | .setImm o x | .comImm o x | .sbxImm o x | .extuImm o x | .extsImm o x | .depImm o x =>
    if o.vec = false then some x else none
  | .aslImm o x | .asrImm o x | .lslImm o x | .lslandImm o x | .lslorImm o x | .lslxorImm o x | .lsrImm o x |
  .rolImm o x | .rorImm o x =>
    if o.vec = false then some x else none
  | .load _ o x | .loadz _ o x | .store _ o x | .fload _ o x | .fstore _ o x =>
    if o.vd = false then some x else none
  | .loadX _ o x | .loadzX _ o x | .storeX _ o x | .floadX _ o x | .fstoreX _ o x =>
    if o.vec = .scalar then some x else none
  | .csrrd _ x | .csrwr _ x | .csrrs _ x | .csrrc _ x | .csreor _ x | .cpuid _ x | .setvl _ x | .csrrdImm _ x |
  .csrwrImm _ x | .csrrsImm _ x | .csrrcImm _ x | .csreorImm _ x | .cpuidImm _ x | .setvlImm _ x | .getvl _ x | .la _ x
  | .laX _ x | .stptrT _ x | .stptrO _ x | .stptrH _ x | .cache _ x | .stptrTX _ x | .stptrOX _ x | .stptrHX _ x |
  .cacheX _ x | .cmpxchg _ x | .storePair _ x | .ammin _ x | .amadd _ x | .amasl _ x | .amlsr _ x | .amand _ x |
  .amor _ x | .ameor _ x | .amminu _ x | .amaddImm _ x | .amaslImm _ x | .amlsrImm _ x | .amandImm _ x | .amorImm _ x |
  .ameorImm _ x | .bcmp _ x | .bfnd _ x | .bmov _ x | .bset _ x => some x
  | .brk _ | .trapRa _ _ | .trapImm _ _ | .rtdReg _ _ | .rtsReg _ _ | .jmpIdx _ _ | .jmpIdxInd _ _ | .jsrIdx _ _
  | .jsrIdxInd _ _ | .pred _ _ | .carry _ _ | .rep _ _ | .atom _ _ | .round _ _ | .v2bits _ _ | .dif _ _
  | .ptrdif _ _ | .revbitMap _ _ | .bits2v _ _ | .vex _ _ | .veins _ _ | .vgndx _ _ | .sgeuMap _ _ | .sgtuMap _ _
  | .min _ _ | .max _ _ | .bmm _ _ | .mux _ _ | .aes64ks1i _ _ | .aes64ks2 _ _ | .aes64im _ _ | .rtdImm _ _
  | .rtsImm _ _ | .rte1 _ _ | .rte2 _ _ | .fmin _ _ | .fmax _ _ | .fnxt _ _ | .frem _ _ | .ftoi _ _ | .itof _ _
  | .fsign _ _ | .fsig _ _ | .fsqrt _ _ | .fs2d _ _ | .fs2q _ _ | .fd2q _ _ | .isnan _ _ | .finite _ _ | .fres _ _
  | .fd2s _ _ | .fq2s _ _ | .fq2d _ _ | .fclass _ _ | .fma _ _ | .bitrr _ _ | .vshlv _ _ | .vshrv _ _ | .vshlvi _ _
  | .vshrvi _ _ | .loadg _ _ _ | .loadgX _ _ _ | .storeg _ _ _ | .storegX _ _ _ | .jmp _ _ | .jmpInd _ _ | .jsr _ _
  | .jsrInd _ _ | .braTable _ _ | .bsrTable _ _ | .amswap _ _ | .ammax _ _ | .ammaxu _ _ | .amcas _ _
  | .amswapImm _ _ | .amminImm _ _ | .ammaxImm _ _ | .amminuImm _ _ | .ammaxuImm _ _ | .amcasImm _ _ | .beq _ _
  | .bne _ _ | .blt _ _ | .ble _ _ | .bge _ _ | .bgt _ _ | .bbc _ _ | .bbs _ _ | .bbcImm _ _ | .bbsImm _ _
  | .bltu _ _ | .bleu _ _ | .bgeu _ _ | .bgtu _ _ | .fbeq _ _ | .fbne _ _ | .fbgt _ _ | .fbugt _ _ | .fbge _ _
  | .fbuge _ _ | .fblt _ _ | .fbult _ _ | .fble _ _ | .fbule _ _ | .fbgl _ _ | .fbugl _ _ | .fbord _ _ | .fbun _ _
  | .pbcc _ _ | .dfbcc _ _ | .bra _ _ | .bsr _ _ _ | .lbeq _ _ | .lbne _ _ | .lblt _ _ | .lble _ _ | .lbge _ _
  | .lbgt _ _ | .lbbc _ _ | .lbbs _ _ | .lbbcImm _ _ | .lbbsImm _ _ | .lbltu _ _ | .lbleu _ _ | .lbgeu _ _
  | .lbgtu _ _ | .lfbeq _ _ | .lfbne _ _ | .lfbgt _ _ | .lfbugt _ _ | .lfbge _ _ | .lfbuge _ _ | .lfblt _ _
  | .lfbult _ _ | .lfble _ _ | .lfbule _ _ | .lfbgl _ _ | .lfbugl _ _ | .lfbord _ _ | .lfbun _ _ | .lpbcc _ _
  | .ldfbcc _ _ | .lbra _ _ | .lbsr _ _ _ | .dbcc _ _ | .dbccFloat _ _ | .dbccPosit _ _ | .dbccDecimal _ _
  | .pfx0 _ | .pfx1 _ | .pfx2 _ | .regs _ | .nop _ => none

/-- A scalar mask other than one keeps the instruction from executing (30_encoding R240). -/
def State.maskedOff (s : State) (i : Instr) : Prop :=
  ∃ x m, scalarExt i = some x ∧ x.mask = some m ∧ (if m.svm then ~~~s.reg m.vm else s.reg m.vm) ≠ 1

/-! Division. -/

/-- A division instruction with divisor `d k` and result `f k` for element k (40_integer R337): a scalar form writes the
result, sign-extended; a zero divisor raises vector 64 under DIV0_TRAPS, and else the target gets some value. A vector form
writes the results of the enabled elements whose divisor is not zero, provided no zero divisor traps. -/
def Divides (i : Instr) (s : State) (x : Ext) (vec : Bool) (w : Nat) (rt : Reg) (d f : Nat → BitVec w) : Prop :=
  s.enabled x vec →
    if vec then
      (s.params.div0Traps = false ∨ ∀ k, k < s.elems w → (s.vecMask x.mask).getLsbD k = true → d k ≠ 0) →
        ∃ t, exec i s = .next t ∧
          LanesRel s t w rt (s.vecMask x.mask) (extLen x) fun k r => d k ≠ 0 → r = f k
    else
      (d 0 ≠ 0 → exec i s = .next (s.wrote (extLen x) rt ((f 0).signExtend 128))) ∧
      (d 0 = 0 → s.params.div0Traps = true → Traps i s 64 none) ∧
      (d 0 = 0 → s.params.div0Traps = false →
        ∃ v : BitVec w, exec i s = .next { s.wrote (extLen x) rt (v.signExtend 128) with draws := s.draws + 1 })

end Sys2Proof.Machine
end

