-- ==== Sys2Proof/Certificates/Slice0/Obligations.lean ====
section
/-! DEFINITION. The statements for the provers (OBLIGATIONS.json lists them). In a statement about an instruction, `vec` says
whether it is a vector form, `x` what follows its base word; `Computes` (Safety.lean) says that it completes, what its
target holds then, and that nothing else changes. -/

open Sys2Proof Sys2Proof.Machine

/-- General registers (10_state R20 to R23): r0 reads zero, under its complement bit all ones, and discards writes; r53
reads as the program counter, and a write to it goes to the stack canary; r63 is the stack pointer of the operating
mode; every other register holds what was last written, and a write to a register changes no other register. Clauses
rest on the decisions D17, D18 of 92_eei_decisions. -/
def Obligations.RegisterFileReadsAndWrites : Prop :=
  ∀ (s : State) (r : Reg) (v : Word),
    s.reg 0 = 0 ∧ s.reg 53 = s.pc.setWidth 128 ∧ s.reg 63 = s.bank s.mode ∧
    s.setReg 0 v = s ∧ s.setReg 53 v = { s with sc := v } ∧ s.setReg 63 v = s.setBank s.mode v ∧
    (r ≠ 0 → r ≠ 53 → (s.setReg r v).reg r = v) ∧
    (∀ q, q ≠ r → (s.setReg r v).reg q = s.reg q) ∧
    (∀ m n : BitVec 2, (s.setBank m v).bank n = if n = m then v else s.bank n) ∧
    (r ≠ 0 → r ≠ 53 → r ≠ 63 → s.setReg r v = { s with gpr := s.gpr.set r.toNat v }) ∧
    ∀ w k, (Src.reg 0).value .compl true s w k = BitVec.allOnes w ∧ (Src.reg 0).value .neg true s w k = BitVec.allOnes w

/-- r63 is banked (10_state R23): a read or a write reaches the stack pointer of the operating mode SR.om, and no
other; the REGS list names ASP, SSP and HSP by its bits 61 to 63, whatever the mode, and r63 by none. -/
def Obligations.StackPointersAreBanked : Prop :=
  ∀ (s : State) (v : Word),
    let om := s.sr.extractLsb' 10 2
    s.reg 63 = (if om = 0 then s.asp else if om = 1 then s.ssp else if om = 2 then s.hsp else s.msp) ∧
    s.setReg 63 v = (if om = 0 then { s with asp := v } else if om = 1 then { s with ssp := v }
      else if om = 2 then { s with hsp := v } else { s with msp := v }) ∧
    (∀ i, i < 64 → regsBit i ≠ .reg 63) ∧
    regsBit 61 = .bank 0 ∧ regsBit 62 = .bank 1 ∧ regsBit 63 = .bank 2 ∧
    (Tgt.bank 0).value s = s.asp ∧ (Tgt.bank 1).value s = s.ssp ∧ (Tgt.bank 2).value s = s.hsp ∧
    loadTo (.bank 0) v s = .ok () { s with asp := v } ∧ loadTo (.bank 1) v s = .ok () { s with ssp := v } ∧
    loadTo (.bank 2) v s = .ok () { s with hsp := v }

/-- The operands of the register and the immediate format (30_encoding R216, R222, R232): an S bit negates or complements a
register's value at the operand width, element by element in a vector form, and r0 under it reads as all ones either way
(10_state R21; a scalar SUB under a CARRY window complements instead, log 23); a constant of the postfixes replaces Rb or
the field and is not changed. The S bit of a floating-point operand flips bit 127, of r0 too, which gives minus zero
(42_float R406; log 23). The constant of a postfix run (30_encoding R231): the words of types 0, 1 and 2 fill a 128-bit
buffer from the bottom, and the constant is sign-extended from the width the highest type gives: 32, 64 or 128 bits. A
floating-point constant (30_encoding R233; 42_float R405) is the half precision field, or the single, double or quad value
of the run, as a quad number of the same value. Clauses rest on the decisions D37, D42 of 92_eei_decisions. -/
def Obligations.OperandsAndPostfixConstants : Prop :=
  (∀ (o : R2) (x : Ext) (s : State) (k : Nat),
    let a := if o.vec = .scalar then (s.reg o.ra).setWidth o.size.bits else s.elem o.size.bits o.ra k
    let b := if o.vec = .vv then s.elem o.size.bits o.rb k else (s.reg o.rb).setWidth o.size.bits
    let na := if o.vec = .scalar ∧ o.ra = 0 then BitVec.allOnes o.size.bits else -a
    let nb := if o.vec ≠ .vv ∧ o.rb = 0 then BitVec.allOnes o.size.bits else -b
    o.a .neg s k = (if o.sa then na else a) ∧ o.a .compl s k = (if o.sa then ~~~a else a) ∧
    (x.tail.const = none →
      o.b .neg x.tail s k = (if o.sb then nb else b) ∧ o.b .compl x.tail s k = (if o.sb then ~~~b else b)) ∧
    ∀ c, x.tail.const = some c → ∀ d, o.b d x.tail s k = c.setWidth o.size.bits) ∧
  (∀ (o : RI) (t : Tail) (s : State) (k : Nat),
    let a := if o.vec then s.elem o.size.bits o.ra k else (s.reg o.ra).setWidth o.size.bits
    o.a .neg s k = (if o.sa then if o.vec = false ∧ o.ra = 0 then BitVec.allOnes o.size.bits else -a else a) ∧
    o.a .compl s k = (if o.sa then ~~~a else a) ∧
    (t.const = none → o.b t = (o.imm.signExtend 128).setWidth o.size.bits) ∧
    ∀ c, t.const = some c → o.b t = c.setWidth o.size.bits) ∧
  (∀ (vec on : Bool) (r : Reg) (s : State) (k j : Nat), j < 128 →
    let a := if vec then s.elem 128 r k else s.reg r
    ((srcOf vec r).value .sign on s 128 k).getLsbD j = (a.getLsbD j != (on && decide (j = 127)))) ∧
  (∀ (f : BitVec 16) (t : Tail) (s : State),
    let is := fun (fmt : Fmt) (v : Nat) =>
      ∃ r d, floatConst f t s = .ok r { s with draws := d } ∧ FVal.same (quadVal r) (fmt.value v)
    (t.w0 = none → t.w1 = none → t.w2 = none →
      is .half f.toNat ∧ floatTail t s = .ok none s) ∧
    (∀ a, t.w0 = some a → t.w1 = none → t.w2 = none → is .single a.toNat) ∧
    (∀ b, t.w1 = some b → t.w2 = none → is .double (b ++ t.w0.getD 0).toNat) ∧
    (∀ c d, t.w2 = some (c, d) → floatConst f t s = .ok (d ++ (c ++ (t.w1.getD 0 ++ t.w0.getD 0))) s) ∧
    ((t.w0.isSome ∨ t.w1.isSome ∨ t.w2.isSome) →
      ∃ r u, floatConst f t s = .ok r u ∧ floatTail t s = .ok (some r) u)) ∧
  ∀ (t : Tail) (a b c d : BitVec 32),
    ((t.w0 = none ∧ t.w1 = none ∧ t.w2 = none) → t.const = none) ∧
    ((t.w0 = some a ∧ t.w1 = none ∧ t.w2 = none) → t.const = some (a.signExtend 128)) ∧
    ((t.w0 = none ∧ t.w1 = some b ∧ t.w2 = none) → t.const = some ((b ++ 0#32).signExtend 128)) ∧
    ((t.w0 = some a ∧ t.w1 = some b ∧ t.w2 = none) → t.const = some ((b ++ a).signExtend 128)) ∧
    (t.w2 = some (c, d) → t.const = some (d ++ (c ++ (t.w1.getD 0 ++ t.w0.getD 0))))

/-- ADD, SUB and the products outside a CARRY window, and their vector forms, the high halves and ABS whatever the window
(40_integer R305 to R308, R340 to R345; 41_vector R384 to R386): sums and products modulo 2^W, negated under St,
sign-extended to a register. SUB, which is ADD with Sb = 1, subtracts Rb, or adds a constant of the postfixes; of r0 it adds
all ones (10_state R21, by the model's reading of R21 beside R308; log 23). Clauses rest on the decisions D19, D24, D45 of
92_eei_decisions. -/
def Obligations.SumsAndProducts : Prop :=
  ∀ (o : R2) (i : RI) (u : R1) (x : Ext) (s : State),
    let w := o.size.bits
    let r2 := fun (c : Instr) (f : Nat → BitVec w) =>
      Computes c s x (o.vec != .scalar) w o.rt fun k => (if o.st then -f k else f k).signExtend 128
    let ri := fun (c : Instr) (f : Nat → BitVec i.size.bits) =>
      Computes c s x i.vec i.size.bits i.rt fun k => (if i.st then -f k else f k).signExtend 128
    let a := fun k => o.a .neg s k
    let b := fun k => o.b .neg x.tail s k
    let p := fun k => { o with sb := false }.b .neg x.tail s k
    let n := fun k => i.a .neg s k
    (s.win.carry = none ∨ o.vec ≠ .scalar →
      r2 (.add o x) (fun k => a k + p k) ∧
      r2 (.sub o x) (fun k => if x.tail.const.isSome then a k + p k
        else if o.vec ≠ .vv ∧ o.rb = 0 then a k + BitVec.allOnes w else a k - p k) ∧
      r2 (.vaddVV o x) (fun k => a k + p k) ∧ r2 (.vaddVS o x) (fun k => a k + p k) ∧
      r2 (.mul o x) (fun k => a k * b k) ∧ r2 (.mulu o x) (fun k => a k * b k) ∧ r2 (.mulsu o x) (fun k => a k * b k)) ∧
    r2 (.mulh o x) (fun k => ((a k).signExtend (2 * w) * (b k).signExtend (2 * w)).extractLsb' w w) ∧
    r2 (.muluh o x) (fun k => ((a k).setWidth (2 * w) * (b k).setWidth (2 * w)).extractLsb' w w) ∧
    (s.win.carry = none ∨ i.vec = true →
      ri (.addi i x) (fun k => n k + i.b x.tail) ∧ ri (.vaddImm i x) (fun k => n k + i.b x.tail) ∧
      ri (.muli i x) (fun k => n k * i.b x.tail) ∧ ri (.mului i x) (fun k => n k * i.b x.tail)) ∧
    Computes (.abs u x) s x (u.vec != .scalar) u.size.bits u.rt fun k =>
      let v := (srcOf (u.vec != .scalar) u.ra).value .neg u.sa s u.size.bits k
      (if u.st then -(if v.toInt < 0 then -v else v) else if v.toInt < 0 then -v else v).signExtend 128

/-- Division (40_integer R333 to R339; D20), the scalar quotients outside a CARRY window: the quotient truncated toward
zero and the remainder with the sign of the dividend, negated under St. A zero divisor raises vector 64 when DIV0_TRAPS
is set; otherwise the instruction completes, and that one result is a free value (log 7). Clauses rest on the decisions
D8, D20, D24 of 92_eei_decisions. -/
def Obligations.QuotientsAndRemainders : Prop :=
  ∀ (o : R2) (i : RI) (x : Ext) (s : State),
    let w := o.size.bits
    let r2 := fun (c : Instr) (f : Nat → BitVec w) =>
      Divides c s x (o.vec != .scalar) w o.rt (fun k => o.b .neg x.tail s k) fun k => if o.st then -f k else f k
    let a := fun k => o.a .neg s k
    let b := fun k => o.b .neg x.tail s k
    let n := fun k => i.a .neg s k
    let m := i.b x.tail
    (s.win.carry = none ∨ o.vec ≠ .scalar →
      r2 (.div o x) (fun k => (a k).sdiv (b k)) ∧ r2 (.divu o x) (fun k => a k / b k) ∧
      r2 (.divsu o x) (fun k => BitVec.ofInt w ((a k).toInt.tdiv (b k).toNat))) ∧
    r2 (.mod o x) (fun k => (a k).srem (b k)) ∧ r2 (.modu o x) (fun k => a k % b k) ∧
    (s.win.carry = none ∨ i.vec = true → Divides (.divi i x) s x i.vec i.size.bits i.rt (fun k => if i.sw then n k else m) fun k =>
      if i.st then -(if i.sw then m.sdiv (n k) else (n k).sdiv m) else if i.sw then m.sdiv (n k) else (n k).sdiv m)

/-- The bitwise instructions (40_integer R309 to R322; 41_vector R387), in scalar and vector forms: AND, OR and EOR of
the operands, each possibly complemented; NAND, NOR and ENOR give the complement. Results are sign-extended. -/
def Obligations.BitwiseLogic : Prop :=
  ∀ (o : R2) (i : RI) (x : Ext) (s : State),
    let r2 := fun (c : Instr) (f : Nat → BitVec o.size.bits) =>
      Computes c s x (o.vec != .scalar) o.size.bits o.rt fun k => (f k).signExtend 128
    let ri := fun (c : Instr) (f : Nat → BitVec i.size.bits) =>
      Computes c s x i.vec i.size.bits i.rt fun k => (f k).signExtend 128
    let a := fun k => o.a .compl s k
    let b := fun k => o.b .compl x.tail s k
    let n := fun k => i.a .compl s k
    let m := i.b x.tail
    r2 (.and o x) (fun k => a k &&& b k) ∧ r2 (.nand o x) (fun k => ~~~(a k &&& b k)) ∧
    r2 (.or o x) (fun k => a k ||| b k) ∧ r2 (.nor o x) (fun k => ~~~(a k ||| b k)) ∧
    r2 (.eor o x) (fun k => a k ^^^ b k) ∧ r2 (.enor o x) (fun k => ~~~(a k ^^^ b k)) ∧
    r2 (.vandVV o x) (fun k => a k &&& b k) ∧ r2 (.vandVS o x) (fun k => a k &&& b k) ∧
    ri (.andi i x) (fun k => n k &&& m) ∧ ri (.nandi i x) (fun k => ~~~(n k &&& m)) ∧
    ri (.ori i x) (fun k => n k ||| m) ∧ ri (.nori i x) (fun k => ~~~(n k ||| m)) ∧
    ri (.eori i x) (fun k => n k ^^^ m) ∧ ri (.enori i x) (fun k => ~~~(n k ^^^ m)) ∧
    ri (.vandImm i x) (fun k => n k &&& m)

/-- The set instructions (40_integer R303, R348 to R357) write 1 or 0; bit 31 swaps the operands (30_encoding R218), but of
SEQ and SNE, whose rule holds it at 0, so that their words with a 1 there are reserved (R250; log 60); Sa and Sb negate
(R216, R217; log 23), and vector forms compare element by element (41_vector R380); and the words of the spec's examples
decode to them. SGEU is SLTU's twin under St, as 90_conflicts C13 has it. Clauses rest on the decisions D24, D42 of
92_eei_decisions. -/
def Obligations.SetInstructions : Prop :=
  (∀ (o : R2) (x : Ext) (s : State),
    let set := fun (c : Instr) (p : Nat → Prop) => ∃ f : Nat → Word,
      Computes c s x (o.vec != .scalar) o.size.bits o.rt f ∧ ∀ k, (p k → f k = 1) ∧ (¬ p k → f k = 0)
    let a := fun k => if o.sw then o.b .neg x.tail s k else o.a .neg s k
    let b := fun k => if o.sw then o.a .neg s k else o.b .neg x.tail s k
    set (.seq o x) (fun k => o.a .neg s k = o.b .neg x.tail s k) ∧
    set (.sne o x) (fun k => o.a .neg s k ≠ o.b .neg x.tail s k) ∧
    set (.slt o x) (fun k => (a k).toInt < (b k).toInt) ∧ set (.sge o x) (fun k => (b k).toInt ≤ (a k).toInt) ∧
    set (.sle o x) (fun k => (a k).toInt ≤ (b k).toInt) ∧ set (.sgt o x) (fun k => (b k).toInt < (a k).toInt) ∧
    set (.sltu o x) (fun k => (a k).toNat < (b k).toNat) ∧ set (.sgeu o x) (fun k => (b k).toNat ≤ (a k).toNat) ∧
    set (.sleu o x) (fun k => (a k).toNat ≤ (b k).toNat) ∧ set (.sgtu o x) (fun k => (b k).toNat < (a k).toNat)) ∧
  let word := fun (w : Nat) (i : R2 → Ext → Instr) (st : Bool) =>
    decodeTableWord 40 w = some (i ⟨3, st, 4, false, 5, false, false, .scalar, .o⟩ Ext.empty)
  word 0x6802840662 .seq false ∧ word 0x6802848662 .sne true ∧
  word 0x6C02840662 .slt false ∧ word 0x6C02848662 .sge true ∧
  word 0x7002840662 .sle false ∧ word 0x7002848662 .sgt true ∧
  word 0x7402840662 .sltu false ∧ word 0x7402848662 .sgeu true ∧
  word 0x7802840662 .sleu false ∧ word 0x7802848662 .sgtu true ∧
  decodeTableWord 40 0x6882840662 = none ∧ decodeTableWord 40 0x6882848662 = none

/-- CMP, CMPI and CMPS.B write the whole result vector to the target (40_integer R311 to R314), zero-extended; bit 31 swaps
the operands of CMPI, and of CMP by 30_encoding R218, against the figure of R311, which draws it 0 (log 60); CMPS.B compares
the low bytes. The bits of the vector are those of R312: The bits of the CMP result vector (40_integer R312): EQ, NE, the
signed relations, bit clear and bit set, the unsigned relations; bits 8, 9, 14 and 15 are zero. CMPS.B's vector has the
first six (R314). Clauses rest on the decision D43 of 92_eei_decisions. -/
def Obligations.CompareInstructionsAndTheirBits : Prop :=
  (∀ (o : R2) (i : RI) (x : Ext) (s : State),
    let c := { o with size := Size.b }
    Computes (.cmp o x) s x (o.vec != .scalar) o.size.bits o.rt
      (fun k => (if o.sw then relvec (o.b .neg x.tail s k) (o.a .neg s k)
        else relvec (o.a .neg s k) (o.b .neg x.tail s k)).setWidth 128) ∧
    Computes (.cmpsB o x) s x (o.vec != .scalar) 8 o.rt
      (fun k => (relSigned (c.a .neg s k) (c.b .neg x.tail s k)).setWidth 128) ∧
    Computes (.cmpi i x) s x i.vec i.size.bits i.rt
      (fun k => (if i.sw then relvec (i.b x.tail) (i.a .neg s k)
        else relvec (i.a .neg s k) (i.b x.tail)).setWidth 128)) ∧
  ∀ (w : Nat) (a b : BitVec w),
    ((relvec a b).getLsbD 0 = true ↔ a = b) ∧ ((relvec a b).getLsbD 1 = true ↔ a ≠ b) ∧
    ((relvec a b).getLsbD 2 = true ↔ a.toInt < b.toInt) ∧ ((relvec a b).getLsbD 3 = true ↔ a.toInt ≤ b.toInt) ∧
    ((relvec a b).getLsbD 4 = true ↔ b.toInt ≤ a.toInt) ∧ ((relvec a b).getLsbD 5 = true ↔ b.toInt < a.toInt) ∧
    ((relvec a b).getLsbD 6 = true ↔ a.getLsbD b.toNat = false) ∧
    ((relvec a b).getLsbD 7 = true ↔ a.getLsbD b.toNat = true) ∧
    ((relvec a b).getLsbD 10 = true ↔ a.toNat < b.toNat) ∧ ((relvec a b).getLsbD 11 = true ↔ a.toNat ≤ b.toNat) ∧
    ((relvec a b).getLsbD 12 = true ↔ b.toNat ≤ a.toNat) ∧ ((relvec a b).getLsbD 13 = true ↔ b.toNat < a.toNat) ∧
    (∀ k, k = 8 ∨ k = 9 ∨ 14 ≤ k → (relvec a b).getLsbD k = false) ∧
    ∀ k, (relSigned a b).getLsbD k = (decide (k < 6) && (relvec a b).getLsbD k)

/-- The CARRY window (49_modifiers R714, R715): where the two mask bits of this position say so, ADD, SUB and the products
add the carry in, ADD, SUB, the products and the quotients leave a carry out: the sum or product above the operand width, or
the remainder. SUB adds the complement of Rb, of r0 as of any register, and one, or the carry; with a constant it is an
addition (log 23). The remainder is zero-extended; a zero divisor raises vector 64 or gives a free quotient and a free
remainder (log 7, 24). The window's carry stays where no carry goes out. Clauses rest on the decisions D8, D20, D38 of
92_eei_decisions. -/
def Obligations.CarryInAndCarryOut : Prop :=
  ∀ (o : R2) (i : RI) (x : Ext) (s : State) (wd : Window), s.win.carry = some wd → o.vec = .scalar → i.vec = false →
    s.enabled x false →
    let cin := wd.mask.getLsbD (2 * wd.pos.toNat)
    let cout := wd.mask.getLsbD (2 * wd.pos.toNat + 1)
    let cy := s.win.cy.toNat
    let w := o.size.bits
    let a := o.a .neg s 0
    let b := o.b .neg x.tail s 0
    let p := { o with sb := false }.b .neg x.tail s 0
    let n := i.a .neg s 0
    let m := i.b x.tail
    let gives := fun (c : Instr) (rt : Reg) (v : Word) (carry : Nat) =>
      exec c s = .next { s.wrote (extLen x) rt v with
        win := { s.win with cy := if cout then .ofNat 128 carry else s.win.cy } }
    let sum := fun (c : Instr) (q : Nat) =>
      gives c o.rt ((if o.st then -BitVec.ofNat w q else BitVec.ofNat w q).signExtend 128) (q / 2 ^ w)
    let prod := fun (c : Instr) (q : Int) =>
      let q := ((q + if cin then (cy : Int) else 0) % 2 ^ (2 * w)).toNat
      gives c o.rt ((if o.st then -BitVec.ofNat w q else BitVec.ofNat w q).signExtend 128) (q / 2 ^ w)
    let open_ := fun (c : Instr) (z : Nat) (rt : Reg) (st : Bool) =>
      (s.params.div0Traps = true → Traps c s 64 none) ∧
      (s.params.div0Traps = false → ∃ q r : BitVec z, exec c s = .next
        { s.wrote (extLen x) rt ((if st then -q else q).signExtend 128) with
          draws := s.draws + 1
          win := { s.win with cy := if cout then .ofNat 128 r.toNat else s.win.cy } })
    let quot := fun (c : Instr) (q r : BitVec w) =>
      (b ≠ 0 → gives c o.rt ((if o.st then -q else q).signExtend 128) r.toNat) ∧ (b = 0 → open_ c w o.rt o.st)
    sum (.add o x) (a.toNat + p.toNat + if cin then cy else 0) ∧
    (x.tail.const = none → sum (.sub o x) (a.toNat + (~~~p).toNat + if cin then cy else 1)) ∧
    (x.tail.const.isSome → sum (.sub o x) (a.toNat + p.toNat + if cin then cy else 0)) ∧
    prod (.mul o x) (a.toInt * b.toInt) ∧ prod (.mulu o x) (a.toNat * b.toNat) ∧
    prod (.mulsu o x) (a.toInt * b.toNat) ∧
    quot (.div o x) (a.sdiv b) (a.srem b) ∧ quot (.divu o x) (a / b) (a % b) ∧
    quot (.divsu o x) (BitVec.ofInt w (a.toInt.tdiv b.toNat)) (BitVec.ofInt w (a.toInt.tmod b.toNat)) ∧
    (let q := n.toNat + m.toNat + if cin then cy else 0
     gives (.addi i x) i.rt
      ((if i.st then -BitVec.ofNat i.size.bits q else BitVec.ofNat i.size.bits q).signExtend 128) (q / 2 ^ i.size.bits)) ∧
    (let prodi := fun (c : Instr) (q : Int) =>
      let q := ((q + if cin then (cy : Int) else 0) % 2 ^ (2 * i.size.bits)).toNat
      gives c i.rt
        ((if i.st then -BitVec.ofNat i.size.bits q else BitVec.ofNat i.size.bits q).signExtend 128) (q / 2 ^ i.size.bits)
     prodi (.muli i x) (n.toInt * m.toInt) ∧ prodi (.mului i x) (n.toNat * m.toNat)) ∧
    (let d := if i.sw then n else m
     let e := if i.sw then m else n
     (d ≠ 0 → gives (.divi i x) i.rt ((if i.st then -(e.sdiv d) else e.sdiv d).signExtend 128) (e.srem d).toNat) ∧
     (d = 0 → open_ (.divi i x) i.size.bits i.rt i.st))

/-- The instructions of one operand (40_integer R327 to R329, R346, R347): leading zeros and ones, bits set, bits
reversed, the floor of the square root. Counts are complemented under St and zero-extended. CNTLZ and CNTLO read the
operand without Sa. Clauses rest on the decision D43 of 92_eei_decisions. -/
def Obligations.CountsReversalAndRoot : Prop :=
  ∀ (o : R1) (x : Ext) (s : State),
    let w := o.size.bits
    let raw := fun k => (srcOf (o.vec != .scalar) o.ra).value .plain false s w k
    let a := fun k => if o.sa then ~~~raw k else raw k
    let m := fun k => (srcOf (o.vec != .scalar) o.ra).value .neg o.sa s w k
    let counts := fun (c : Instr) (P : Nat → Nat → Prop) => ∃ n : Nat → Nat, (∀ k, P k (n k)) ∧
      Computes c s x (o.vec != .scalar) w o.rt fun k =>
        (if o.st then ~~~BitVec.ofNat w (n k) else BitVec.ofNat w (n k)).setWidth 128
    counts (.cntlz o x) (fun k n => n ≤ w ∧ (∀ i, w - n ≤ i → (raw k).getLsbD i = false) ∧
      (n < w → (raw k).getLsbD (w - 1 - n) = true)) ∧
    counts (.cntlo o x) (fun k n => n ≤ w ∧ (∀ i, w - n ≤ i → i < w → (raw k).getLsbD i = true) ∧
      (n < w → (raw k).getLsbD (w - 1 - n) = false)) ∧
    counts (.cntpop o x) (fun k n => n = ((Finset.range w).filter fun i => (a k).getLsbD i = true).card) ∧
    (∃ f : Nat → BitVec w, (∀ k i, i < w → (f k).getLsbD i = (a k).getLsbD (w - 1 - i)) ∧
      Computes (.revbit o x) s x (o.vec != .scalar) w o.rt fun k => (if o.st then ~~~f k else f k).signExtend 128) ∧
    (∃ n : Nat → Nat, (∀ k, n k * n k ≤ (m k).toNat ∧ (m k).toNat < (n k + 1) * (n k + 1)) ∧
      Computes (.sqrt o x) s x (o.vec != .scalar) w o.rt fun k =>
        (if o.st then -BitVec.ofNat w (n k) else BitVec.ofNat w (n k)).signExtend 128)

/-- Carry-less products and byte maps (40_integer R323 to R326). Bit i of the low half of the product is the parity of
the pairs of set bits whose numbers add up to i. Byte j of a mapped value is the source byte of the highest number
whose field of the map names j, and zero where no field does, that being the default BMAP_FN; another one gives its own
value; the map instructions work on 128 bits whatever the size (log 48). CHRNDX (43_string_block R467): the index of
the first character of Ra equal to the character sought, minus one without one; a scalar form searches all 128 bits of
Ra, a vector form each element by itself (log 21). Clauses rest on the decision D44 of 92_eei_decisions. -/
def Obligations.CarrylessProductsMapsAndSearch : Prop :=
  (∀ (o : R2) (e : R2I) (i : RI) (x : Ext) (s : State),
    let product := fun {w : Nat} (a b r : BitVec w) => ∀ j, j < w → r.getLsbD j =
      decide (((Finset.range (j + 1)).filter fun l => a.getLsbD (j - l) = true ∧ b.getLsbD l = true).card % 2 = 1)
    let mapped := fun (a : Word) (b : Word) (r : Word) =>
      if s.params.bmap = .other then r = Config.bmapResult a (b.setWidth 64) else ∀ j, j < 16 →
      (∀ l, l < 16 → (b.extractLsb' (4 * l) 4).toNat = j →
        (∀ l', l < l' → l' < 16 → (b.extractLsb' (4 * l') 4).toNat ≠ j) →
          r.extractLsb' (8 * j) 8 = a.extractLsb' (8 * l) 8) ∧
      ((∀ l, l < 16 → (b.extractLsb' (4 * l) 4).toNat ≠ j) → r.extractLsb' (8 * j) 8 = 0)
    let oh := { o with size := Size.h }
    let ih := { i with size := Size.h }
    (∃ f : Nat → BitVec o.size.bits, (∀ k, product (o.a .compl s k) (o.b .compl x.tail s k) (f k)) ∧
      Computes (.clmul o x) s x (o.vec != .scalar) o.size.bits o.rt fun k =>
        (if o.st then ~~~f k else f k).signExtend 128) ∧
    (∃ f : Nat → BitVec e.size.bits, (∀ k, product ((srcOf e.vec e.ra).value .compl e.sa s e.size.bits k)
        ((x.tail.const.getD (e.imm.signExtend 128)).setWidth e.size.bits) (f k)) ∧
      Computes (.clmulImm e x) s x e.vec e.size.bits e.rt fun k => (if e.st then ~~~f k else f k).signExtend 128) ∧
    (∃ f : Nat → Word, (∀ k, mapped (oh.a .compl s k) (oh.b .compl x.tail s k) (f k)) ∧
      Computes (.bmap o x) s x (o.vec != .scalar) 128 o.rt fun k => if o.st then ~~~f k else f k) ∧
    (∃ f : Nat → Word, (∀ k, mapped (ih.a .compl s k) (ih.b x.tail) (f k)) ∧
      Computes (.bmapImm i x) s x i.vec 128 i.rt fun k => if i.st then ~~~f k else f k)) ∧
  ∀ (o : R2) (e : R2I) (x : Ext) (s : State),
    let found := fun (w n : Nat) (c : Nat → BitVec w) (want : BitVec w) (r : Word) =>
      (∀ i, i < n → c i = want → (∀ j, j < i → c j ≠ want) → r = .ofNat 128 i) ∧
      ((∀ i, i < n → c i ≠ want) → r = -1)
    let search := fun (c : Instr) (vec : Bool) (z : Size) (rt : Reg) (st : Bool) (ra : Reg) (sa : Bool)
        (want : Nat → BitVec z.bits) => ∃ f : Nat → Word,
      (∀ k, if vec then found z.bits 1 (fun _ => (Src.vec ra).value .compl sa s z.bits k) (want k) (f k)
        else found z.bits (128 / z.bits)
          (fun i => ((Src.reg ra).value .compl sa s 128 k).extractLsb' (z.bits * i) z.bits) (want k) (f k)) ∧
      Computes c s x vec z.bits rt fun k => if st then ~~~f k else f k
    search (.chrndx o x) (o.vec != .scalar) o.size o.rt o.st o.ra o.sa (fun k => o.b .compl x.tail s k) ∧
    search (.chrndxImm e x) e.vec e.size e.rt e.st e.ra e.sa
      (fun _ => (x.tail.const.getD (e.imm.signExtend 128)).setWidth e.size.bits)

/-- Shifts and rotates (45_shift R500 to R511): the amount is the low seven bits of Rb, of a constant in its place, or of
the field; the low seven bits of a constant in the place of the field are the model's choice, of which the rules say nothing
(log 23); rotates take it modulo the width; LSLAND, LSLOR and LSLXOR combine with the old target. The result is complemented
under St. Clauses rest on the decision D35 of 92_eei_decisions. -/
def Obligations.ShiftsAndRotates : Prop :=
  ∀ (o : R2) (i : ShI) (x : Ext) (s : State),
    let r2 := fun (c : Instr) (f : BitVec o.size.bits → Nat → BitVec o.size.bits → BitVec o.size.bits) =>
      Computes c s x (o.vec != .scalar) o.size.bits o.rt fun k =>
        let v := f (o.a .compl s k) ((o.b .compl x.tail s k).toNat % 128) (o.old s k)
        (if o.st then ~~~v else v).signExtend 128
    let ri := fun (c : Instr) (f : BitVec i.size.bits → Nat → BitVec i.size.bits → BitVec i.size.bits) =>
      Computes c s x i.vec i.size.bits i.rt fun k =>
        let v := f ((srcOf i.vec i.ra).value .compl i.sa s i.size.bits k)
          ((x.tail.const.getD (i.imm.setWidth 128)).toNat % 128) ((srcOf i.vec i.rt).value .plain false s i.size.bits k)
        (if i.st then ~~~v else v).signExtend 128
    r2 (.asl o x) (fun a n _ => a <<< n) ∧ r2 (.asr o x) (fun a n _ => a.sshiftRight n) ∧
    r2 (.lsl o x) (fun a n _ => a <<< n) ∧ r2 (.lsr o x) (fun a n _ => a >>> n) ∧
    r2 (.lsland o x) (fun a n old => old &&& a <<< n) ∧ r2 (.lslor o x) (fun a n old => old ||| a <<< n) ∧
    r2 (.lslxor o x) (fun a n old => old ^^^ a <<< n) ∧
    r2 (.rol o x) (fun a n _ => a.rotateLeft n) ∧ r2 (.ror o x) (fun a n _ => a.rotateRight n) ∧
    ri (.aslImm i x) (fun a n _ => a <<< n) ∧ ri (.asrImm i x) (fun a n _ => a.sshiftRight n) ∧
    ri (.lslImm i x) (fun a n _ => a <<< n) ∧ ri (.lsrImm i x) (fun a n _ => a >>> n) ∧
    ri (.lslandImm i x) (fun a n old => old &&& a <<< n) ∧ ri (.lslorImm i x) (fun a n old => old ||| a <<< n) ∧
    ri (.lslxorImm i x) (fun a n old => old ^^^ a <<< n) ∧
    ri (.rolImm i x) (fun a n _ => a.rotateLeft n) ∧ ri (.rorImm i x) (fun a n _ => a.rotateRight n)

/-- Bit fields (44_bitfield R480 to R488), bit by bit: the field runs from the beginning to the end, both included, and
is empty where the end lies below the beginning. Rc is a vector register where Rb is (log 21). Clauses rest on the
decision D47 of 92_eei_decisions. -/
def Obligations.BitFieldsBitByBit : Prop :=
  ∀ (o : BitR) (i : BitI) (x : Ext) (s : State),
    let bits := fun (c d : Instr) (P : Word → Nat → Nat → Word → Nat → Bool) =>
      (∃ f : Nat → Word,
        (∀ k j, j < 128 → (f k).getLsbD j = P ((srcOf (o.vec != .scalar) o.ra).value .compl o.sa s 128 k)
          (((srcOf (o.vec == .vv) o.rb).value .compl o.sb s 128 k).toNat % 128)
          (((srcOf (o.vec == .vv) o.rc).value .plain false s 128 k).toNat % 128)
          ((srcOf (o.vec != .scalar) o.rt).value .plain false s 128 k) j) ∧
        Computes c s x (o.vec != .scalar) 128 o.rt fun k => if o.st then ~~~f k else f k) ∧
      ∃ f : Nat → Word,
        (∀ k j, j < 128 → (f k).getLsbD j = P ((srcOf i.vec i.ra).value .compl i.sa s 128 k) i.first.toNat i.last.toNat
          ((srcOf i.vec i.rt).value .plain false s 128 k) j) ∧
        Computes d s x i.vec 128 i.rt fun k => if i.st then ~~~f k else f k
    let inside := fun (b e j : Nat) => decide (b ≤ j) && decide (j ≤ e)
    bits (.clr o x) (.clrImm i x) (fun a b e _ j => a.getLsbD j && !inside b e j) ∧
    bits (.set o x) (.setImm i x) (fun a b e _ j => a.getLsbD j || inside b e j) ∧
    bits (.com o x) (.comImm i x) (fun a b e _ j => a.getLsbD j != inside b e j) ∧
    bits (.sbx o x) (.sbxImm i x) (fun a b e _ j => if inside b e j then a.getLsbD b else a.getLsbD j) ∧
    bits (.extu o x) (.extuImm i x) (fun a b e _ j => inside b e (b + j) && a.getLsbD (b + j)) ∧
    bits (.exts o x) (.extsImm i x) (fun a b e _ j => decide (b ≤ e) && a.getLsbD (min (b + j) e)) ∧
    bits (.dep o x) (.depImm i x) (fun a b e old j => if inside b e j then a.getLsbD (j - b) else old.getLsbD j)

/-- Slides (41_vector R388 to R390) move the elements by the amount, up or down, zeros coming in; a constant of the
postfixes in the place of an immediate amount is taken whole, by the model's choice (log 23), and an amount in a register
whole and without its S bit (log 21); what is moved is under Sa and St. V2BITS (48_vector R652, R653) writes to a scalar
register one bit of each enabled element, at the element's number, and leaves the restart mask all ones (41_vector R383; log
21); its bit number is read without its S bit, modulo the operand width (log 21). Clauses rest on the decision D45 of
92_eei_decisions. -/
def Obligations.SlidesAndBitGather : Prop :=
  ∀ (o : R2) (i : VshI) (x : Ext) (s : State), s.predOk = true →
    let amt := ((srcB false o.rb x.tail).value .plain false s 128 0).toNat
    let imm := (x.tail.const.getD (i.imm.setWidth 128)).toNat
    let moved := fun (z : Size) (ra : Reg) (sa st : Bool) (k : Nat) =>
      let v := if sa then ~~~s.elem z.bits ra k else s.elem z.bits ra k
      if st then ~~~v else v
    let up := fun (z : Size) (ra : Reg) (sa st : Bool) (n k : Nat) => if n ≤ k then moved z ra sa st (k - n) else 0
    let down := fun (z : Size) (ra : Reg) (sa st : Bool) (n k : Nat) =>
      if k + n < s.elems z.bits then moved z ra sa st (k + n) else 0
    let lanes := fun (c : Instr) (z : Size) (rt : Reg) (f : Nat → BitVec z.bits) =>
      ∃ t, exec c s = .next t ∧ Lanes s t z.bits rt (s.vecMask x.mask) (extLen x) f
    lanes (.vshlv o x) o.size o.rt (up o.size o.ra o.sa o.st amt) ∧
    lanes (.vshrv o x) o.size o.rt (down o.size o.ra o.sa o.st amt) ∧
    lanes (.vshlvi i x) i.size i.rt (up i.size i.ra i.sa i.st imm) ∧
    lanes (.vshrvi i x) i.size i.rt (down i.size i.ra i.sa i.st imm) ∧
    ∃ v : Word, (∀ k, k < 128 → v.getLsbD k = (decide (k < s.elems o.size.bits) && (s.vecMask x.mask).getLsbD k &&
        (s.elem o.size.bits o.ra k).getLsbD (amt % o.size.bits))) ∧
      exec (.v2bits o x) s =
        .next { s.wrote (extLen x) o.rt (if o.st then ~~~v else v) with vrm := BitVec.allOnes 128 }

/-- CHK and CHKI (40_integer R330 to R332; 41_vector R383): where the condition holds, of every enabled element in a vector
form, only the program counter moves (and the restart mask becomes all ones); else the exception of the CHK vector is taken,
in a vector form at the first element that fails, which the restart and error masks record. Rc is a vector register where Rb
is (log 21). Clauses rest on the decisions D9, D43, D45 of 92_eei_decisions. -/
def Obligations.BoundsChecksPassOrTrap : Prop :=
  ∀ (o : ChkR) (i : ChkI) (x : Ext) (s : State),
    let holds := fun {w : Nat} (cn : BitVec 3) (a b c : BitVec w) =>
      let low := if cn.getLsbD 1 then b.toInt < a.toInt else b.toInt ≤ a.toInt
      let high := if cn.getLsbD 0 then a.toInt ≤ c.toInt else a.toInt < c.toInt
      if cn.getLsbD 2 then ¬ (low ∧ high) else low ∧ high
    let checks := fun (c : Instr) (vec : Bool) (w : Nat) (P : Nat → Prop) => s.enabled x vec →
      if vec then
        let on := fun k => k < s.elems w ∧ (s.vecMask x.mask).getLsbD k = true
        ((∀ k, on k → P k) → exec c s = .next { s.passed (extLen x) with vrm := BitVec.allOnes 128 }) ∧
        ∀ k a, on k → ¬ P k → (∀ j, j < k → on j → P j) → s.handler s.params.chkVector a →
          exec c s = .next
            { { s with vrm := BitVec.allOnes 128 <<< k, verr := s.verr ||| 1#128 <<< k }.took s.params.chkVector s.pc none a
              with retire := .fault }
      else (P 0 → exec c s = .next (s.passed (extLen x))) ∧ (¬ P 0 → Traps c s s.params.chkVector none)
    checks (.chk o x) (o.vec != .scalar) o.size.bits (fun k => holds o.cn
      ((srcOf (o.vec != .scalar) o.ra).value .neg o.sa s o.size.bits k)
      ((srcOf (o.vec == .vv) o.rb).value .neg o.sb s o.size.bits k)
      ((srcOf (o.vec == .vv) o.rc).value .plain false s o.size.bits k)) ∧
    checks (.chki i x) (i.vec != .scalar) i.size.bits (fun k => holds i.cn
      ((srcOf (i.vec != .scalar) i.ra).value .neg i.sa s i.size.bits k)
      ((srcOf (i.vec == .vv) i.rb).value .neg i.sb s i.size.bits k)
      ((x.tail.const.getD (i.imm.signExtend 128)).setWidth i.size.bits))

/-- A trap at an element of a vector instruction (41_vector R383): the enabled elements below it are done, it and the others
keep their values, the restart mask is set from it up, its bit of the error mask is set, and the exception is taken. So a
zero divisor of a division under DIV0_TRAPS, vector 64 (40_integer R337), and a byte that nothing claims in an element of a
load or a store, vector 2 (47_memory_ops R587; 20_memory R106, R113; log 21), with TRANSLATE = flat: of a store that crosses
a 16 kB page the piece in the first page stays done (R106). FLOAD and FSTORE convert each element, and leave the bits of a
quad number as they are (log 8). By the model's choice a REGS list among the postfixes is ignored, and an index of a gather
is unsigned (log 30). Clauses rest on the decisions D7, D8, D9, D20, D24, D32, D45, D49 of 92_eei_decisions. -/
def Obligations.VectorTrapIsRestartable : Prop :=
  (∀ (o : R2) (i : RI) (x : Ext) (s : State) (k : Nat), s.predOk = true → s.params.div0Traps = true →
    let m := s.vecMask x.mask
    let divides := fun (c : Instr) (w : Nat) (rt : Reg) (st : Bool) (d f : Nat → BitVec w) =>
      let on := fun j => j < s.elems w ∧ m.getLsbD j = true
      on k → d k = 0 → (∀ j, j < k → on j → d j ≠ 0) →
        ElementTraps c s w rt m 64 none k false fun j r => r = if st then -f j else f j
    let a := fun k => o.a .neg s k
    let b := fun k => o.b .neg x.tail s k
    let n := fun k => i.a .neg s k
    let c := fun (_ : Nat) => i.b x.tail
    let r2 := fun (c : Instr) (f : Nat → BitVec o.size.bits) => divides c o.size.bits o.rt o.st b f
    (o.vec ≠ .scalar →
      r2 (.div o x) (fun k => (a k).sdiv (b k)) ∧ r2 (.divu o x) (fun k => a k / b k) ∧
      r2 (.divsu o x) (fun k => BitVec.ofInt o.size.bits ((a k).toInt.tdiv (b k).toNat)) ∧
      r2 (.mod o x) (fun k => (a k).srem (b k)) ∧ r2 (.modu o x) (fun k => a k % b k)) ∧
    (i.vec = true → divides (.divi i x) i.size.bits i.rt i.st (fun k => if i.sw then n k else c k) fun k =>
      if i.sw then (c k).sdiv (n k) else (n k).sdiv (c k))) ∧
  ∀ (z : Size) (p : Prec) (o : MemD) (q : MemX) (x : Ext) (s : State) (k b : Nat), s.predOk = true → s.flat →
    let m := s.vecMask x.mask
    let ready := fun (w n : Nat) (at_ : Nat → Addr) =>
      (k < s.elems w ∧ m.getLsbD k = true) ∧ b < n ∧
      (∀ j, j < k → j < s.elems w → m.getLsbD j = true → s.ram (at_ j) n) ∧
      (∀ i, i < n → s.device (at_ k + .ofNat 64 i).toNat = none) ∧
      (∀ i, i < b → s.claimed (at_ k + .ofNat 64 i).toNat = true) ∧ s.claimed (at_ k + .ofNat 64 b).toNat = false
    let loads := fun (c : Instr) (rt : Reg) (at_ : Nat → Addr) => ready z.bits z.bytes at_ →
      ElementTraps c s z.bits rt m 2 (some (at_ k + .ofNat 64 b)) k false fun j r =>
        r = .ofNat z.bits (s.data (at_ j) z.bytes)
    let floads := fun (c : Instr) (rt : Reg) (at_ : Nat → Addr) => ready 128 p.bytes at_ →
      ElementTraps c s 128 rt m 2 (some (at_ k + .ofNat 64 b)) k true fun j r =>
        (p = .q → r = .ofNat 128 (s.data (at_ j) 16)) ∧ FVal.same (quadVal r) ((precFmt p).value (s.data (at_ j) p.bytes))
    let stores := fun (c : Instr) (w n : Nat) (at_ : Nat → Addr) (drawn : Bool) (value : Nat → Nat → Prop) =>
      ready w n at_ → Memory.wf s.mem = true →
      let first := 16384 - (at_ k).toNat % 16384
      let on := fun j => j < s.elems w ∧ m.getLsbD j = true
      let done := fun j i => i < n ∧ (j < k ∧ on j ∨ j = k ∧ first ≤ b ∧ i < first)
      ∃ (u : State) (rs : Nat → Nat),
        (∀ a, u.handler 2 a →
          exec c s = .next { u.took 2 s.pc (some (at_ k + .ofNat 64 b)) a with retire := .fault }) ∧
        u = { s with
          mem := u.mem, stale := u.stale, draws := u.draws
          vrm := BitVec.allOnes 128 <<< k, verr := s.verr ||| 1#128 <<< k } ∧
        (drawn = false → u.draws = s.draws) ∧
        (∀ j, j ≤ k → on j → rs j < 256 ^ n ∧ value j (rs j)) ∧
        (∀ j i, done j i → (∀ h l, j < h → done h l → at_ h + .ofNat 64 l ≠ at_ j + .ofNat 64 i) →
          u.byte (at_ j + .ofNat 64 i).toNat = .ofNat 8 (rs j / 256 ^ i)) ∧
        ∀ a, (∀ j i, done j i → a ≠ (at_ j + .ofNat 64 i).toNat) → u.byte a = s.byte a
    let plain := fun (c : Instr) (rt : Reg) (at_ : Nat → Addr) =>
      stores c z.bits z.bytes at_ false fun j r => r = (s.elem z.bits rt j).toNat
    let fstores := fun (c : Instr) (rt : Reg) (at_ : Nat → Addr) =>
      stores c 128 p.bytes at_ true fun j r =>
        if p = .q then r = (s.elem 128 rt j).toNat
        else match (precFmt p).convert s.rmImm (quadVal (s.elem 128 rt j)) with
          | some v => r = v
          | none => (precFmt p).value r = .nan
    let row := fun (n k : Nat) => eaDisp o x.tail s + .ofNat 64 (k * n)
    (o.vd = true → loads (.load z o x) o.rt (row z.bytes) ∧ loads (.loadz z o x) o.rt (row z.bytes) ∧
      floads (.fload p o x) o.rt (row p.bytes) ∧ plain (.store z o x) o.rt (row z.bytes) ∧
      fstores (.fstore p o x) o.rt (row p.bytes)) ∧
    (q.vec ≠ .scalar →
      loads (.loadX z q x) q.rt (elemAddr q z.bytes z.bits x.tail s) ∧
      loads (.loadzX z q x) q.rt (elemAddr q z.bytes z.bits x.tail s) ∧
      floads (.floadX p q x) q.rt (elemAddr q p.bytes 128 x.tail s) ∧
      plain (.storeX z q x) q.rt (elemAddr q z.bytes z.bits x.tail s) ∧
      fstores (.fstoreX p q x) q.rt (elemAddr q p.bytes 128 x.tail s))

/-- The SHA functions (48_vector R661 to R666) of the low 32 or 64 bits of Ra, the result sign-extended to the machine
width; Sa and St complement (R660; 30_encoding R216, R217), and vector forms go element by element (41_vector R380); and
the words of the spec's own examples decode to them. Clauses rest on the decisions D19, D24 of 92_eei_decisions. -/
def Obligations.ShaFunctions : Prop :=
  ∀ (o : R1) (x : Ext) (s : State),
    let a := fun k => (srcOf (o.vec != .scalar) o.ra).value .compl o.sa s o.size.bits k
    let sha := fun (c : Instr) (f : Nat → BitVec o.size.bits) =>
      Computes c s x (o.vec != .scalar) o.size.bits o.rt fun k => (if o.st then ~~~f k else f k).signExtend 128
    let f32 := fun (f : BitVec 32 → BitVec 32) (k : Nat) => (f ((a k).setWidth 32)).signExtend o.size.bits
    let f64 := fun (f : BitVec 64 → BitVec 64) (k : Nat) => (f ((a k).setWidth 64)).signExtend o.size.bits
    sha (.sha256sig0 o x) (f32 fun v => v.rotateRight 7 ^^^ v.rotateRight 18 ^^^ v >>> 3) ∧
    sha (.sha256sig1 o x) (f32 fun v => v.rotateRight 17 ^^^ v.rotateRight 19 ^^^ v >>> 10) ∧
    sha (.sha256sum0 o x) (f32 fun v => v.rotateRight 2 ^^^ v.rotateRight 13 ^^^ v.rotateRight 22) ∧
    sha (.sha256sum1 o x) (f32 fun v => v.rotateRight 6 ^^^ v.rotateRight 11 ^^^ v.rotateRight 25) ∧
    sha (.sha512sig0 o x) (f64 fun v => v.rotateRight 1 ^^^ v.rotateRight 8 ^^^ v >>> 7) ∧
    sha (.sha512sig1 o x) (f64 fun v => v.rotateRight 19 ^^^ v.rotateRight 61 ^^^ v >>> 6) ∧
    decodeTableWord 40 0x040C040642 = some (.sha256sig0 ⟨3, false, 4, false, .scalar, .t⟩ Ext.empty) ∧
    decodeTableWord 40 0x040C840642 = some (.sha256sig1 ⟨3, false, 4, false, .scalar, .t⟩ Ext.empty) ∧
    decodeTableWord 40 0x040D040642 = some (.sha256sum0 ⟨3, false, 4, false, .scalar, .t⟩ Ext.empty) ∧
    decodeTableWord 40 0x040D840642 = some (.sha256sum1 ⟨3, false, 4, false, .scalar, .t⟩ Ext.empty) ∧
    decodeTableWord 40 0x040E040662 = some (.sha512sig0 ⟨3, false, 4, false, .scalar, .o⟩ Ext.empty) ∧
    decodeTableWord 40 0x040E840662 = some (.sha512sig1 ⟨3, false, 4, false, .scalar, .o⟩ Ext.empty)

/-- Floating-point arithmetic (42_float R403 to R406, R411, R415, R416, R424, R425, R429, R432): operands and result as quad
numbers, under their S bits; with the default FP the result is that of `fAdd`, `fMul` or `fDiv` in the rounding mode in
force, and where they give none some quiet NaN (log 8); another FP gives its own value (log 58). A constant of the postfixes
replaces Rb. FSUB adds the negated Rb; iw[15] swaps FDIV's operands in the immediate form. The rounding mode in force (R403;
49_modifiers R720; log 46): the code 0 to 4 of an open ROUND window at its position; else, with 7 there or no window, the
instruction's own Rm field, of which `fcr`, and a form without the field, are FCR_RM. Clauses rest on the decisions D25, D42
of 92_eei_decisions. -/
def Obligations.FloatArithmetic : Prop :=
  (∀ (o : F2) (i : FI) (x : Ext) (s : State),
    let sign := fun (on : Bool) (v : Word) => if on then v ^^^ BitVec.twoPow 128 127 else v
    let is := fun (st : Bool) (op : FpOp) (f : RoundMode → FVal → FVal → Option Nat) (rm : RoundMode) (a b r : Word) =>
      if s.params.fp = .other then r = sign st (Config.fpResult op rm a b) else
        match f rm (quadVal a) (quadVal b) with
        | some v => r = sign st (.ofNat 128 v)
        | none => quadVal r = .nan ∧ r.getLsbD 111 = true
    let rm := s.rmOf o.rm
    (∃ c u, floatTail x.tail s = .ok c u ∧ (x.tail.hasConst = false → c = none) ∧
      let a := fun k => (srcOf (o.vec != .scalar) o.ra).value .sign o.sa s 128 k
      let b := fun (on : Bool) k => c.getD ((srcOf (o.vec == .vv) o.rb).value .sign on s 128 k)
      let r2 := fun (c : Instr) (P : Nat → Word → Prop) => Yields c s x (o.vec != .scalar) o.rt P
      r2 (.fadd o x) (fun k => is o.st .add fAdd rm (a k) (b false k)) ∧
      r2 (.fsub o x) (fun k => is o.st .add fAdd rm (a k) (b true k)) ∧
      r2 (.fmul o x) (fun k => is o.st .mul fMul rm (a k) (b o.sb k)) ∧
      r2 (.fdiv o x) (fun k => is o.st .div fDiv rm (a k) (b o.sb k))) ∧
    ∃ c u, floatConst i.imm x.tail s = .ok c u ∧
      let a := fun k => (srcOf i.vec i.ra).value .sign i.sa s 128 k
      Yields (.faddi i x) s x i.vec i.rt (fun k => is i.st .add fAdd s.rmImm (a k) c) ∧
      Yields (.fmuli i x) s x i.vec i.rt (fun k => is i.st .mul fMul s.rmImm (a k) c) ∧
      Yields (.fdivi i x) s x i.vec i.rt fun k =>
        if i.st then is false .div fDiv s.rmImm c (a k) else is false .div fDiv s.rmImm (a k) c) ∧
  ∀ s : State,
    let field := fun (f : RmField) => match f with
      | .ne => RoundMode.nearestEven
      | .tz => .towardZero
      | .up => .up
      | .dn => .down
      | .na => .nearestAway
      | .fcr => s.params.fcrRm
    let own := (∀ f, s.rmOf f = field f) ∧ s.rmImm = s.params.fcrRm ∧ ∀ rm, s.roundMode rm = rm
    (s.win.round = none → own) ∧
    ∀ w, s.win.round = some w →
      let code := w.mask.toNat / 2 ^ (3 * w.pos.toNat) % 8
      let is := fun (n : Nat) (rm : RoundMode) =>
        code = n → (∀ f, s.rmOf f = rm) ∧ s.rmImm = rm ∧ ∀ r, s.roundMode r = rm
      is 0 .nearestEven ∧ is 1 .towardZero ∧ is 2 .up ∧ is 3 .down ∧ is 4 .nearestAway ∧ (code = 7 → own)

/-- Rounding (42_float R403), with the numbers of a format as the values of their bits without sign, plus infinity standing
for the next power of two: toward zero gives the greatest finite number not above the exact magnitude, away from zero the
least one not below it, infinity where there is none, and to nearest the closest, a tie going to the even one or away from
zero; up and down are away from and toward zero by the sign. So the bounds at overflow and among the subnormal numbers.
Addition, multiplication and division of finite quad numbers are the exact sum, product or quotient, as a fraction times a
power of two, put through one such rounding; an exact zero sum of both signs is plus zero, but minus zero rounding down;
infinities, zero divisors and NaNs follow IEEE 754 (42_float R404; log 47). Clauses rest on the decision D25 of
92_eei_decisions. -/
def Obligations.FloatExactThenRounded : Prop :=
  (∀ (f : Fmt) (rm : RoundMode) (neg : Bool) (num den : Nat) (exp : Int), 0 < den →
    f = .half ∨ f = .single ∨ f = .double ∨ f = .quad →
    let x : ℚ := (num : ℚ) / den * 2 ^ exp
    let v := fun (m : Nat) => if m < 2 ^ f.m then (m : ℚ) * 2 ^ f.minExp
      else ((2 ^ f.m + m % 2 ^ f.m : Nat) : ℚ) * 2 ^ ((m / 2 ^ f.m : Nat) - f.bias - f.m : Int)
    let zero := fun (r : Nat) => r < f.infBits ∧ ∀ m, m < f.infBits → (v m ≤ x ↔ m ≤ r)
    let away := fun (r : Nat) => r ≤ f.infBits ∧ ∀ m, m < f.infBits → (x ≤ v m ↔ r ≤ m)
    let near := fun (r : Nat) (tie : Nat → Prop) => r ≤ f.infBits ∧ ∀ m, m ≤ f.infBits → m ≠ r →
      |x - v r| < |x - v m| ∨ |x - v r| = |x - v m| ∧ tie m
    ∃ r, f.round rm neg num den exp = f.withSign neg r ∧
      (match rm with
        | .nearestEven => near r fun _ => r % 2 = 0
        | .nearestAway => near r fun m => m < r
        | .towardZero => zero r
        | .up => if neg then zero r else away r
        | .down => if neg then away r else zero r) ∧
      (r = f.infBits → f.value (f.withSign neg r) = .inf neg) ∧
      (r < f.infBits → ∃ sig e, f.value (f.withSign neg r) = .fin neg sig e ∧ (sig : ℚ) * 2 ^ e = v r)) ∧
  ∀ (rm : RoundMode) (m n : Bool) (p q : Nat) (e f : Int),
    let num := fun (neg : Bool) (sig : Nat) (exp : Int) => (if neg then (-1 : ℚ) else 1) * sig * 2 ^ exp
    let inf := fun (neg : Bool) => some (Fmt.quad.withSign neg Fmt.quad.infBits)
    (num m p e + num n q f ≠ 0 → ∃ neg sig exp, num neg sig exp = num m p e + num n q f ∧
      fAdd rm (.fin m p e) (.fin n q f) = some (Fmt.quad.round rm neg sig 1 exp)) ∧
    (num m p e + num n q f = 0 →
      fAdd rm (.fin m p e) (.fin n q f) = some (Fmt.quad.withSign (if m = n then m else decide (rm = .down)) 0)) ∧
    (∃ sig exp, num (m != n) sig exp = num m p e * num n q f ∧
      fMul rm (.fin m p e) (.fin n q f) = some (Fmt.quad.round rm (m != n) sig 1 exp)) ∧
    (q ≠ 0 → fDiv rm (.fin m p e) (.fin n q f) = some (Fmt.quad.round rm (m != n) p q (e - f))) ∧
    (q = 0 → p ≠ 0 → fDiv rm (.fin m p e) (.fin n q f) = inf (m != n)) ∧
    (q = 0 → p = 0 → fDiv rm (.fin m p e) (.fin n q f) = none) ∧
    (∀ v, fAdd rm .nan v = none ∧ fMul rm .nan v = none ∧ fDiv rm .nan v = none ∧
      fAdd rm v .nan = none ∧ fMul rm v .nan = none ∧ fDiv rm v .nan = none) ∧
    fAdd rm (.inf m) (.inf n) = (if m = n then inf m else none) ∧
    fAdd rm (.inf m) (.fin n q f) = inf m ∧ fAdd rm (.fin n q f) (.inf m) = inf m ∧
    fMul rm (.inf m) (.inf n) = inf (m != n) ∧
    fMul rm (.inf m) (.fin n q f) = (if q = 0 then none else inf (m != n)) ∧
    fMul rm (.fin n q f) (.inf m) = (if q = 0 then none else inf (n != m)) ∧
    fDiv rm (.inf m) (.inf n) = none ∧
    fDiv rm (.inf m) (.fin n q f) = inf (m != n) ∧
    fDiv rm (.fin n q f) (.inf m) = some (Fmt.quad.withSign (n != m) 0)

/-- A number of a format converted to that format is itself in every rounding mode (42_float R401, R405): no bit of an
exact value is lost. Clauses rest on the decision D25 of 92_eei_decisions. -/
def Obligations.FloatConversionIsExact : Prop :=
  ∀ (f : Fmt) (rm : RoundMode) (v : Nat), f = .half ∨ f = .single ∨ f = .double ∨ f = .quad → v < 2 * f.signBit →
    (f.value v = .nan ∧ f.convert rm (f.value v) = none) ∨ f.convert rm (f.value v) = some v

/-- Floating-point compares and sets (42_float R413, R414, R417 to R422): FCMP writes the whole relation vector; iw[15]
swaps the operands of its immediate form; FSEQ, FSNE, FSLT, FSLE, FSGT and FSGE write 1 or 0, the last four inverted
under St. The bits of the FCMP result vector (42_float R412): equal, not equal or unordered, greater, and so on; with a
NaN only the unordered ones are set. Zeros of both signs are equal. Clauses rest on the decision D25 of
92_eei_decisions. -/
def Obligations.FloatComparesSetsAndTheirBits : Prop :=
  (∀ (o : F2) (i : FI) (x : Ext) (s : State),
    (∃ c u, floatTail x.tail s = .ok c u ∧ (x.tail.hasConst = false → c = none) ∧
      let rel := fun k => frel ((srcOf (o.vec != .scalar) o.ra).value .sign o.sa s 128 k)
        (c.getD ((srcOf (o.vec == .vv) o.rb).value .sign o.sb s 128 k))
      let set := fun (c : Instr) (inv : Bool) (bit : Nat) => Yields c s x (o.vec != .scalar) o.rt fun k r =>
        r = if (rel k).getLsbD bit = inv then 0 else 1
      Yields (.fcmp o x) s x (o.vec != .scalar) o.rt (fun k r => r = (rel k).setWidth 128) ∧
      set (.fseq o x) false 0 ∧ set (.fsne o x) true 0 ∧ set (.fsle o x) o.st 8 ∧ set (.fslt o x) o.st 6 ∧
      set (.fsge o x) o.st 4 ∧ set (.fsgt o x) o.st 2) ∧
    ∃ c u, floatConst i.imm x.tail s = .ok c u ∧
      Yields (.fcmpi i x) s x i.vec i.rt fun k r =>
        let a := (srcOf i.vec i.ra).value .sign i.sa s 128 k
        r = (if i.st then frel c a else frel a c).setWidth 128) ∧
  ∀ (a b : Word),
    let nan := quadVal a = .nan ∨ quadVal b = .nan
    let zero := fun (v : Word) => v.extractLsb' 0 127 = 0
    let less := fun (u v : Word) => ¬ (zero u ∧ zero v) ∧
      if u.msb then ¬ v.msb ∨ (v.extractLsb' 0 127).toNat < (u.extractLsb' 0 127).toNat
      else ¬ v.msb ∧ (u.extractLsb' 0 127).toNat < (v.extractLsb' 0 127).toNat
    let eq := a = b ∨ zero a ∧ zero b
    (nan → frel a b = 0b10101010101010) ∧
    (¬ nan → ((frel a b).getLsbD 0 = true ↔ eq) ∧ ((frel a b).getLsbD 1 = true ↔ ¬ eq) ∧
      ((frel a b).getLsbD 2 = true ↔ less b a) ∧ ((frel a b).getLsbD 3 = true ↔ less b a) ∧
      ((frel a b).getLsbD 4 = true ↔ ¬ less a b) ∧ ((frel a b).getLsbD 5 = true ↔ ¬ less a b) ∧
      ((frel a b).getLsbD 6 = true ↔ less a b) ∧ ((frel a b).getLsbD 7 = true ↔ less a b) ∧
      ((frel a b).getLsbD 8 = true ↔ ¬ less b a) ∧ ((frel a b).getLsbD 9 = true ↔ ¬ less b a) ∧
      ((frel a b).getLsbD 10 = true ↔ ¬ eq) ∧ ((frel a b).getLsbD 11 = true ↔ ¬ eq) ∧
      (frel a b).getLsbD 12 = true ∧ (frel a b).getLsbD 13 = false ∧
      (frel a b).getLsbD 14 = false ∧ (frel a b).getLsbD 15 = false)

/-- FABS, FNEG, FTRUNC, FSCALEB and ORF (42_float R410, R426 to R428, R430, R431). FABS clears the sign, FNEG flips it;
FTRUNC clears the bits of the fraction; FSCALEB scales by two to an integer, an amount beyond 40000 either way giving
what 40000 gives, a result too large being an infinity, one too small rounded to nearest even or in ROUND's mode (log
46); ORF combines the bits of Ra and of the constant, Sa and St complementing all of them (log 23). Clauses rest on the
decisions D25, D46 of 92_eei_decisions. -/
def Obligations.FloatSignFractionScaleAndOr : Prop :=
  ∀ (o : F1) (p : F2) (q : FScI) (i : RI) (x : Ext) (s : State),
    let sign := fun (on : Bool) (v : Word) => if on then v ^^^ BitVec.twoPow 128 127 else v
    let a := fun k => (srcOf (o.vec != .scalar) o.ra).value .sign o.sa s 128 k
    let one := fun (c : Instr) (f : Nat → Word) => Computes c s x (o.vec != .scalar) 128 o.rt fun k => sign o.st (f k)
    let scaled := fun (v : Word) (n : Int) (r : Word) =>
      match quadVal v with
      | .fin neg sig e => if sig = 0 then r = v else
          let rounded := fun rm => Fmt.quad.round rm neg sig 1 (e + max (-40000) (min 40000 n))
          let inf := Fmt.quad.withSign neg Fmt.quad.infBits
          r = .ofNat 128 (if rounded .nearestEven = inf then inf else rounded (s.roundMode .nearestEven))
      | _ => r = v
    one (.fabs o x) (fun k => a k &&& ~~~BitVec.twoPow 128 127) ∧
    one (.fneg o x) (fun k => a k ^^^ BitVec.twoPow 128 127) ∧
    (∃ f, (∀ k j, j < 128 → (f k).getLsbD j =
        let ex := ((a k).extractLsb' 112 15).toNat
        if ex < 16383 then decide (j = 127) && (a k).getLsbD j
        else if j < 112 - (ex - 16383) then false else (a k).getLsbD j) ∧ one (.ftrunc o x) f) ∧
    (∃ f : Nat → Word, (∀ k, scaled ((srcOf (p.vec != .scalar) p.ra).value .sign p.sa s 128 k)
        (if x.tail.hasConst then (x.tail.raw.setWidth 16).toInt
          else ((srcOf (p.vec == .vv) p.rb).value .plain false s 128 k).toInt) (f k)) ∧
      Computes (.fscaleb p x) s x (p.vec != .scalar) 128 p.rt fun k => sign p.st (f k)) ∧
    (∃ f : Nat → Word, (∀ k, scaled ((srcOf q.vec q.ra).value .sign q.sa s 128 k)
        (if x.tail.hasConst then (x.tail.raw.setWidth 16).toInt else q.imm.toInt) (f k)) ∧
      Computes (.fscalebImm q x) s x q.vec 128 q.rt fun k => sign q.st (f k)) ∧
    ∃ c u, floatConst (i.imm.setWidth 16) x.tail s = .ok c u ∧
      Yields (.orf i x) s x i.vec i.rt fun k r =>
        let v := (srcOf i.vec i.ra).value .compl i.sa s 128 k ||| c
        r = if i.st then ~~~v else v

/-- The CSR instructions (49_modifiers R725, R726): where the mode is at least the level in the register's number, Rt
gets the old value, and then the register the new one: the operand, or the old value with the operand's bits set,
cleared or flipped; a read writes nothing. In a lower mode, Privilege Violation. Clauses rest on the decisions D22, D36
of 92_eei_decisions. -/
def Obligations.CsrReadWriteSetClearFlip : Prop :=
  ∀ (o : CsrR) (i : CsrI) (x : Ext) (s : State), s.enabled x false →
    let a := if o.sa then ~~~s.reg o.ra else s.reg o.ra
    let imm := x.tail.const.getD (i.imm.setWidth 128)
    let csr := fun (c : Instr) (n : BitVec 14) (rt : Reg) (st : Bool) (new : Word → Option Word) =>
      let k := csrOf s.params n
      let old := s.csrValue k
      let t := (if k = .seed then { s with draws := s.draws + 1 } else s).setReg rt (if st then ~~~old else old)
      (n.extractLsb' 12 2 ≤ s.mode → exec c s = .next ((((new old).map (t.csrWrite k)).getD t).passed (extLen x))) ∧
      (s.mode < n.extractLsb' 12 2 → Traps c s 8 none)
    let both := fun (c d : Instr) (f : Word → Word → Option Word) =>
      csr c o.regno o.rt o.st (fun old => f old a) ∧ csr d i.regno i.rt i.st (fun old => f old imm)
    both (.csrrd o x) (.csrrdImm i x) (fun _ _ => none) ∧
    both (.csrwr o x) (.csrwrImm i x) (fun _ v => some v) ∧
    both (.csrrs o x) (.csrrsImm i x) (fun old v => some (old ||| v)) ∧
    both (.csrrc o x) (.csrrcImm i x) (fun old v => some (old &&& ~~~v)) ∧
    both (.csreor o x) (.csreorImm i x) (fun old v => some (old ^^^ v))

/-- The numbers of the control registers (10_state R33 to R70); VB and AV have those the parameters give them, where these
name no other register (60_exceptions R774; log 31). What a control register reads as after a write (10_state R34 to R70;
60_exceptions R774; log 31): the implemented bits of the value; SR changes only in the bits the mode may write; VL is at
most MAX_VL; the registers that only read do not change, M_SEED among them by the model's choice (R61 says nothing of a
write; log 9). A write of one control register changes what no other reads as, the registers being those that numbers name.
Clauses rest on the decisions D6, D21, D22, D24, D29, D36, D53 of 92_eei_decisions. -/
def Obligations.CsrNumbersAndFields : Prop :=
  ((∀ (p : Params),
    (∀ m : BitVec 2, csrOf p (m ++ 0x004#12) = .sr ∧ csrOf p (m ++ 0x006#12) = .cause m.toNat ∧
      csrOf p (m ++ 0x041#12) = .scratch m.toNat) ∧
    csrOf p 0x0008 = .repbuf ∧ csrOf p 0x0050 = .vl ∧ csrOf p 0x0051 = .vrm ∧ csrOf p 0x0052 = .verr ∧
    csrOf p 0x0053 = .vrgsz ∧ csrOf p 0x0054 = .ved ∧ csrOf p 0x1003 = .ptbr ∧ csrOf p 0x101F = .asid ∧
    (∀ k : BitVec 3, csrOf p (0x1020 + k.setWidth 14) = .key k.toNat ∧ csrOf p (0x3108 + k.setWidth 14) = .epc k.toNat) ∧
    csrOf p 0x3001 = .coreno ∧ csrOf p 0x3002 = .tick ∧ csrOf p 0x3003 = .seed ∧ csrOf p 0x3007 = .badAddr ∧
    csrOf p 0x300B = .badInstr ∧ csrOf p 0x300C = .sema ∧
    (∀ k, k < 5 → csrOf p (0x3030 + .ofNat 14 k) = .tvec k) ∧
    csrOf p 0x303C = .srStack 0 ∧ csrOf p 0x303D = .srStack 4 ∧ csrOf p 0x3100 = .ios ∧
    ∀ n : BitVec 14, csrOf { p with avRegno := none, vbRegno := Vector.replicate 4 none } n = .unimplemented →
      (p.avRegno = some n → csrOf p n = .av) ∧
      (∀ m : Fin 4, p.vbRegno[m.val] = some n → p.avRegno ≠ some n →
        (∀ j : Fin 4, j < m → p.vbRegno[j.val] ≠ some n) → csrOf p n = .vb m) ∧
      (p.avRegno ≠ some n → (∀ m : Fin 4, p.vbRegno[m.val] ≠ some n) → csrOf p n = .unimplemented)) ∧
  ∀ (s : State) (v : Word),
    let r := fun c => (s.csrWrite c v).csrValue c
    (∀ w : BitVec 32, w = (if s.mode = 0 then 1 else if s.mode = 1 then 3 else if s.mode = 2 then 7 else 0xFF0D3FFF) →
      s.csrWrite .sr v = { s with sr := (s.sr &&& ~~~w) ||| (v.setWidth 32 &&& w) }) ∧
    s.csrValue .sr = (if s.mode = 0 then s.sr &&& 1 else if s.mode = 1 then s.sr &&& ~~~0xC
      else if s.mode = 2 then s.sr &&& ~~~8 else s.sr).setWidth 128 ∧
    r .vl = (if (v.extractLsb' 0 8).toNat ≤ s.params.maxVl.toNat then v.extractLsb' 0 8 else s.params.maxVl).setWidth 128 ∧
    (∀ m, m < 4 → r (.cause m) = v &&& 0xFFF ∧ r (.scratch m) = v ∧ r (.vb m) = v &&& 0xFFFFFFFFFFFFFFF8) ∧
    (∀ k, k < 8 → r (.key k) = v &&& 0xFFFFFF ∧ r (.epc k) = v &&& 0xFFFFFFFFFFFFFFFF) ∧
    (∀ k, k < 5 → r (.tvec k) = v &&& 0xFFFFFFFFFFFFFFFF) ∧
    r (.srStack 0) = v ∧ r (.srStack 4) = v ∧ r .repbuf = v &&& 0xFFFFFFFFFFFFFFFF0FFFFFFFFF7F ∧
    r .vrm = v ∧ r .verr = v ∧ r .ved = v &&& 0x77 ∧ r .ptbr = v &&& 0xFFFFFFFFFFFFFCFC9 ∧ r .asid = v &&& 0xFFF ∧
    r .badAddr = v &&& 0xFFFFFFFFFFFFFFFF ∧ r .badInstr = v &&& 0xFFFFFFFFFFFF ∧ r .sema = v ∧
    r .ios = v &&& 0xFFFFFFFFFFFF0000 ∧ r .av = v &&& 0xFFFFFFFFFFFFFFF0 ∧
    (∀ c, c = .coreno ∨ c = .tick ∨ c = .seed ∨ c = .vrgsz ∨ c = .unimplemented → s.csrWrite c v = s) ∧
    s.csrValue .coreno = s.params.coreno ∧ s.csrValue .tick = s.tick.setWidth 128 ∧ s.csrValue .vrgsz = 64 ∧
    s.csrValue .unimplemented = 0) ∧
  ∀ (s : State) (v : Word) (m n : BitVec 14),
    csrOf s.params m ≠ csrOf s.params n →
      (s.csrWrite (csrOf s.params m) v).csrValue (csrOf s.params n) = s.csrValue (csrOf s.params n)

/-- GETVL and SETVL read and write U_VL (48_vector R650, R651), and CPUID writes the row of its table that the operand
and the number add up to (49_modifiers R731, R732). Clauses rest on the decisions D24, D52 of 92_eei_decisions. -/
def Obligations.VectorLengthAndCpuid : Prop :=
  ∀ (g : GetVl) (o : CsrR) (i : CsrI) (x : Ext) (s : State), s.enabled x false →
    let inv := fun (on : Bool) (v : Word) => if on then ~~~v else v
    let a := inv o.sa (s.reg o.ra)
    let imm := x.tail.const.getD (i.imm.setWidth 128)
    let old := s.vl.setWidth 128
    let vl := fun (v : Word) => if (v.extractLsb' 0 8).toNat ≤ s.params.maxVl.toNat then v.extractLsb' 0 8 else s.params.maxVl
    let row := fun (n : Nat) => match n with
      | 0 => s.params.coreno
      | 2 => 0x6E6F7274696E6946
      | 4 => 0x0053537469423436
      | 6 => 0x33323032726F6854
      | 8 => 0x314D
      | 9 => 0x34333231
      | 10 => s.params.features
      | 11 => (s.params.dcacheBytes ++ s.params.icacheBytes).setWidth 128
      | 12 => s.params.maxVl.setWidth 128
      | _ => 0
    exec (.getvl g x) s = .next (s.wrote (extLen x) g.rt (inv g.st old)) ∧
    exec (.setvl o x) s = .next { s.wrote (extLen x) o.rt (inv o.st old) with vl := vl a } ∧
    exec (.setvlImm i x) s = .next { s.wrote (extLen x) i.rt (inv i.st old) with vl := vl imm } ∧
    exec (.cpuid o x) s =
      .next (s.wrote (extLen x) o.rt (inv o.st (row ((a.toNat + o.regno.toNat) % 2 ^ 64)))) ∧
    exec (.cpuidImm i x) s =
      .next (s.wrote (extLen x) i.rt (inv i.st (row ((imm.toNat + i.regno.toNat) % 2 ^ 64))))

/-- The addresses of memory operands (47_memory_ops R582, R585; log 30): base and displacement; base, scaled index and
displacement, the index stepped after or before, or an address read from memory. With them goes what the index register is
to get, its low 64 bits stepped modulo 2^64 and the others zero. Clauses rest on the decisions D41, D49 of 92_eei_decisions.
-/
def Obligations.MemoryOperandAddresses : Prop :=
  ∀ (o : MemD) (q : MemX) (n : Nat) (t : Tail) (s : State),
    let low := fun (r : Reg) => (s.reg r).setWidth 64
    let disp := fun (field : Addr) => ((t.const.map fun c => c.setWidth 64).getD field : Addr)
    let idx := s.reg q.rc
    let ea := fun (v : Word) => low q.rb + v.setWidth 64 * .ofNat 64 (if q.sc then n else 1) + disp 0
    let step : Addr := .ofNat 64 (if q.sc then 1 else n)
    let after := (low q.rc + step).setWidth 128
    let before := (low q.rc - step).setWidth 128
    eaDisp o t s = low o.rb + disp (o.disp.signExtend 64) ∧
    (q.u2 = 0 → eaIndexed q n t s = .ok (ea idx, none) s) ∧
    (q.u2 = 1 → eaIndexed q n t s = .ok (ea idx, some after) s) ∧
    (q.u2 = 2 → eaIndexed q n t s = .ok (ea before, some before) s) ∧
    (q.u2 = 3 → s.ram (ea idx) 8 → eaIndexed q n t s = .ok (.ofNat 64 (s.data (ea idx) 8), none) s)

/-- LOAD and LOADZ of one register (47_memory_ops R582, R585, R590, R592): the bytes at the address, sign- or zero-
extended. Loaded to r53 they are compared with the stack canary: a difference raises vector 11. The index register gets its
new value, unless it was loaded; by the model's choice it keeps its value where the canary differs, and with Rt = Rc = 53
nothing is updated and the canary compared is the old one (R585; log 30). No byte of memory changes. Clauses rest on the
decisions D41, D49 of 92_eei_decisions. -/
def Obligations.LoadsToOneRegister : Prop :=
  ∀ (z : Size) (o : MemD) (q : MemX) (x : Ext) (s : State), s.enabled x false → x.tail.regs = none →
    let loads := fun (c : Instr) (rt : Reg) (ea : Addr) (v : Word) (index : State → State) => s.ram ea z.bytes →
      (rt ≠ 53 ∨ v = s.sc → exec c s = .next ((index (if rt = 53 then s else s.setReg rt v)).passed (extLen x))) ∧
      (rt = 53 → v ≠ s.sc → Traps c s 11 none)
    let signed := fun ea => (BitVec.ofNat z.bits (s.data ea z.bytes)).signExtend 128
    let zero := fun ea => (BitVec.ofNat z.bits (s.data ea z.bytes)).setWidth 128
    (o.vd = false → loads (.load z o x) o.rt (eaDisp o x.tail s) (signed (eaDisp o x.tail s)) id ∧
      loads (.loadz z o x) o.rt (eaDisp o x.tail s) (zero (eaDisp o x.tail s)) id) ∧
    (q.vec = .scalar → ∀ ea upd, eaIndexed q z.bytes x.tail s = .ok (ea, upd) s →
      let index := fun (t : State) => if q.rt = q.rc then t else t.setIndex q.rc upd
      loads (.loadX z q x) q.rt ea (signed ea) index ∧ loads (.loadzX z q x) q.rt ea (zero ea) index)

/-- STORE and STPTR of one register (47_memory_ops R582, R585, R600, R611): the low bytes of the register, of the stack
canary for r53 in STORE, go to the address; every other byte of memory keeps its value; the index register gets its new
value. Clauses rest on the decisions D18, D41, D49 of 92_eei_decisions. -/
def Obligations.StoresOfOneRegister : Prop :=
  ∀ (z : Size) (o : MemD) (q : MemX) (x : Ext) (s : State), s.enabled x false → Memory.wf s.mem = true →
    let stores := fun (c : Instr) (z : Size) (ea : Addr) (v : Word) (rc : Reg) (upd : Option Word) => s.ram ea z.bytes →
      ∃ t, Stored s t ea z.bytes v.toNat ∧ t = { s with mem := t.mem, stale := t.stale } ∧
        exec c s = .next ((t.setIndex rc upd).passed (extLen x))
    (x.tail.regs = none → o.vd = false → stores (.store z o x) z (eaDisp o x.tail s) (s.storeReg o.rt) 0 none) ∧
    stores (.stptrT o x) .t (eaDisp o x.tail s) (s.reg o.rt) 0 none ∧
    stores (.stptrO o x) .o (eaDisp o x.tail s) (s.reg o.rt) 0 none ∧
    stores (.stptrH o x) .h (eaDisp o x.tail s) (s.reg o.rt) 0 none ∧
    ∀ (y : Size) ea upd, eaIndexed q y.bytes x.tail s = .ok (ea, upd) s →
      (x.tail.regs = none → q.vec = .scalar → stores (.storeX y q x) y ea (s.storeReg q.rt) q.rc upd) ∧
      (y = .t → stores (.stptrTX q x) .t ea (s.reg q.rt) q.rc upd) ∧
      (y = .o → stores (.stptrOX q x) .o ea (s.reg q.rt) q.rc upd) ∧
      (y = .h → stores (.stptrHX q x) .h ea (s.reg q.rt) q.rc upd)

/-- Loads and stores with a REGS list (47_memory_ops R584; 30_encoding R236): Rt and then the registers of the list in the
order of its bits, one operand width apart; bits 61 to 63 of the list are ASP, SSP and HSP, the others the registers of
R236's table. A difference from the stack canary, loaded to r53 first, raises vector 11. The index register is updated after
the transfers, also where the list loads it, but not where Rt is it, nor where the canary differs (log 30). Clauses rest on
the decision D33 of 92_eei_decisions. -/
def Obligations.RegisterListTransfers : Prop :=
  (let runs : List (Nat × Nat × Nat) := [(0, 1, 3), (3, 8, 8), (11, 16, 9), (20, 32, 1), (21, 55, 1), (22, 56, 1),
      (23, 61, 1), (24, 62, 1), (25, 4, 4), (29, 40, 4), (33, 44, 4), (37, 25, 7), (44, 33, 7), (51, 57, 3), (54, 52, 1),
      (55, 60, 1), (56, 54, 1), (57, 48, 4)]
   (∀ bit reg count k, (bit, reg, count) ∈ runs → k < count → regsBit (bit + k) = .reg (.ofNat 6 (reg + k))) ∧
   regsBit 61 = .bank 0 ∧ regsBit 62 = .bank 1 ∧ regsBit 63 = .bank 2) ∧
  ∀ (z : Size) (o : MemD) (q : MemX) (x : Ext) (s : State) (list : BitVec 64), s.enabled x false →
    x.tail.regs = some list →
    let n := z.bytes
    let all := fun (rt : Reg) => Tgt.reg rt :: ((List.range 64).filter fun i => list.getLsbD i).map regsBit
    let put := fun (ts : List Tgt) (val : Nat → Word) => ts.zipIdx.foldl (fun (t : State) (e : Tgt × Nat) =>
      match e.1 with
      | .reg r => if r = 53 then t else t.setReg r (val e.2)
      | .bank m => t.setBank m (val e.2)) s
    let loads := fun (c : Instr) (rt : Reg) (ea : Addr) (val : Nat → Word) (index : State → State) =>
      s.ram ea (n * (all rt).length) →
        (rt ≠ 53 ∨ val 0 = s.sc → exec c s = .next ((index (put (all rt) val)).passed (extLen x))) ∧
        (rt = 53 → val 0 ≠ s.sc → Traps c s 11 none)
    let signed := fun (ea : Addr) (k : Nat) => (BitVec.ofNat z.bits (s.data (ea + .ofNat 64 (k * n)) n)).signExtend 128
    let zero := fun (ea : Addr) (k : Nat) => (BitVec.ofNat z.bits (s.data (ea + .ofNat 64 (k * n)) n)).setWidth 128
    let stores := fun (c : Instr) (rt rc : Reg) (ea : Addr) (upd : Option Word) => Memory.wf s.mem = true →
      let vs := s.storeReg rt :: (all rt).tail.map fun g => match g with
        | .reg r => s.reg r
        | .bank m => s.bank m
      s.ram ea (n * vs.length) →
        ∃ t, Stored s t ea (n * vs.length) (vs.zipIdx.map fun e => (e.1.setWidth z.bits).toNat * 256 ^ (n * e.2)).sum ∧
          t = { s with mem := t.mem, stale := t.stale } ∧ exec c s = .next ((t.setIndex rc upd).passed (extLen x))
    (o.vd = false → loads (.load z o x) o.rt (eaDisp o x.tail s) (signed (eaDisp o x.tail s)) id ∧
      loads (.loadz z o x) o.rt (eaDisp o x.tail s) (zero (eaDisp o x.tail s)) id ∧
      stores (.store z o x) o.rt 0 (eaDisp o x.tail s) none) ∧
    (q.vec = .scalar → ∀ ea upd, eaIndexed q n x.tail s = .ok (ea, upd) s →
      let index := fun (t : State) => if q.rt = q.rc then t else t.setIndex q.rc upd
      loads (.loadX z q x) q.rt ea (signed ea) index ∧ loads (.loadzX z q x) q.rt ea (zero ea) index ∧
      stores (.storeX z q x) q.rt q.rc ea upd)

/-- FLOAD and FSTORE of a register and of those of a REGS list after it (47_memory_ops R584, R596, R606; 42_float R405):
FLOAD makes each storage format a quad number of the same value, and loads the 16 bytes of a quad number as they are; FSTORE
stores the values in the storage format, rounded in the mode in force; where one is a NaN, some NaN (log 8). The index
register as in LOAD and STORE, kept where the canary differs (log 30). Clauses rest on the decision D25 of 92_eei_decisions.
-/
def Obligations.FloatLoadsAndStores : Prop :=
  ∀ (p : Prec) (o : MemD) (q : MemX) (x : Ext) (s : State), s.enabled x false →
    let n := p.bytes
    let rest := regsList x.tail
    let loads := fun (c : Instr) (rt : Reg) (ea : Addr) (index : State → State) => s.ram ea (n * (1 + rest.length)) →
      ∃ (rs : Nat → Word) (d e : Nat),
        (∀ k, k ≤ rest.length →
          (p = .q → rs k = .ofNat 128 (s.data (ea + .ofNat 64 (k * n)) 16)) ∧
          FVal.same (quadVal (rs k)) ((precFmt p).value (s.data (ea + .ofNat 64 (k * n)) n))) ∧
        let first := if rt = 53 then s else s.setReg rt (rs 0)
        let u := rest.zipIdx.foldl (fun (t : State) (g : Tgt × Nat) =>
          match g.1 with
          | .reg r => t.setReg r (rs (g.2 + 1))
          | .bank m => t.setBank m (rs (g.2 + 1))) first
        (rt ≠ 53 ∨ rs 0 = s.sc → exec c s = .next { (index u).passed (extLen x) with draws := d }) ∧
        (rt = 53 → rs 0 ≠ s.sc → ∀ a, s.handler 11 a →
          exec c s = .next { s.took 11 s.pc none a with retire := .fault, draws := e })
    let stores := fun (c : Instr) (v : Word) (ea : Addr) (rc : Reg) (upd : Option Word) =>
      s.ram ea (n * (1 + rest.length)) → Memory.wf s.mem = true →
      let vs := v :: rest.map fun g => g.value s
      ∃ (t : State) (rs : Nat → Nat),
        (∀ k, k ≤ rest.length → rs k < 256 ^ n ∧
          if p = .q then rs k = (vs.getD k 0).toNat
          else match (precFmt p).convert s.rmImm (quadVal (vs.getD k 0)) with
            | some b => rs k = b
            | none => (precFmt p).value (rs k) = .nan) ∧
        Stored s t ea (n * (1 + rest.length)) ((List.range (1 + rest.length)).map fun k => rs k * 256 ^ (n * k)).sum ∧
        t = { s with mem := t.mem, stale := t.stale, draws := t.draws } ∧
        exec c s = .next ((t.setIndex rc upd).passed (extLen x))
    (o.vd = false → loads (.fload p o x) o.rt (eaDisp o x.tail s) id ∧
      stores (.fstore p o x) (s.reg o.rt) (eaDisp o x.tail s) 0 none) ∧
    (q.vec = .scalar → ∀ ea upd, eaIndexed q n x.tail s = .ok (ea, upd) s →
      loads (.floadX p q x) q.rt ea (fun t => if q.rt = q.rc then t else t.setIndex q.rc upd) ∧
      stores (.fstoreX p q x) (s.reg q.rt) ea q.rc upd)

/-- Vector loads and stores (47_memory_ops R587): element k is at the address plus k operand widths, or at the address its
element of the index vector, taken as unsigned (log 30), gives; only enabled elements are loaded or stored, and of two
elements stored to one byte the higher stays. FLOAD and FSTORE convert each element of 128 bits, and leave the bits of a
quad number as they are (R596, R606; log 8). The elements processed are as many as VL says and 512 bits hold, and the mask
is r32, or the register the mask byte names, complemented under its S bit (30_encoding R240; 41_vector R380), as in every
vector instruction. A REGS list among the postfixes is ignored, by the model's choice (R584 and R587 do not say how the two
combine; log 30). Clauses rest on the decisions D24, D49 of 92_eei_decisions. -/
def Obligations.VectorLoadsAndStores : Prop :=
  (∀ (z : Size) (p : Prec) (o : MemD) (q : MemX) (x : Ext) (s : State), s.predOk = true →
    let n := z.bytes
    let w := z.bits
    let on := fun k => k < s.elems w ∧ (s.vecMask x.mask).getLsbD k = true
    let lane := fun k => k < s.elems 128 ∧ (s.vecMask x.mask).getLsbD k = true
    let floads := fun (c : Instr) (rt : Reg) (at_ : Nat → Addr) => (∀ k, lane k → s.ram (at_ k) p.bytes) →
      ∃ t, exec c s = .next t ∧ LanesRel s t 128 rt (s.vecMask x.mask) (extLen x) fun k r =>
        (p = .q → r = .ofNat 128 (s.data (at_ k) 16)) ∧ FVal.same (quadVal r) ((precFmt p).value (s.data (at_ k) p.bytes))
    let fstores := fun (c : Instr) (rt : Reg) (at_ : Nat → Addr) => (∀ k, lane k → s.ram (at_ k) p.bytes) →
      Memory.wf s.mem = true →
      ∃ (t : State) (rs : Nat → Nat), exec c s = .next t ∧
        t = { s.passed (extLen x) with mem := t.mem, stale := t.stale, vrm := BitVec.allOnes 128, draws := t.draws } ∧
        (∀ k, lane k → rs k < 256 ^ p.bytes ∧
          if p = .q then rs k = (s.elem 128 rt k).toNat
          else match (precFmt p).convert s.rmImm (quadVal (s.elem 128 rt k)) with
            | some b => rs k = b
            | none => (precFmt p).value (rs k) = .nan) ∧
        (∀ k i, lane k → i < p.bytes →
          (∀ j l, k < j → lane j → l < p.bytes → at_ j + .ofNat 64 l ≠ at_ k + .ofNat 64 i) →
            t.byte (at_ k + .ofNat 64 i).toNat = .ofNat 8 (rs k / 256 ^ i)) ∧
        ∀ a, (∀ k i, lane k → i < p.bytes → a ≠ (at_ k + .ofNat 64 i).toNat) → t.byte a = s.byte a
    let loads := fun (c : Instr) (rt : Reg) (at_ : Nat → Addr) => (∀ k, on k → s.ram (at_ k) n) →
      ∃ t, exec c s = .next t ∧
        Lanes s t w rt (s.vecMask x.mask) (extLen x) fun k => BitVec.ofNat w (s.data (at_ k) n)
    let stores := fun (c : Instr) (rt : Reg) (at_ : Nat → Addr) => (∀ k, on k → s.ram (at_ k) n) →
      Memory.wf s.mem = true →
      ∃ t, exec c s = .next t ∧
        t = { s.passed (extLen x) with mem := t.mem, stale := t.stale, vrm := BitVec.allOnes 128 } ∧
        (∀ k i, on k → i < n →
          (∀ j l, k < j → on j → l < n → at_ j + .ofNat 64 l ≠ at_ k + .ofNat 64 i) →
            t.byte (at_ k + .ofNat 64 i).toNat = (s.elem w rt k).extractLsb' (8 * i) 8) ∧
        ∀ a, (∀ k i, on k → i < n → a ≠ (at_ k + .ofNat 64 i).toNat) → t.byte a = s.byte a
    let row := fun (n k : Nat) => eaDisp o x.tail s + .ofNat 64 (k * n)
    let place := fun (n w k : Nat) => (s.reg q.rb).setWidth 64 +
      (if q.vec = .gather then (s.elem w q.rc k).setWidth 64 * .ofNat 64 (if q.sc then n else 1)
        else (s.reg q.rc).setWidth 64 * .ofNat 64 (if q.sc then n else 1) + .ofNat 64 (k * n)) +
      ((x.tail.const.map fun c => c.setWidth 64).getD 0 : Addr)
    (o.vd = true → loads (.load z o x) o.rt (row n) ∧ loads (.loadz z o x) o.rt (row n) ∧
      stores (.store z o x) o.rt (row n) ∧ floads (.fload p o x) o.rt (row p.bytes) ∧
      fstores (.fstore p o x) o.rt (row p.bytes)) ∧
    (q.vec ≠ .scalar → loads (.loadX z q x) q.rt (place n w) ∧ loads (.loadzX z q x) q.rt (place n w) ∧
      stores (.storeX z q x) q.rt (place n w) ∧ floads (.floadX p q x) q.rt (place p.bytes 128) ∧
      fstores (.fstoreX p q x) q.rt (place p.bytes 128))) ∧
  ∀ s : State,
    s.vecMask none = s.reg 32 ∧
    (∀ m : MaskByte, s.vecMask (some m) = if m.svm then ~~~s.reg m.vm else s.reg m.vm) ∧
    ∀ w : Nat, s.elems w = if s.vl.toNat * w ≤ 512 ∧ w ≠ 0 then s.vl.toNat else 512 / w

/-- Atomic operations and CMPXCHG (47_memory_ops R614, R620 to R628; 20_memory R104, R173): at an aligned address the
old value goes to Rt, sign-extended, and the new one to memory, in one step; CMPXCHG stores only where the old value is
Rb's. Elsewhere, Address Error, and nothing is done. Clauses rest on the decisions D1, D2 of 92_eei_decisions. -/
def Obligations.AtomicOperations : Prop :=
  ∀ (o : AmoR) (i : AmoI) (c : Xchg) (x : Ext) (s : State), s.enabled x false →
    let amo := fun (inst : Instr) (z : Size) (rt ra : Reg) (new : BitVec z.bits → Option (BitVec z.bits)) =>
      let ea := (s.reg ra).setWidth 64
      let old := BitVec.ofNat z.bits (s.data ea z.bytes)
      (ea.toNat % z.bytes = 0 → s.ram ea z.bytes → Memory.wf s.mem = true →
        ∃ t, exec inst s = .next (t.wrote (extLen x) rt (old.signExtend 128)) ∧
          match new old with
          | some v => Stored s t ea z.bytes v.toNat ∧ t = { s with mem := t.mem, stale := t.stale }
          | none => t = s) ∧
      (ea.toNat % z.bytes ≠ 0 → Traps inst s 3 (some ea))
    let b := (x.tail.const.getD (s.reg o.rb)).setWidth o.size.bits
    let m := (x.tail.const.getD (i.imm.signExtend 128)).setWidth i.size.bits
    let r := fun (inst : Instr) (f : BitVec o.size.bits → BitVec o.size.bits) =>
      amo inst o.size o.rt o.ra fun v => some (f v)
    let imm := fun (inst : Instr) (f : BitVec i.size.bits → BitVec i.size.bits) =>
      amo inst i.size i.rt i.ra fun v => some (f v)
    r (.amadd o x) (fun v => v + b) ∧ r (.amand o x) (fun v => v &&& b) ∧ r (.amor o x) (fun v => v ||| b) ∧
    r (.ameor o x) (fun v => v ^^^ b) ∧ r (.amasl o x) (fun v => v <<< (b.toNat % 128)) ∧
    r (.amlsr o x) (fun v => v >>> (b.toNat % 128)) ∧
    r (.ammin o x) (fun v => if b.toInt < v.toInt then b else v) ∧
    r (.amminu o x) (fun v => if b.toNat < v.toNat then b else v) ∧
    imm (.amaddImm i x) (fun v => v + m) ∧ imm (.amandImm i x) (fun v => v &&& m) ∧
    imm (.amorImm i x) (fun v => v ||| m) ∧ imm (.ameorImm i x) (fun v => v ^^^ m) ∧
    imm (.amaslImm i x) (fun v => v <<< (m.toNat % 128)) ∧ imm (.amlsrImm i x) (fun v => v >>> (m.toNat % 128)) ∧
    amo (.cmpxchg c x) c.size c.rt c.ra
      (fun v => if v = (s.reg c.rb).setWidth c.size.bits then some ((s.reg c.rc).setWidth c.size.bits) else none)

/-- One iteration of a block instruction (43_string_block R460 to R466; log 29): with the loop counter zero the
instruction is over; else BCMP goes on while the elements are equal, BFND while the element is not Ra's, BMOV and BSET
store; the pointers are adjusted, one whose code is 0 not being written, and the counter goes down, and the instruction
is executed again unless the counter is zero. Clauses rest on the decision D28 of 92_eei_decisions. -/
def Obligations.BlockIterations : Prop :=
  ∀ (o : Blk) (b : BSetOp) (x : Ext) (s : State), s.enabled x false →
    let n := o.size.bytes
    let pa := (s.reg o.ra).setWidth 64
    let pb := (s.reg o.rb).setWidth 64
    let move := fun (t : State) (r : Reg) (d : Word) => if d = 0 then t else t.setReg r (t.reg r + d)
    let code := fun (c : BitVec 2) => if c = 1 then BitVec.ofNat 128 n else if c = 2 then -BitVec.ofNat 128 n else (0 : Word)
    let bcode := fun (c : BitVec 4) => if c = 1 then (1 : Word) else if c = 2 then 2 else if c = 3 then 4 else if c = 4 then 8
      else if c = 5 then 16 else if c = 15 then -1 else if c = 14 then -2 else if c = 13 then -4 else if c = 12 then -8
      else if c = 11 then -16 else 0
    let fin := fun (c : Instr) (t : State) =>
      let u := move t 55 (-1)
      exec c s = .next (if u.reg 55 = 0 then u.passed (extLen x) else { u with retire := .again })
    let ends := fun (c : Instr) => exec c s = .next (s.passed (extLen x))
    let both := fun (t : State) => move (move t o.ra (code o.ai)) o.rb (code o.bi)
    (s.reg 55 = 0 → ends (.bcmp o x) ∧ ends (.bfnd o x) ∧ ends (.bmov o x) ∧ ends (.bset b x)) ∧
    (s.reg 55 ≠ 0 →
      (s.ram pa n → s.ram pb n → (s.data pa n = s.data pb n → fin (.bcmp o x) (both s)) ∧
        (s.data pa n ≠ s.data pb n → ends (.bcmp o x))) ∧
      (s.ram pb n → (BitVec.ofNat o.size.bits (s.data pb n) = (s.reg o.ra).setWidth o.size.bits → ends (.bfnd o x)) ∧
        (BitVec.ofNat o.size.bits (s.data pb n) ≠ (s.reg o.ra).setWidth o.size.bits →
          fin (.bfnd o x) (move s o.rb (code o.bi)))) ∧
      (s.ram pa n → s.ram pb n → Memory.wf s.mem = true →
        ∃ t, Stored s t pb n (s.data pa n) ∧ t = { s with mem := t.mem, stale := t.stale } ∧ fin (.bmov o x) (both t)) ∧
      (s.ram ((s.reg b.rb).setWidth 64) b.size.bytes → Memory.wf s.mem = true →
        ∃ t, Stored s t ((s.reg b.rb).setWidth 64) b.size.bytes (s.reg b.ra).toNat ∧
          t = { s with mem := t.mem, stale := t.stale } ∧ fin (.bset b x) (move t b.rb (bcode b.bi))))

/-- LA gives the address and reads nothing (47_memory_ops R610), LA and LOADG updating the index before Rt (log 30).
STORE_PAIR stores two registers side by side (R615). LOADG and STOREG move the halves of eight registers from and to 64
bytes, those a mask leaves out keeping their values, or storing zero; r0 and r53 are not loaded (R616, R617). Clauses
rest on the decision D34 of 92_eei_decisions. -/
def Obligations.AddressesPairsAndGroups : Prop :=
  ∀ (o : MemD) (q : MemX) (p : Pair) (m : Option (BitVec 8)) (x : Ext) (t : Tail) (s : State), s.enabled x false →
    let glen := 5 + m.isSome.toNat + t.len
    let takes := fun (i : Nat) => (m.map fun b => b.getLsbD i).getD true
    let member := fun (g : Reg) (i : Nat) => (BitVec.ofNat 6 (8 * (g.toNat % 8) + i) : Reg)
    let lo := fun (g : Reg) => 64 * (g.toNat / 8 % 2)
    let half := fun (g : Reg) (v : Word) (h : BitVec 64) =>
      (if lo g = 0 then v.extractLsb' 64 64 ++ h else h ++ v.extractLsb' 0 64 : BitVec 128)
    let group := fun (g : Reg) (ea : Addr) (u : State) => (List.range 8).foldl (fun (u : State) (i : Nat) =>
      if takes i = true ∧ member g i ≠ 0 ∧ member g i ≠ 53 then
        u.setReg (member g i) (half g (u.reg (member g i)) (.ofNat 64 (s.data (ea + .ofNat 64 (8 * i)) 8)))
      else u) u
    let stored := fun (g : Reg) (c : Instr) (ea : Addr) (rc : Reg) (upd : Option Word) => s.ram ea 64 →
      Memory.wf s.mem = true → ∃ u v,
        (∀ i, i < 8 → v / 256 ^ (8 * i) % 256 ^ 8 =
          if takes i then ((s.reg (member g i)).extractLsb' (lo g) 64).toNat else 0) ∧
        Stored s u ea 64 v ∧ u = { s with mem := u.mem, stale := u.stale } ∧ exec c s = .next ((u.setIndex rc upd).passed glen)
    exec (.la o x) s = .next (s.wrote (extLen x) o.rt ((eaDisp o x.tail s).setWidth 128)) ∧
    (∀ ea upd, eaIndexed q 1 x.tail s = .ok (ea, upd) s →
      exec (.laX q x) s = .next ((s.setIndex q.rc upd).wrote (extLen x) q.rt (ea.setWidth 128))) ∧
    (let ea := (s.reg p.ra).setWidth 64 + ((x.tail.const.map fun c => c.setWidth 64).getD (p.disp.signExtend 64) : Addr)
     s.ram ea (2 * p.size.bytes) → Memory.wf s.mem = true → ∃ u,
      Stored s u ea (2 * p.size.bytes) (((s.reg p.rb).setWidth p.size.bits).toNat + 256 ^ p.size.bytes * (s.reg p.rc).toNat) ∧
      u = { s with mem := u.mem, stale := u.stale } ∧ exec (.storePair p x) s = .next (u.passed (extLen x))) ∧
    (s.ram (eaDisp o t s) 64 → exec (.loadg o m t) s = .next ((group o.rt (eaDisp o t s) s).passed glen)) ∧
    stored o.rt (.storeg o m t) (eaDisp o t s) 0 none ∧
    ∀ ea upd, eaIndexed q 64 t s = .ok (ea, upd) s →
      (s.ram ea 64 → exec (.loadgX q m t) s = .next ((group q.rt ea (s.setIndex q.rc upd)).passed glen)) ∧
      stored q.rt (.storegX q m t) ea q.rc upd

/-- CACHE completes (47_memory_ops R612; 20_memory R145, R176), in both formats, and only these things change. An
instruction-cache command makes every fetch see the bytes that are there (log 11). The TLB command for all entries moves
the current count on, and clears V of an entry that has the new count (log 34): no way translates any address any more. The
one for an address clears V of the entry of each way that translates it, in no other slot. The data-cache commands do
nothing. Clauses rest on the decisions D4, D39 of 92_eei_decisions. -/
def Obligations.CacheCommands : Prop :=
  ∀ (o : MemD) (q : MemX) (x : Ext) (s : State), s.enabled x false →
    let kill := fun (e : TlbEntry) => { e with pte := e.pte &&& ~~~BitVec.twoPow 96 31 }
    let cache := fun (c : Instr) (cmd : BitVec 6) (ea : Addr) =>
      let code := cmd.extractLsb' 0 3
      let va := s.virt ea
      ∃ t, exec c s = .next t ∧ t = { s.passed (extLen x) with stale := t.stale, tlb := t.tlb } ∧
        (code = 0 ∨ code = 1 → t.stale = [] ∧ t.tlb = s.tlb ∧ ∀ a, t.fetchByte a = t.physByte a) ∧
        (code = 4 → t.stale = s.stale ∧ (∀ va, t.hits va = []) ∧
          t.tlb = { s.tlb with count := s.tlb.count + 1, entries := t.tlb.entries } ∧
          ∀ slot, t.tlb.get slot =
            if (s.tlb.get slot).count = s.tlb.count + 1 then kill (s.tlb.get slot) else s.tlb.get slot) ∧
        (code = 5 → t.stale = s.stale ∧ t.hits va = [] ∧ t.tlb = { s.tlb with entries := t.tlb.entries } ∧
          ∀ slot, t.tlb.get slot =
            if ∃ way, way ∈ s.hits va ∧ slot = waySlot way va then kill (s.tlb.get slot) else s.tlb.get slot) ∧
        (code = 2 ∨ code = 3 ∨ code = 6 ∨ code = 7 → t = s.passed (extLen x))
    cache (.cache o x) o.rt (eaDisp o x.tail s) ∧
    cache (.cacheX q x) q.rt ((s.reg q.rb).setWidth 64 + (s.reg q.rc).setWidth 64 +
      ((x.tail.const.map fun c => c.setWidth 64).getD 0 : Addr))

/-- What a load or a store of one register does where no memory stands. Bytes of which one is claimed by nothing raise Bus
Error, vector 2, with the address of the first such byte (20_memory R106, R113): nothing is loaded or, within a page,
stored. A register of the PIC takes 4 bytes, of a PIT 8, its control registers also one, at their lowest byte by the model's
choice (log 36), of the TLB 8, a store to one of its triggers one; loads give its value, stores write it (60_exceptions
R802, R814; 20_memory R149); other accesses are refused (20_memory R114). The region table takes accesses of any size
(20_memory R120; log 32). A trigger reads, writes or exchanges the TLB entry that the control register selects (log 33); a
read takes the way of that register whatever the replacement method, a write or an exchange one of ways 0 to 3 where the
method is not the fixed one (20_memory R148; log 10), and where S_PTBR.AL2 and AL disagree on that, either, by a free choice
(log 56). The model's choices: an entry written has the current count, no LRU value and no cached rights, and a fixed way 6
to 15 is refused (log 10, 34); an octa load of the trigger word at offset 0x78, for which R149 gives no value, gives zero,
and a store of that octa or a load of one trigger is refused; offsets of the TLB's window that R149 calls unused or does not
list read zero and ignore writes (log 37). The control register stores its fields, wherever they lie (log 33), and no
reserved bit (93_implementation_defined section 4). Clauses rest on the decisions D12, D28, D32 of 92_eei_decisions. -/
def Obligations.UnitRegistersAndUnclaimedAddresses : Prop :=
  ∀ (z : Size) (o : MemD) (x : Ext) (s : State), s.enabled x false → x.tail.regs = none → o.vd = false → s.flat →
    let ea := eaDisp o x.tail s
    let n := z.bytes
    let v := s.storeReg o.rt
    let stored := fun (t : State) => exec (.store z o x) s = .next (t.passed (extLen x))
    let loaded := fun (r : Nat) => o.rt ≠ 53 →
      exec (.loadz z o x) s = .next (s.wrote (extLen x) o.rt ((BitVec.ofNat z.bits r).setWidth 128)) ∧
      exec (.load z o x) s = .next (s.wrote (extLen x) o.rt ((BitVec.ofNat z.bits r).signExtend 128))
    let refused := exec (.loadz z o x) s = .refused .deviceAccess ∧ exec (.load z o x) s = .refused .deviceAccess ∧
      exec (.store z o x) s = .refused .deviceAccess
    (∀ k, k < n → (∀ i, i < n → s.device (ea + .ofNat 64 i).toNat = none) →
      (∀ i, i < k → s.claimed (ea + .ofNat 64 i).toNat = true) → s.claimed (ea + .ofNat 64 k).toNat = false →
        Traps (.load z o x) s 2 (some (ea + .ofNat 64 k)) ∧ Traps (.loadz z o x) s 2 (some (ea + .ofNat 64 k)) ∧
        (ea.toNat % 16384 + n ≤ 16384 → Traps (.store z o x) s 2 (some (ea + .ofNat 64 k)))) ∧
    ∀ off, ea.toNat % 16384 + n ≤ 16384 →
      let unit := fun (d : Device) => ∀ i, i < n → s.device (ea.toNat + i) = some (d, off + i)
      let wide := z = .o ∧ off % 8 = 0
      let ctrl := z = .b ∧ off < 0x800 ∧ off % 32 = 0x18
      (unit .pic →
        (z = .t ∧ off % 4 = 0 → loaded (s.picRead off).toNat ∧
          stored ({ s with pic := s.pic.write off (v.setWidth 32) } : State).samplePic) ∧
        (¬ (z = .t ∧ off % 4 = 0) → refused)) ∧
      (unit .pit1 →
        (wide ∨ ctrl → loaded (s.pit1.read s.params off).toNat ∧
          stored ({ s with pit1 := s.pit1.write s.params off ((v.setWidth z.bits).setWidth 64) } : State).samplePic) ∧
        (¬ wide → ¬ ctrl → refused)) ∧
      (unit .pit2 →
        (wide ∨ ctrl → loaded (s.pit2.read s.params off).toNat ∧
          stored ({ s with pit2 := s.pit2.write s.params off ((v.setWidth z.bits).setWidth 64) } : State).samplePic) ∧
        (¬ wide → ¬ ctrl → refused)) ∧
      (unit .tlb →
        let t := s.tlb
        let w : BitVec 64 := v.setWidth 64
        let put := fun (u : Tlb) => stored { s with tlb := u }
        let fields : BitVec 64 := 0xF ||| 0x3FF#64 <<< s.params.tlbEntryLo ||| 3#64 <<< s.params.tlbAlLo
        let way := (t.ctrl.extractLsb' 0 4).toNat
        let slot := way * 1024 + (t.ctrl.extractLsb' s.params.tlbEntryLo 10).toNat
        let al := t.ctrl.extractLsb' s.params.tlbAlLo 2 ≠ 0
        let al2 := s.ptbr.extractLsb' 6 2 ≠ 0
        let absent := exec (.store z o x) s = .refused .tlbWay
        let writes := fun (k : Nat) =>
          let chosen := k * 1024 + (t.ctrl.extractLsb' s.params.tlbEntryLo 10).toNat
          let old := t.get chosen
          let new := t.put chosen ⟨t.holdPte, t.holdVpn, t.count, 0, none⟩
          (off = 0x7E → stored { s with tlb := new, draws := s.draws + 1 }) ∧
          (off = 0x7F → stored { s with
            tlb := { new with holdPte := old.pte, holdVpn := old.vpn }, draws := s.draws + 1 })
        let fixed := (way < 6 → writes way) ∧ (6 ≤ way → 0x7E ≤ off → off ≤ 0x7F → absent)
        let automatic := ∃ k, k < 4 ∧ writes k
        (wide → off = 0x00 → loaded (t.holdPte.extractLsb' 0 64).toNat ∧
          put { t with holdPte := t.holdPte.extractLsb' 64 32 ++ w }) ∧
        (wide → off = 0x08 → loaded (t.holdPte.extractLsb' 64 32).toNat ∧
          put { t with holdPte := w.extractLsb' 0 32 ++ t.holdPte.extractLsb' 0 64 }) ∧
        (wide → off = 0x10 → loaded (t.holdVpn.extractLsb' 0 64).toNat ∧
          put { t with holdVpn := t.holdVpn.extractLsb' 64 32 ++ w }) ∧
        (wide → off = 0x18 → loaded (t.holdVpn.extractLsb' 64 32).toNat ∧
          put { t with holdVpn := w.extractLsb' 0 32 ++ t.holdVpn.extractLsb' 0 64 }) ∧
        (wide → off = 0x20 → loaded t.missAddr.toNat ∧ put t) ∧
        (wide → off = 0x28 → loaded (2 ^ 48 * t.missAsid.toNat) ∧ put t) ∧
        (wide → off = 0x70 → loaded t.ctrl.toNat ∧ put { t with ctrl := w &&& fields }) ∧
        (z = .b → 0x78 ≤ off → off ≤ 0x7C → put t) ∧
        (z = .b → off = 0x7D → (way < 6 → put { t with holdPte := (t.get slot).pte, holdVpn := (t.get slot).vpn }) ∧
          (6 ≤ way → absent)) ∧
        (z = .b → (¬ al → ¬ al2 → fixed) ∧ (al → al2 → automatic) ∧ (¬ (al ↔ al2) → fixed ∨ automatic)) ∧
        (z = .b → 0x78 ≤ off → off ≤ 0x7F → exec (.loadz z o x) s = .refused .deviceAccess ∧
          exec (.load z o x) s = .refused .deviceAccess) ∧
        (wide → off = 0x78 → loaded 0 ∧ exec (.store z o x) s = .refused .deviceAccess) ∧
        (wide → 0x28 < off → off ≠ 0x70 → off ≠ 0x78 → loaded 0 ∧ put t) ∧
        (¬ wide → (z = .b → off < 0x78 ∨ 0x7F < off) → refused)) ∧
      (unit .region →
        let byte := fun (r : Vector Region 8) (j : Nat) => match r[j / 64]? with
          | none => 0#8
          | some e => (if j / 16 % 4 = 0 then e.pmt else if j / 16 % 4 = 1 then e.cta
              else if j / 16 % 4 = 2 then e.at_ else 0).extractLsb' (8 * (j % 16)) 8
        (∃ r, (∀ i, i < n → BitVec.ofNat 8 (r / 256 ^ i) = byte s.regions (off + i)) ∧ loaded r) ∧
        ∃ t : State, stored t ∧ t = { s with regions := t.regions, stale := t.stale } ∧
          ∀ j, byte t.regions j = if off ≤ j ∧ j < off + n ∧ j < 512 ∧ j / 16 % 4 ≠ 3
            then .ofNat 8 (v.toNat / 256 ^ (j - off)) else byte s.regions j)

/-- The integer branches, short and long (46_flow_control R530 to R551, R561, R563): the condition on whole registers,
the second compared value being Rn, or the bit number an immediate, or a constant of the postfixes; when it holds the
program counter moves by the displacement from this instruction, else past the instruction. Nothing else changes. Clauses
rest on the decisions D43, D48 of 92_eei_decisions. -/
def Obligations.IntegerBranches : Prop :=
  ∀ (o : Br) (l : LBr) (t : Tail) (s : State), s.predOk = true →
    let go := fun (c : Instr) (base : Nat) (disp : Addr) (p : Prop) =>
      (p → exec c s = .next (s.went (s.pc + disp))) ∧ (¬ p → exec c s = .next (s.passed (base + t.len)))
    let on := fun (c d : Instr) (p : Word → Word → Prop) =>
      go c 5 (o.disp.signExtend 64) (p (s.reg o.rm) (t.const.getD (s.reg o.rn))) ∧
      go d 6 (l.disp.signExtend 64) (p (s.reg l.rm) (t.const.getD (s.reg l.rn)))
    let bit := fun (c d : Instr) (v : Bool) =>
      go c 5 (o.disp.signExtend 64) ((s.reg o.rm).getLsbD (t.const.getD (o.rn.setWidth 128)).toNat = v) ∧
      go d 6 (l.disp.signExtend 64) ((s.reg l.rm).getLsbD (t.const.getD (l.rn.setWidth 128)).toNat = v)
    on (.beq o t) (.lbeq l t) (fun a b => a = b) ∧
    on (.bne o t) (.lbne l t) (fun a b => a ≠ b) ∧
    on (.blt o t) (.lblt l t) (fun a b => a.toInt < b.toInt) ∧
    on (.ble o t) (.lble l t) (fun a b => a.toInt ≤ b.toInt) ∧
    on (.bge o t) (.lbge l t) (fun a b => b.toInt ≤ a.toInt) ∧
    on (.bgt o t) (.lbgt l t) (fun a b => b.toInt < a.toInt) ∧
    on (.bbc o t) (.lbbc l t) (fun a b => a.getLsbD b.toNat = false) ∧
    on (.bbs o t) (.lbbs l t) (fun a b => a.getLsbD b.toNat = true) ∧
    on (.bltu o t) (.lbltu l t) (fun a b => a.toNat < b.toNat) ∧
    on (.bleu o t) (.lbleu l t) (fun a b => a.toNat ≤ b.toNat) ∧
    on (.bgeu o t) (.lbgeu l t) (fun a b => b.toNat ≤ a.toNat) ∧
    on (.bgtu o t) (.lbgtu l t) (fun a b => b.toNat < a.toNat) ∧
    bit (.bbcImm o t) (.lbbcImm l t) false ∧ bit (.bbsImm o t) (.lbbsImm l t) true

/-- The floating-point branches, short and long (46_flow_control R540, R561, R564 to R577): each tests one bit of the
FCMP result vector of Rm and Rn, or of Rm and a constant. -/
def Obligations.FloatBranches : Prop :=
  ∀ (o : Br) (l : LBr) (t : Tail) (s : State), s.predOk = true →
    ∃ c d, floatTail t s = .ok c { s with draws := d } ∧ (t.hasConst = false → c = none) ∧
    let go := fun (i : Instr) (base : Nat) (disp : Addr) (p : Bool) => exec i s =
      .next { (if p then s.went (s.pc + disp) else s.passed (base + t.len)) with draws := d }
    let on := fun (i j : Instr) (bit : Nat) =>
      go i 5 (o.disp.signExtend 64) ((frel (s.reg o.rm) (c.getD (s.reg o.rn))).getLsbD bit) ∧
      go j 6 (l.disp.signExtend 64) ((frel (s.reg l.rm) (c.getD (s.reg l.rn))).getLsbD bit)
    on (.fbeq o t) (.lfbeq l t) 0 ∧ on (.fbne o t) (.lfbne l t) 1 ∧
    on (.fbgt o t) (.lfbgt l t) 2 ∧ on (.fbugt o t) (.lfbugt l t) 3 ∧
    on (.fbge o t) (.lfbge l t) 4 ∧ on (.fbuge o t) (.lfbuge l t) 5 ∧
    on (.fblt o t) (.lfblt l t) 6 ∧ on (.fbult o t) (.lfbult l t) 7 ∧
    on (.fble o t) (.lfble l t) 8 ∧ on (.fbule o t) (.lfbule l t) 9 ∧
    on (.fbgl o t) (.lfbgl l t) 10 ∧ on (.fbugl o t) (.lfbugl l t) 11 ∧
    on (.fbord o t) (.lfbord l t) 12 ∧ on (.fbun o t) (.lfbun l t) 13

/-- BRA and BSR, short and long (46_flow_control R546, R547, R562): the program counter moves by the displacement; BSR
links the address after the instruction. DBcc (R552) decrements r55 and branches while the condition is false and r55
is not minus one. Clauses rest on the decision D48 of 92_eei_decisions. -/
def Obligations.BranchesLinksAndLoops : Prop :=
  ∀ (d29 : BitVec 29) (d37 : BitVec 37) (lr : BitVec 2) (o : BrC) (t : Tail) (s : State), s.predOk = true →
    let link := fun (len : Nat) => s.setReg (56 + lr.setWidth 6) ((s.pc + .ofNat 64 (len + t.len)).setWidth 128)
    let loop := fun (i : Instr) (p : Bool) => ∃ d,
      let u : State := { s.setReg 55 (s.reg 55 - 1) with draws := d }
      exec i s = .next (if p = false ∧ s.reg 55 ≠ 0 then u.went (s.pc + o.disp.signExtend 64) else u.passed (5 + t.len))
    exec (.bra d29 t) s = .next (s.went (s.pc + d29.signExtend 64)) ∧
    exec (.lbra d37 t) s = .next (s.went (s.pc + d37.signExtend 64)) ∧
    exec (.bsr lr d29 t) s = .next ((link 5).went (s.pc + d29.signExtend 64)) ∧
    exec (.lbsr lr d37 t) s = .next ((link 6).went (s.pc + d37.signExtend 64)) ∧
    loop (.dbcc o t) (cond o.cond (s.reg o.rm)
      (t.const.getD (if o.cond = 8 ∨ o.cond = 9 then o.rn.setWidth 128 else s.reg o.rn))) ∧
    ∃ c u, floatTail t s = .ok c u ∧ (t.hasConst = false → c = none) ∧
      loop (.dbccFloat o t) ((frel (s.reg o.rm) (c.getD (s.reg o.rn))).getLsbD o.cond.toNat)

/-- JMP and JSR (46_flow_control R553, R554): to an address, or to what memory holds there, which replaces the low bits
of the program counter or is added to it; JSR links the address after the instruction, after the read. Table jumps
(46_flow_control R555): an offset beyond the limit raises vector 66; else the jump goes through the table that follows
the instruction. RTD and RTS (46_flow_control R556, R557): to the address the link register held, while RTD adds like
ADD, the immediate being a multiple of 16; RTS adds nothing. Clauses rest on the decision D48 of 92_eei_decisions. -/
def Obligations.JumpsCallsTablesAndReturns : Prop :=
  ((∀ (a : JmpA) (b : JmpB) (c : JmpC) (d : JmpD) (t : Tail) (s : State), s.predOk = true →
    let link := fun (rt : Reg) => s.setReg rt ((s.pc + .ofNat 64 (5 + t.len)).setWidth 128)
    let base := fun (ra : Reg) (imm : BitVec 15) => (s.reg ra + t.const.getD (imm.signExtend 128)).setWidth 64
    let index := fun (ra rb : Reg) (z : Size) =>
      (s.reg ra + s.reg rb * .ofNat 128 z.bytes + t.const.getD 0).setWidth 64
    let jumps := fun (i j : Instr) (rt : Reg) (ea : Addr) =>
      exec i s = .next (s.went ea) ∧ exec j s = .next ((link rt).went ea)
    let through := fun (i j : Instr) (rt : Reg) (op : Bool) (z : Size) (ea : Addr) => s.ram ea z.bytes →
      let v := s.data ea z.bytes
      let dest : Addr := if op then s.pc + (BitVec.ofNat z.bits v).signExtend 64
        else .ofNat 64 (if z = .h then v else s.pc.toNat - s.pc.toNat % 256 ^ z.bytes + v)
      jumps i j rt dest
    jumps (.jmp a t) (.jsr a t) a.rt (base a.ra a.imm) ∧
    jumps (.jmpIdx c t) (.jsrIdx c t) c.rt (index c.ra c.rb c.scale) ∧
    through (.jmpInd b t) (.jsrInd b t) b.rt b.op b.size (base b.ra b.imm) ∧
    through (.jmpIdxInd d t) (.jsrIdxInd d t) d.rt d.op d.scale (index d.ra d.rb d.scale)) ∧
  ∀ (o : TabJ) (t : Tail) (s : State), s.predOk = true →
    let after := s.pc + .ofNat 64 (5 + t.len)
    let off := (s.reg o.ra).toNat * o.size.bytes
    let ea := after + .ofNat 64 off
    let v := s.data ea o.size.bytes
    let dest : Addr := if o.op then s.pc + (BitVec.ofNat o.size.bits v).signExtend 64
      else .ofNat 64 (if o.size = .h then v else s.pc.toNat - s.pc.toNat % 256 ^ o.size.bytes + v)
    (o.limit.toNat < off → Traps (.braTable o t) s 66 none ∧ Traps (.bsrTable o t) s 66 none) ∧
    (off ≤ o.limit.toNat → s.ram ea o.size.bytes →
      exec (.braTable o t) s = .next (s.went dest) ∧
      exec (.bsrTable o t) s = .next ((s.setReg o.rt (after.setWidth 128)).went dest))) ∧
  ∀ (o : RtdR) (i : RtdI) (t : Tail) (s : State), s.predOk = true →
    let link := fun (lr : BitVec 2) => (s.reg (56 + lr.setWidth 6)).setWidth 64
    let neg := fun {w : Nat} (on : Bool) (v : BitVec w) => if on then -v else v
    let src := fun (on : Bool) (r : Reg) (w : Nat) =>
      if on ∧ r = 0 then BitVec.allOnes w else neg on ((s.reg r).setWidth w)
    let sum := src o.sa o.ra o.size.bits +
      (t.const.map fun c => c.setWidth o.size.bits).getD (src o.sb o.rb o.size.bits)
    let sumi := src i.sa i.ra i.size.bits +
      ((t.const.getD ((i.imm ++ 0#4).signExtend 128)).setWidth i.size.bits : BitVec i.size.bits)
    exec (.rtdReg o t) s = .next ((s.setReg o.rt ((neg o.st sum).signExtend 128)).went (link o.lr)) ∧
    exec (.rtdImm i t) s = .next ((s.setReg i.rt ((neg i.st sumi).signExtend 128)).went (link i.lr)) ∧
    exec (.rtsReg o t) s = .next (s.went (link o.lr)) ∧ exec (.rtsImm i t) s = .next (s.went (link i.lr))

/-- Return from exception (46_flow_control R558; 60_exceptions R776; log 45): one or two levels of the exception stack
are popped; the program counter is the stacked one plus the skip; unless the slot is an application's, the status
register is the stacked one in its implemented bits; rep_hold is restored, and the stack pointer of the mode returned
to moves. Below machine mode a slot that is not an application's raises Privilege Violation. Clauses rest on the
decision D31 of 92_eei_decisions. -/
def Obligations.ReturnsFromExceptions : Prop :=
  ∀ (o : RteOp) (t : Tail) (s : State), s.predOk = true →
    let returns := fun (c : Instr) (depth : Nat) =>
      let e := if depth = 2 then s.stack[1] else s.stack[0]
      let refused := s.mode ≠ 3 ∧ (s.stack[0].app = false ∨ (depth = 2 ∧ s.stack[1].app = false))
      (refused → Traps c s 8 none) ∧
      (¬ refused → ∃ u : State,
        u = { s with stack := u.stack, sr := if e.app then s.sr else e.sr &&& 0xFF0D3FFF, repHold := e.holdPrev } ∧
        (∀ k : Fin 8, u.stack[k] = if h : k.val + depth < 8 then s.stack[k.val + depth] else s.stack[7]) ∧
        let a := (u.reg o.ra).setWidth o.size.bits
        let sum := (if o.sa then if o.ra = 0 then BitVec.allOnes o.size.bits else -a else a) + .ofNat o.size.bits (16 * o.arg.toNat)
        exec c s =
          .next ((u.setReg o.rt ((if o.st then -sum else sum).signExtend 128)).went (e.pc + o.skip.setWidth 64)))
    returns (.rte1 o t) 1 ∧ returns (.rte2 o t) 2

/-- TRAP and BRK (46_flow_control R545, R560; 60_exceptions R770): the data go to Rt, and the exception of the number
is taken, 32 for number zero and for BRK, the address after the instruction stacked. Clauses rest on the decisions D6,
D7, D21, D23 of 92_eei_decisions. -/
def Obligations.TrapAndBreakpoint : Prop :=
  ∀ (o : TrapR) (i : TrapI) (t : Tail) (s : State) (a : Addr), s.predOk = true →
    let after := s.pc + .ofNat 64 (5 + t.len)
    let n := ((if o.sa then ~~~s.reg o.ra else s.reg o.ra).setWidth 9 : BitVec 9)
    let traps := fun (c : Instr) (n : BitVec 9) (rt : Reg) (data : Word) =>
      s.handler (if n = 0 then 32 else n) a →
        exec c s = .next { (s.setReg rt data).took (if n = 0 then 32 else n) after none a with retire := .trap }
    traps (.brk t) 32 0 0 ∧ traps (.trapRa o t) n o.rt (t.const.getD (o.data.signExtend 128)) ∧
    traps (.trapImm i t) i.vec i.rt (t.const.getD (i.data.signExtend 128))

/-- The modifiers (49_modifiers R700 to R720) open their window at its first position, PRED with the tested bit
latched, CARRY with the carry zero; REP writes U_REPBUF, unless rep_hold makes it a NOP. A NOP, and a postfix on its
own, only advance (30_encoding R235, R237). Clauses rest on the decisions D23, D37, D38, D51 of 92_eei_decisions. -/
def Obligations.ModifiersOpenTheirWindows : Prop :=
  ∀ (p : PredOp) (c : CarryOp) (r : RepOp) (a : AtomOp) (m : BitVec 24) (w : BitVec 32) (list : BitVec 64) (t : Tail)
    (s : State), s.predOk = true →
    let opens := fun (i : Instr) (k : WinKind) (win : Windows) =>
      exec i s = .next { s.passed (5 + t.len) with win := win, retire := .opened k }
    opens (.pred p t) .pred
      { s.win with pred := some ⟨p.imm.setWidth 24, 0⟩, predVal := (s.reg p.rn).getLsbD p.cond.toNat } ∧
    opens (.carry c t) .carry { s.win with carry := some ⟨c.imm.setWidth 24, 0⟩, cy := 0 } ∧
    opens (.atom a t) .atom { s.win with atom := some ⟨a.imm.setWidth 24, 0⟩ } ∧
    opens (.round m t) .round { s.win with round := some ⟨m, 0⟩ } ∧
    (s.repHold = true → exec (.rep r t) s = .next (s.passed (5 + t.len))) ∧
    (s.repHold = false → exec (.rep r t) s = .next { s.passed (5 + t.len) with
      retire := .rep
      repbuf :=
        { pc := s.pc + .ofNat 64 (5 + t.len), v := true, icnt := 0
          limit := (t.const.getD (r.imm.signExtend 128)).setWidth 32
          ins := BitVec.ofBool r.d ++ (r.cnt ++ r.cnd) } }) ∧
    exec (.nop t) s = .next (s.passed (5 + t.len)) ∧
    (∀ i, i = Instr.pfx0 w ∨ i = .pfx1 w ∨ i = .pfx2 w → exec i s = .next { s.passed 5 with retire := .lone }) ∧
    exec (.regs list) s = .next { s.passed 9 with retire := .lone }

/-- Instructions an opcode map names and no page describes (30_encoding R262; 42_float R433; 47_memory_ops R629; 48_vector
R655, R671), and the posit and, without HAS_DECIMAL, the decimal branches (46_flow_control R578) raise Unimplemented
Instruction, whatever the predicate and the mask (60_exceptions R744). With HAS_DECIMAL the decimal branches, where the
predicate lets them execute, are refused: 93_implementation_defined section 3 has the model refuse them, and no source gives
the comparison; otherwise they only advance (49_modifiers R712). The cryptographic instructions that CRYPTO_FN has to supply
(48_vector R667 to R672) raise it where CRYPTO_FN does not supply them, each by itself; where it does, SHA512SUM0,
SHA512SUM1, SM3P0 and SM3P1 compute their formulas, the others CRYPTO_FN's value, under St, and where it has none take that
exception (log 14). Clauses rest on the decisions D10, D11, D24, D26 of 92_eei_decisions. -/
def Obligations.InstructionsWithoutAnOperation : Prop :=
  (∀ (w : BitVec 40) (o : BrC) (l : LBrC) (x : Ext) (t : Tail) (s : State),
    let traps := fun (is : List Instr) => ∀ i ∈ is, Traps i s 4 none
    let decimal : List (Instr × Nat) := [(.dbccDecimal o t, 5), (.dfbcc o t, 5), (.ldfbcc l t, 6)]
    traps [.dif w x, .ptrdif w x, .revbitMap w x, .bits2v w x, .vex w x, .veins w x, .vgndx w x, .sgeuMap w x,
      .sgtuMap w x, .min w x, .max w x, .bmm w x, .mux w x, .aes64ks1i w x, .aes64ks2 w x, .aes64im w x, .fmin w x,
      .fmax w x, .fnxt w x, .frem w x, .ftoi w x, .itof w x, .fsign w x, .fsig w x, .fsqrt w x, .fs2d w x, .fs2q w x,
      .fd2q w x, .isnan w x, .finite w x, .fres w x, .fd2s w x, .fq2s w x, .fq2d w x, .fclass w x, .bitrr w x,
      .amswap w x, .ammax w x, .ammaxu w x, .amcas w x, .amswapImm w x, .amminImm w x, .ammaxImm w x, .amminuImm w x,
      .ammaxuImm w x, .amcasImm w x, .fma w t] ∧
    traps [.pbcc o t, .lpbcc l t, .dbccPosit o t] ∧
    ∀ e ∈ decimal, (s.params.hasDecimal = false → Traps e.1 s 4 none) ∧
      (s.params.hasDecimal = true → exec e.1 s =
        if s.predOk then .refused .decimal else .next (s.passed (e.2 + t.len)))) ∧
  ∀ (o : R1) (p : R2) (x : Ext) (s : State),
    let vec := o.vec != .scalar
    let a := fun k => (srcOf vec o.ra).value .compl o.sa s o.size.bits k
    let defined := fun (c : Instr) (op : CryptoOp) (f : Nat → BitVec o.size.bits) =>
      (op ∉ s.params.crypto → Traps c s 4 none) ∧
      (op ∈ s.params.crypto → Computes c s x vec o.size.bits o.rt fun k =>
        (if o.st then ~~~f k else f k).signExtend 128)
    let f32 := fun (f : BitVec 32 → BitVec 32) (k : Nat) => (f ((a k).setWidth 32)).signExtend o.size.bits
    let f64 := fun (f : BitVec 64 → BitVec 64) (k : Nat) => (f ((a k).setWidth 64)).signExtend o.size.bits
    let crypto := fun (c : Instr) (op : CryptoOp) (vec : Bool) (w : Nat) (rt : Reg) (st : Bool) (a b : Nat → Word) =>
      (op ∉ s.params.crypto → Traps c s 4 none) ∧
      (op ∈ s.params.crypto →
        (∀ r : Nat → Word, (∀ k, Config.cryptoFn op (a k) (b k) = some (r k)) →
          Computes c s x vec w rt fun k => if st then ~~~r k else r k) ∧
        (vec = false → s.enabled x false → Config.cryptoFn op (a 0) (b 0) = none → Traps c s 4 none))
    let one := fun (c : Instr) (op : CryptoOp) =>
      crypto c op vec o.size.bits o.rt o.st (fun k => (a k).setWidth 128) fun _ => 0
    let two := fun (c : Instr) (op : CryptoOp) => crypto c op (p.vec != .scalar) p.size.bits p.rt p.st
      (fun k => (p.a .compl s k).setWidth 128) fun k => (p.b .compl x.tail s k).setWidth 128
    defined (.sha512sum0 o x) .sha512sum0 (f64 fun v => v.rotateRight 28 ^^^ v.rotateRight 34 ^^^ v.rotateRight 39) ∧
    defined (.sha512sum1 o x) .sha512sum1 (f64 fun v => v.rotateRight 14 ^^^ v.rotateRight 18 ^^^ v.rotateRight 41) ∧
    defined (.sm3p0 o x) .sm3p0 (f32 fun v => v ^^^ v.rotateLeft 9 ^^^ v.rotateLeft 17) ∧
    defined (.sm3p1 o x) .sm3p1 (f32 fun v => v ^^^ v.rotateLeft 15 ^^^ v.rotateLeft 23) ∧
    one (.aes64ds o x) .aes64ds ∧ one (.aes64dsm o x) .aes64dsm ∧
    one (.aes64es o x) .aes64es ∧ one (.aes64esm o x) .aes64esm ∧
    two (.sm4ed p x) .sm4ed ∧ two (.sm4ks p x) .sm4ks

/-- What keeps an instruction from executing: a predicate that is false (49_modifiers R712), or a scalar mask that is not
one (30_encoding R240). Either way the instruction only advances the program counter, a decimal branch under HAS_DECIMAL
included; but a postfix on its own, which nothing predicates, is passed as such (30_encoding R235), and what is no
implemented instruction, an instruction without an operation among them, is known before and raises Unimplemented
Instruction (60_exceptions R744; log 25). The predicate in force: without a PRED window, and under the letters 0 and 3 of
the window at its position, an instruction executes; under 1 where the latched predicate is true, under 2 where it is false.
The mask lets a scalar instruction execute where it is the value one, and where there is none. Clauses rest on the decisions
D10, D11, D27, D51 of 92_eei_decisions. -/
def Obligations.FalsePredicateOnlyAdvances : Prop :=
  (∀ (i : Instr) (s : State), s.predOk = false ∨ s.maskedOff i →
    let advances := exec i s = .next (s.passed i.len)
    match idle i with
    | .lone => exec i s = .next { s.passed i.len with retire := .lone }
    | .decimal => if s.params.hasDecimal then advances else Traps i s 4 none
    | .crypto op => if op ∈ s.params.crypto then advances else Traps i s 4 none
    | .unimplemented => Traps i s 4 none
    | .plain => advances) ∧
  ∀ s : State,
    (s.win.pred = none → s.predOk = true) ∧
    (∀ w, s.win.pred = some w →
      let letter := w.mask.toNat / 4 ^ w.pos.toNat % 4
      (letter = 0 ∨ letter = 3 → s.predOk = true) ∧ (letter = 1 → s.predOk = s.win.predVal) ∧
      (letter = 2 → s.predOk = !s.win.predVal)) ∧
    s.maskOk none = true ∧
    ∀ m : MaskByte, s.maskOk (some m) = true ↔ (if m.svm then ~~~s.reg m.vm else s.reg m.vm) = 1

/-- Exception entry (60_exceptions R770 to R773, R765): the status register, the program counter to return to, whether
the vector is an application's and rep_hold are pushed, slot 7 is lost, rep_hold is set, every window closes; below
vector 64 the mode becomes machine and tracing stops, an interrupt sets its level, no other bit of SR changes, and
M_CAUSE is written; from 64 on SR stays and the mode's own CAUSE is written; the handler's address comes from the
vector table. A trace exception that is due stays due over an instruction's exception only (log 27). Nothing else changes.
Where nothing claims a byte of the vector, the core halts, its program counter as it was (log 26). The vector table entry
of a system vector stands at VB of machine mode plus eight times the vector, that of an application vector at AV plus
eight times the vector (60_exceptions R772 to R774). Clauses rest on the decisions D6, D7, D21, D23, D30, D53 of
92_eei_decisions. -/
def Obligations.ExceptionEntryAndVectorTable : Prop :=
  (∀ (k : Entry) (vec : BitVec 9) (epc : Addr) (bad : Option Addr) (s : State),
    let entered := fun (t : State) =>
      t = { s with
        stack := t.stack, repHold := true, win := Windows.none, sr := t.sr, cause := t.cause
        traceDue := decide (k = .sync) && s.traceDue
        badInstr := if k = .sync then s.ir else s.badInstr, badAddr := bad.getD s.badAddr, pc := t.pc
        halted := t.halted } ∧
      t.stack[0] = ⟨s.sr, epc, decide (64 ≤ vec.toNat), s.repHold⟩ ∧
      (∀ j : Fin 7, t.stack[j.val + 1] = s.stack[j.val]) ∧
      (let code : BitVec 12 := match k with
          | .interrupt _ c => c.setWidth 12
          | _ => vec.setWidth 12
        let own : BitVec 2 := if vec.toNat < 64 then 3 else s.mode
        ∀ m : BitVec 2, t.cause[m.toNat] = if m = own then code else s.cause[m.toNat]) ∧
      (64 ≤ vec.toNat → t.sr = s.sr) ∧
      (vec.toNat < 64 → t.mode = 3 ∧ t.te = false ∧
        t.ipl = (match k with
          | .interrupt l _ => l
          | _ => s.ipl) ∧
        ∀ j, j < 5 ∨ j = 8 ∨ 12 ≤ j → t.sr.getLsbD j = s.sr.getLsbD j)
    (∀ a, s.handler vec a → ∃ t, enter k vec epc bad s = .next t ∧ entered t ∧ t.pc = a ∧ t.halted = s.halted) ∧
    (s.flat →
      (∀ i, i < 8 → s.device ((vectorEntry vec s).1 + .ofNat 64 i).toNat = none) →
      (∃ i, i < 8 ∧ s.claimed ((vectorEntry vec s).1 + .ofNat 64 i).toNat = false) →
        ∃ t, enter k vec epc bad s = .next t ∧ entered t ∧ t.pc = s.pc ∧ t.halted = true)) ∧
  ∀ (vec : BitVec 9) (s : State),
    (vec.toNat < 64 → vectorEntry vec s = (s.vb[3] + .ofNat 64 (8 * vec.toNat), 3)) ∧
    (64 ≤ vec.toNat → vectorEntry vec s = (s.av + .ofNat 64 (8 * vec.toNat), s.mode))

/-- Between instructions (60_exceptions R764, R765, R768, R790; 49_modifiers R702): an interrupt of a level above the
mask, enabled in the mode, is accepted when no window is open, through vector 24 plus its level; then a trace exception
that is due. An open window holds both off. A trace exception is due after an instruction that completed with SR.te set
before it (log 27). Clauses rest on the decisions D13, D23, D30, D54 of 92_eei_decisions. -/
def Obligations.InterruptsAndTraceBetweenInstructions : Prop :=
  ∀ (s : State) (a : Addr),
    let level := s.irq.1
    let closed := s.win.pred = none ∧ s.win.carry = none ∧ s.win.atom = none ∧ s.win.round = none
    let due := s.ipl.toNat < level.toNat ∧ s.sr.getLsbD s.mode.toNat = true ∧ closed
    (due → s.handler (24 + level.setWidth 9) a →
      coreStep s = .next { enterState (.interrupt level s.irq.2) (24 + level.setWidth 9) s.pc none s with pc := a }) ∧
    (¬ due → s.traceDue = true → closed → s.handler 9 a →
      coreStep s = .next { enterState .trace 9 s.pc none s with pc := a }) ∧
    (¬ closed → coreStep s = match runOne s with
      | (t, .next u) => .next (settle t u)
      | (_, r) => r) ∧
    ∀ t : State,
      let completed := t.retire = .seq ∨ t.retire = .jump ∨ t.retire = .rep ∨ ∃ k, t.retire = .opened k
      (completed → (settle s t).traceDue = (t.traceDue || s.sr.getLsbD 9)) ∧
      (¬ completed → (settle s t).traceDue = t.traceDue)

/-- A step runs the decoded instruction (60_exceptions R768): under flat translation, with no reset input, interrupt or
trace exception due, where the bytes at the program counter are memory and decode to an instruction, the step is the
acts of the environment, `exec` of that instruction, the bookkeeping of windows, REP and trace, and the tick. -/
def Obligations.StepRunsTheDecodedInstruction : Prop :=
  ∀ (s : State) (w : BitVec 48) (i : Instr),
    let u := s.takeInputs
    s.flat → s.resetAsked = false → u.halted = false → u.interruptDue = false →
    u.traceDue = false ∨ u.win.closed = false → decode u.peek = .done w i.len (.ok i) → u.ram u.pc i.len →
      let t := { u with ir := w, draws := u.draws + 1 }
      step s = match exec i t with
        | .next v => .next (settle t v).advance
        | .fault e => .fault e
        | .refused r => .refused r

/-- What is no instruction (30_encoding R231, R234, R250; 60_exceptions R744, R756): a malformed postfix run, fetched to its
end, raises vector 34, a reserved encoding vector 4, at the address of the instruction. A decimal instruction raises vector
4 too without HAS_DECIMAL; with it, it is refused where the predicate and the mask let it execute, because
93_implementation_defined section 3 has the model refuse it, and else only advances the program counter (49_modifiers R712;
log 59). Reserved are, among others, the words the maps leave unassigned (R205 to R215; 43_string_block R460), size codes 5
and 7 (R214; of BMAP too, by the model's choice, log 48) and precision codes 0, 5 and 7 (42_float R401) of the instructions
that have them, vector registers 32 to 63 and (Vc, Vb) = (1, 1) (R241; 10_state R29), an ATOM letter 3 and a ROUND code 5 or
6 (49_modifiers R710, R720; 93_implementation_defined section 4); a malformed run after such a word comes first (log 57). A
word of the CSR format with Vc = 1 is reserved (R725) or read as with Vc = 0 (R242), by a free choice (log 61). Clauses rest
on the decisions D10, D11, D24, D26, D30, D37, D51 of 92_eei_decisions. -/
def Obligations.MalformedAndReservedEncodingsTrap : Prop :=
  (∀ (s : State) (w : BitVec 48) (n : Nat) (r : Reject) (a : Addr),
    let u := s.takeInputs
    let vec : BitVec 9 := if r = .malformed then 34 else 4
    let word := fun (k : Nat) => u.pc + .ofNat 64 (n + 5 * k)
    let type := fun (k : Nat) => (u.head (word k)).map BitVec.toNat
    s.flat → s.resetAsked = false → u.halted = false → u.interruptDue = false →
    u.traceDue = false → decode u.peek = .done w n (.error r) → u.ram u.pc n → n ≤ 35 →
      let t := { u with ir := w, draws := u.draws + 1 }
      let traps := u.handler vec a → step s = .next (State.advance { t.took vec u.pc none a with retire := .fault })
      match r with
      | .malformed =>
        (∃ k, k < 2 ^ 64 ∧ (∀ j, j < k → (type j = some 31 ∨ type j = some 63 ∨ type j = some 95) ∧ u.ram (word j) 5) ∧
          type k ≠ some 31 ∧ type k ≠ some 63 ∧ type k ≠ some 95 ∧ (type k = some 191 → u.ram (word k) 9)) → traps
      | .reserved => traps
      | .decimal m =>
        if s.params.hasDecimal then
          step s = if u.predOk && u.maskOk m then .refused .decimal else .next (settle t (t.passed n)).advance
        else traps) ∧
  ∀ (w : Nat) (rest : List Byte), w < 2 ^ 40 →
    let f := fun (lo n : Nat) => w / 2 ^ lo % 2 ^ n
    let op := f 0 5
    let size := f 5 3
    let fn := f 34 6
    let fn5 := f 35 5
    let one := f 23 6
    let b31 := f 31 1
    let r2 := [5, 6, 7, 8, 9, 10, 12, 15, 19, 26, 27, 28, 29, 30, 60, 61]
    let r1 := [0, 2, 3, 4, 5, 14, 15, 18, 19, 20, 21, 24, 25, 26, 27, 28, 29, 30, 31]
    let wide := fun (at_ : Nat) => 32 ≤ f at_ 6
    let unassigned := op ∈ [1, 30] ∨ (op = 31 ∧ size ∈ [3, 4, 6]) ∨ (op = 3 ∧ size ∈ [5, 6]) ∨
      (op = 2 ∧ fn ∈ [0, 2, 3, 11, 20, 21, 22, 23, 25, 31, 37, 38, 39, 45, 52, 53, 54, 55, 58, 59, 62, 63]) ∨
      (op = 2 ∧ fn = 1 ∧ one ≠ 22 ∧ one ∉ r1) ∨
      (op = 14 ∧ fn5 ∉ [0, 1, 2, 3, 4, 5, 8, 9, 10, 11, 12, 13, 16, 17, 24, 25]) ∨
      (op = 12 ∧ (9 ≤ fn5 ∧ fn5 ≤ 13 ∨ 16 ≤ fn5)) ∨
      (op = 12 ∧ fn5 = 1 ∧ one ∉ [2, 3, 6, 7, 8, 9, 10, 11, 14, 15, 21, 23, 25, 26, 27, 30, 32, 34]) ∨
      (op = 26 ∧ (b31 = 0 ∧ fn5 ∈ [1, 5, 11, 14, 17, 21, 27, 30] ∨ b31 = 1 ∧ 4 ≤ fn5))
    let badSize := size ∈ [5, 7] ∧ (op ∈ [4, 5, 6, 7, 8, 10, 11, 14, 19, 25] ∨ (op = 9 ∧ b31 = 0) ∨
        (op = 26 ∧ (b31 = 1 ∨ fn5 ∈ [2, 4, 6, 7, 8, 9, 10, 12, 20, 22, 23, 24, 25, 26])) ∨
        (op = 2 ∧ (fn ∈ [4, 13, 14, 24, 40] ∨ fn ∈ r2 ∨ fn = 1 ∧ one ≠ 22))) ∨
      (op ∈ [16, 17, 18] ∧ (op ≠ 17 ∨ f 39 1 = 0) ∧ (size = 5 ∨ size = 7 ∧ f 9 3 ∈ [5, 7]))
    let badPrecision := size ∈ [0, 5, 7] ∧
      (op ∈ [20, 21, 22, 23] ∨ (op = 12 ∧ (fn5 ∈ [0, 4, 5, 6, 7, 8] ∨ fn5 = 1 ∧ one ∈ [21, 32, 34])))
    let badVector :=
      ((wide 9 ∨ wide 16) ∧
        ((op = 2 ∧ (fn ∈ r2 ∨ fn = 1 ∧ one ≠ 22 ∨ fn = 4 ∧ b31 = 0) ∧ (f 30 1 = 1 ∨ f 32 1 = 1)) ∨
        (op ∈ [5, 6, 7, 8, 9, 10, 19, 20, 21, 22, 23] ∧ f 32 1 = 1) ∨ (op = 4 ∧ b31 = 0 ∧ f 32 1 = 1) ∨
        (op = 12 ∧ fn5 ∈ [4, 5, 6, 7, 8] ∧ (f 30 1 = 1 ∨ b31 = 1)) ∨
        (op = 13 ∧ size ≠ 7 ∧ (f 38 1 = 1 ∨ f 39 1 = 0 ∧ f 30 1 = 1)) ∨ (op = 14 ∧ (f 30 1 = 1 ∨ f 32 1 = 1)))) ∨
      (wide 16 ∧ op ∈ [16, 17, 18] ∧ (f 30 1 = 1 ∨ size = 7 ∧ f 38 1 = 1)) ∨
      (wide 16 ∧ op = 11 ∧ (f 30 1 = 1 ∨ b31 = 1 ∧ f 32 1 = 1 ∨ b31 = 0 ∧ f 38 1 = 1)) ∨
      (wide 23 ∧ rest.length ≤ 1 ∧ (op = 2 ∧ fn ∈ r2 ∧ f 32 1 = 1 ∨ op = 12 ∧ fn5 ∈ [4, 5, 6, 7, 8] ∧ b31 = 1)) ∨
      (op = 2 ∧ (fn ∈ r2 ∨ fn = 1 ∧ one ≠ 22) ∧ f 30 1 = 1 ∧ f 32 1 = 1)
    let badLetter := op = 2 ∧ ∃ k, k < 8 ∧ (fn = 35 ∧ f (16 + 2 * k) 2 = 3 ∨ fn = 36 ∧ f (8 + 3 * k) 3 ∈ [5, 6])
    (unassigned ∨ badSize ∨ badPrecision ∨ badVector ∨ badLetter →
      ∀ v n r, decode (toBytes 5 w ++ rest) = .done v n r → r = .error .reserved ∨ r = .error .malformed) ∧
    (op = 3 → f 38 1 = 1 → ∀ v n r, decode (toBytes 5 w ++ rest) = .done v n r →
      r = .error .reserved ∨ ∃ u, decode (toBytes 5 (w - 2 ^ 38) ++ rest) = .done u n r)

/-- What follows an instruction, by how it ended (60_exceptions R768). After one that completed, each window that was open
and is not opened anew moves on a position, and is closed after its last, position 7, the carry with its window
(49_modifiers R700); the instruction is remembered to have stood under ATOM's mark 10 (R710; 20_memory R174), and so is
an iteration of a block instruction; a trace exception is due where SR.te was set (60_exceptions R790). After a postfix on
its own, a TRAP, which ends a repeat, or an exception nothing else changes. Nor does REP do anything unless V = 1 before
and after, rep_hold is clear and the instruction is no REP (log 28): then a transfer of control ends the repeat; before
the last instruction of the body the count goes up; after it the loop counter moves and is tested, and the body begins
again or the repeat ends (49_modifiers R717). So a window that instructions leave alone lasts eight of them. Clauses rest
on the decisions D23, D51 of 92_eei_decisions. -/
def Obligations.WindowsAndRepeatsAfterAnInstruction : Prop :=
  (∀ (s t : State),
    let marked := match s.win.atom with
      | some w => decide (w.mask.extractLsb' (2 * w.pos.toNat) 2 = 2)
      | none => false
    let next := fun (f : Windows → Option Window) (k : WinKind) =>
      if (f s.win).isSome ∧ t.retire ≠ .opened k then
        (f t.win).bind fun w => if w.pos = 7 then none else some ⟨w.mask, w.pos + 1⟩
      else f t.win
    let carry := next Windows.carry .carry
    let u : State := { t with
      traceDue := t.traceDue || s.sr.getLsbD 9
      win := ⟨next Windows.pred .pred, carry, next Windows.atom .atom, next Windows.round .round, t.win.predVal,
        if carry.isSome then t.win.cy else 0, marked⟩ }
    let counts := s.repbuf.v = true ∧ t.repbuf.v = true ∧ s.repHold = false
    let b := t.repbuf
    let stops : State := { u with repbuf := { b with v := false } }
    let lc := t.reg 55 + if b.ins.getLsbD 6 then 1 else -1
    let l : Word := b.limit.signExtend 128
    let bit := lc.getLsbD (b.limit.toNat % 128)
    let holds := match (b.ins.extractLsb' 0 3).toNat with
      | 0 => lc = l
      | 1 => lc ≠ l
      | 2 => lc.toInt < l.toInt
      | 3 => lc.toInt ≤ l.toInt
      | 4 => l.toInt ≤ lc.toInt
      | 5 => l.toInt < lc.toInt
      | 6 => bit = false
      | _ => bit = true
    (t.retire = .rep ∨ ¬ counts ∧ (t.retire = .seq ∨ t.retire = .jump ∨ ∃ k, t.retire = .opened k) → settle s t = u) ∧
    (counts → t.retire = .jump → settle s t = stops) ∧
    (counts → (t.retire = .seq ∨ ∃ k, t.retire = .opened k) →
      (b.icnt.toNat < (b.ins.extractLsb' 3 3).toNat → settle s t = { u with repbuf := { b with icnt := b.icnt + 1 } }) ∧
      ((b.ins.extractLsb' 3 3).toNat ≤ b.icnt.toNat →
        (holds → settle s t = { u.setReg 55 lc with pc := b.pc, repbuf := { b with icnt := 0 } }) ∧
        (¬ holds → settle s t = { u.setReg 55 lc with repbuf := { b with v := false, icnt := 0 } }))) ∧
    (t.retire = .again → settle s t = { t with win := { t.win with locked := marked } }) ∧
    (t.retire = .trap → settle s t =
      if s.repbuf.v = true ∧ s.repHold = false then { t with repbuf := { b with v := false } } else t) ∧
    (t.retire = .lone ∨ t.retire = .fault → settle s t = t)) ∧
  ∀ (s t : Nat → State) (m : BitVec 24),
    (∀ n, n < 8 → (t n).win = (s n).win ∧ ((t n).retire = .seq ∨ (t n).retire = .jump ∨ (t n).retire = .rep) ∧
      s (n + 1) = settle (s n) (t n)) →
    let lasts := fun (f : Windows → Option Window) => f (s 0).win = some ⟨m, 0⟩ →
      (∀ n, n < 8 → f (s n).win = some ⟨m, .ofNat 3 n⟩) ∧ f (s 8).win = none
    lasts Windows.pred ∧ lasts Windows.carry ∧ lasts Windows.atom ∧ lasts Windows.round ∧
    ((s 0).win.carry = some ⟨m, 0⟩ → (s 8).win.cy = 0)

/-- Translation through the TLB (20_memory R100, R122, R146, R147, R150, R155). The model's choices, besides those named
below: a virtual address is reduced to its low VA_BITS bits where it is looked up, and a VA_BITS above 64 counts as 64 (log
55); an entry the walk stores has the current count, no LRU value and no cached rights (log 34). A way hits where its entry
is valid, has the current count, the stored bits of the page number and, unless global, the ASID. One way: the address
within a 16 KB or a 16 MB page, beyond the last page of a super page a miss; the rights of the entry for the mode, or the
region's, must allow the access, else vector 8; a granule too small or unaligned raises vector 3 (R104), reserved codes
meaning 32 to 128 bytes and fetches exempt by the model's choice (log 41); the page's privilege level and key vector 8; the
rights, read from its PMTE (R124, R125; log 53), are cached. Two ways are refused. None is a miss, or with S_PTBR bit 3
clear a walk, whose entry is stored, in way 4 for a super page, else in one of ways 0 to 3 (log 10), and looked up. The walk
of the spec's tables (log 13; 10_state R56): in the hash table the first entry of the probed groups that is valid, has the
page number and, unless global, the ASID of the access (R132 to R134, R140 to R142), group number hash plus the square of
the misses, modulo NPTG; in the tree (R136 to R138) ten bits of the address index each level from the top, a pointer leads
to a lower level, and a page entry is a 16 kB page, a 16 MB page or a page within a 16 GB page. A load or store has the
rights of the mode, or with SR.mprv of the mode of the status word in slot 0, and is split at a 16 kB page, the first piece
done, and staying done, before the second (R106, R150; log 41, 42). Clauses rest on the decisions D1, D12, D40 of
92_eei_decisions. -/
def Obligations.TranslationAndProtection : Prop :=
  (∀ (k : Kind) (m : BitVec 2) (va : Addr) (n : Nat) (s : State), s.params.translate = .tlb →
    let page := fun (way : Nat) => if way = 4 then va.toNat / 2 ^ 24 % 2 ^ 10 else va.toNat / 2 ^ 14 % 2 ^ 10
    let hits := fun (s : State) (way : Nat) =>
      let e := s.tlb.get (way * 1024 + page way)
      e.pte.getLsbD 31 = true ∧ e.count = s.tlb.count ∧
        (e.vpn.extractLsb' 0 75).toNat = va.toNat / 2 ^ (if way = 4 then 34 else 24) ∧
        (e.pte.getLsbD 18 = true ∨ e.vpn.extractLsb' 80 12 = s.asid)
    let miss := fun (s : State) => (.trap ⟨s.params.tlbMissVector, some va⟩
      { s with tlb := { s.tlb with missAddr := va, missAsid := s.asid } } : Acc Nat)
    let found := fun (s : State) (way : Nat) =>
      let slot := way * 1024 + page way
      let e := s.tlb.get slot
      let big := way = 4
      let pa := (if big then (e.pte.extractLsb' 42 54).toNat * 2 ^ 24 + va.toNat % 2 ^ 24
        else (e.pte.extractLsb' 32 64).toNat * 2 ^ 14 + va.toNat % 2 ^ 14) % 2 ^ s.params.paBits
      let outside := big ∧ (e.pte.extractLsb' 32 10).toNat < va.toNat / 2 ^ 14 % 2 ^ 10
      let region : Fin 8 := (e.pte.extractLsb' 23 3).toFin
      let attr := (s.regions[region.val].at_.extractLsb' (32 * m.toNat) 32 : BitVec 32)
      let own := e.pte.extractLsb' (3 * m.toNat) 3
      let rwx := if own = 0 then attr.extractLsb' 0 3 else own
      let allowed := rwx.getLsbD (match k with
        | .read => 2
        | .write => 1
        | .execute => 0)
      let granule := 2 ^ (attr.extractLsb' 8 3).toNat
      let pmte := s.regions[region.val].pmt.toNat + 16 * ((pa - s.params.regionRange[region.val].1) / 16384)
      let v : BitVec 128 := .ofNat 128 (Memory.readN s.mem (pmte % 2 ^ s.params.paBits) 16)
      let r : Rights := e.rights.getD ⟨v.extractLsb' 120 8, v.extractLsb' 96 24, v.getLsbD 30⟩
      let t := { s with tlb := s.tlb.put slot { e with rights := some r } }
      let level := r.pl = 0 ∨ r.pl.toNat ≤ s.cpl.toNat ∨ (k = .execute ∧ r.n = true)
      let key := r.key = 0 ∨ r.key ∈ s.keys.toList
      if outside then miss s
      else if allowed = false then .trap ⟨8, some va⟩ s
      else if k ≠ .execute ∧ (n < granule ∨ va.toNat % granule ≠ 0) then .trap ⟨3, some va⟩ s
      else if level ∧ key then .ok pa t else .trap ⟨8, some va⟩ t
    (∀ way, way ∈ s.hits va ↔ way < 6 ∧ hits s way) ∧
    (∀ way, s.hits va = [way] → locate k m va n s = found s way) ∧
    (∀ v w l, s.hits va = v :: w :: l → locate k m va n s = .refuse .tlbMultiHit) ∧
    (s.hits va = [] → s.ptbr.getLsbD 3 = true → locate k m va n s = miss s) ∧
    (s.hits va = [] → s.ptbr.getLsbD 3 = false → s.walk s.asid va = none → locate k m va n s = miss s) ∧
    ∀ h, s.hits va = [] → s.ptbr.getLsbD 3 = false → s.walk s.asid va = some h →
      ∃ w, (h.big = true → w = 4) ∧ (h.big = false → w < 4) ∧
        let t := { s with tlb := s.tlb.put (w * 1024 + page w) ⟨h.pte, h.vpn, s.tlb.count, 0, none⟩, draws := s.draws + 1 }
        (∀ way, t.hits va = [way] → locate k m va n s = found t way) ∧
        (∀ v w l, t.hits va = v :: w :: l → locate k m va n s = .refuse .tlbMultiHit) ∧
        (t.hits va = [] → locate k m va n s = miss t)) ∧
  (∀ (s : State) (asid : BitVec 12) (va : Addr),
    let tag := fun (big : Bool) => 0#4 ++ (asid ++ (0#16 ++ (if big then va >>> 34 else va >>> 24)))
    (s.params.walk = .absent → s.walk asid va = none) ∧
    ∀ t : WalkTables, s.params.walk = .tables t →
      let phys := fun (a : Nat) => a % 2 ^ s.params.paBits
      (s.ptbr.getLsbD 0 = false →
        let hash := asid.extractLsb' 0 11 ^^^ va.extractLsb' 18 11 ^^^ va.extractLsb' 29 11
        let group := fun (miss : Nat) => phys (t.hashBase + 128 * ((hash.toNat + miss ^ 2) % t.nptg))
        let small := fun (i k : Nat) => BitVec.ofNat 96 (Memory.readN s.mem (group i + 12 * k) 12)
        let large := fun (i k : Nat) => BitVec.ofNat 192 (Memory.readN s.mem (group i + 24 * k) 24)
        let attr := fun (i k : Nat) => if t.smallHash then (small i k).extractLsb' 0 32 else (large i k).extractLsb' 0 32
        let ppn : Nat → Nat → BitVec 64 := fun i k =>
          if t.smallHash then ((small i k).extractLsb' 32 26).setWidth 64 else (large i k).extractLsb' 32 64
        let vpn := fun (i k : Nat) => if t.smallHash then (small i k).extractLsb' 58 26 = va.extractLsb' 14 26
          else ((large i k).extractLsb' 96 78).toNat = va.toNat / 2 ^ 20
        let own := fun (i k : Nat) => if t.smallHash then (small i k).extractLsb' 84 12 else (large i k).extractLsb' 176 12
        let count := if t.smallHash then 10 else 5
        let hit := fun (i k : Nat) => i < t.probes ∧ k < count ∧ (attr i k).getLsbD 31 = true ∧ vpn i k ∧
          ((attr i k).getLsbD 18 = true ∨ own i k = asid)
        (∀ i k, hit i k → (∀ j l, (j < i ∨ j = i ∧ l < k) → ¬ hit j l) →
          s.walk asid va = some ⟨false, ppn i k ++ attr i k, tag false⟩) ∧
        ((∀ i k, ¬ hit i k) → s.walk asid va = none)) ∧
      (s.ptbr.getLsbD 0 = true →
        let top := (s.ptbr.extractLsb' 8 4).toNat
        s.walk asid va = (s.treeWalk t va (top + 1) top (phys (s.ptbr.toNat / 2 ^ 14 % 2 ^ 54 * 2 ^ 14))).map fun r =>
          ⟨r.1, r.2, tag r.1⟩) ∧
      ∀ fuel level table : Nat, level < fuel →
        let at_ := phys (table + t.stride * (va.toNat / 2 ^ (14 + 10 * level) % 2 ^ 10))
        let e : BitVec 96 := if t.smallPte then .ofNat 96 (Memory.readN s.mem at_ 8) else .ofNat 96 (Memory.readN s.mem at_ 12)
        let lvl := (e.extractLsb' 26 5).toNat
        let page := va.extractLsb' 14 20
        s.treeWalk t va fuel level table =
          if e.getLsbD 31 = false then none
          else if e.getLsbD 20 = true then
            if lvl < level then s.treeWalk t va (lvl + 1) lvl (phys ((e.extractLsb' 32 64).toNat * 2 ^ 14)) else none
          else if lvl = 0 then some (false, e)
          else if lvl = 1 then some (true, e)
          else if lvl = 2 ∧ page.toNat ≤ (e.extractLsb' 32 20).toNat then
            some (false, e.extractLsb' 52 44 ++ (page ++ e.extractLsb' 0 32))
          else none) ∧
  ∀ (z : Size) (o : MemD) (x : Ext) (s : State), s.params.translate = .tlb → s.enabled x false → x.tail.regs = none →
    o.vd = false →
    let ea := eaDisp o x.tail s
    let n := z.bytes
    let first := 16384 - ea.toNat % 16384
    let rest := ea + .ofNat 64 first
    let mode := if s.sr.getLsbD 16 then s.stack[0].sr.extractLsb' 10 2 else s.sr.extractLsb' 10 2
    let low := fun (t : State) (a : Addr) => BitVec.ofNat 64 (a.toNat % 2 ^ min t.params.vaBits 64)
    let read := fun (a : Addr) (k : Nat) (t : State) =>
      (locate .read mode (low t a) k t).bind fun pa u => busRead (low u a) pa k u
    let write := fun (a : Addr) (k v : Nat) (t : State) =>
      (locate .write mode (low t a) k t).bind fun pa u => busWrite (low u a) pa k v u
    let raises := fun (c : Instr) (e : Exc) (u : State) =>
      exec c s = enter .sync e.vec s.pc e.bad { u with retire := .fault }
    let fails := fun (e : Exc) (u : State) => raises (.load z o x) e u ∧ raises (.loadz z o x) e u
    let done := fun (c : Instr) (u : State) =>
      exec c s = .next { u with pc := s.pc + .ofNat 64 (extLen x), retire := .seq }
    let loads := fun (v : Nat) (u : State) => o.rt ≠ 53 →
      done (.load z o x) (u.setReg o.rt ((BitVec.ofNat z.bits v).signExtend 128)) ∧
      done (.loadz z o x) (u.setReg o.rt ((BitVec.ofNat z.bits v).setWidth 128))
    let v := ((s.storeReg o.rt).setWidth z.bits).toNat
    (n ≤ first →
      (∀ r u, read ea n s = .ok r u → loads r u) ∧ (∀ e u, read ea n s = .trap e u → fails e u) ∧
      (∀ u, write ea n v s = .ok () u → done (.store z o x) u) ∧
      ∀ e u, write ea n v s = .trap e u → raises (.store z o x) e u) ∧
    (first < n →
      (∀ e t, read ea first s = .trap e t → fails e t) ∧
      (∀ l t, read ea first s = .ok l t → (∀ e u, read rest (n - first) t = .trap e u → fails e u) ∧
        ∀ h u, read rest (n - first) t = .ok h u → loads (l + 256 ^ first * h) u) ∧
      (∀ e t, write ea first (v % 256 ^ first) s = .trap e t → raises (.store z o x) e t) ∧
      ∀ t, write ea first (v % 256 ^ first) s = .ok () t →
        (∀ e u, write rest (n - first) (v / 256 ^ first) t = .trap e u → raises (.store z o x) e u) ∧
        ∀ u, write rest (n - first) (v / 256 ^ first) t = .ok () u → done (.store z o x) u)

/-- The interrupt controller and the timers. A level-sensitive source asks while its line is high, an edge-sensitive one
while its transition is latched, and one that TRIG set until RSTE clears it (60_exceptions R802 to R804; log 35); the
enabled source of the lowest number is selected, and this core sees its level and code when its control register names it.
Line 29 is also the timers' (R819). The registers of the controller (R802, R803): the cause register reads as the code of
the selected source; RE and ESL are bits 16 and 17 of the control registers. The registers of a timer component (R814 to
R816, R819): count, and the pending maximum count, on time and control; SYNC makes those of the timers written to it active,
and LD loads the count. A count event (R817): nothing where the timer is not enabled or gated off; a count above zero goes
down; at zero the underflow is recorded, and the count is loaded again or counting stops: CE is cleared in the active
control register, by the model's choice in no other copy (R815; log 36). No other timer changes. The clock counts every
timer that is not clocked from outside, an external edge its timer where it is (R815, R817). By the model's choice offsets
that R814 does not list read zero and ignore writes (log 36), those of the controller too (log 35). Clauses rest on the
decision D55 of 92_eei_decisions. -/
def Obligations.InterruptControllerAndTimers : Prop :=
  (∀ (s : State) (n : Nat), n < 32 →
    let line := fun j => s.pic.lines.getLsbD j || (decide (j = 29) && (s.pit1.irq || s.pit2.irq))
    let ctrl := fun (j : Nat) => s.pic.ctrlOf j
    let edge := fun j => (ctrl j).getLsbD 17 || s.pic.esh.getLsbD j
    let asks := fun j => s.pic.trig.getLsbD j || if edge j then s.pic.latch.getLsbD j else line j
    let active := fun j => asks j && (ctrl j).getLsbD 16
    (active n = true → (∀ j, j < n → active j = false) → s.picSelected = some n ∧ s.picRead 0 = ctrl n &&& 0xFF ∧
      s.irq = if (ctrl n).extractLsb' 24 6 = s.params.coreno.extractLsb' 0 6 then
        ((ctrl n).extractLsb' 8 3, (ctrl n).extractLsb' 0 8) else (0, 0)) ∧
    ((∀ j, j < 32 → active j = false) → s.picSelected = none ∧ s.picRead 0 = 0 ∧ s.irq = (0, 0)) ∧
    (s.samplePic.pic.latch.getLsbD n =
      (s.pic.latch.getLsbD n || (line n && !s.pic.prevIn.getLsbD n && (ctrl n).getLsbD 17) ||
        (!line n && s.pic.prevIn.getLsbD n && s.pic.esh.getLsbD n))) ∧
    s.samplePic.pic.prevIn.getLsbD n = line n ∧
    (s.picRead 4).getLsbD n = (ctrl n).getLsbD 16 ∧ s.picRead (0x80 + 4 * n) = ctrl n ∧
    ∀ off, 4 < off → off < 0x80 → s.picRead off = 0) ∧
  (∀ (p : Pic) (off : Nat) (v : BitVec 32), off % 4 = 0 → off < 0x100 →
    let q := p.write off v
    let named := v.toNat % 32
    q.lines = p.lines ∧ q.prevIn = p.prevIn ∧ q.esh = (if off = 0x24 then v else p.esh) ∧
    q.latch = (if off = 0x14 then p.latch &&& ~~~v else p.latch) ∧
    q.trig = (if off = 0x14 then p.trig &&& ~~~v else if off = 0x18 then p.trig ||| 1#32 <<< named else p.trig) ∧
    ∀ n b, n < 32 → b < 32 → (q.ctrlOf n).getLsbD b =
      if off = 0x80 + 4 * n then (v &&& 0x3F0B07FF).getLsbD b
      else if off = 0x04 ∧ b = 16 ∨ off = 0x20 ∧ b = 17 then v.getLsbD n
      else if off = 0x08 ∧ b = 16 ∧ n = named then false
      else if off = 0x0C ∧ b = 16 ∧ n = named then true
      else (p.ctrlOf n).getLsbD b) ∧
  (∀ (c : Params) (p : Pit) (off : Nat) (v : BitVec 64), off % 8 = 0 →
    let timers := min c.pitNTimer 32
    let mask := v &&& .ofNat 64 (2 ^ timers - 1)
    let q := p.write c off v
    (∀ n : Fin 32, n.val < timers →
      p.read c (32 * n.val) = p.timers[n.val].cc ∧ p.read c (32 * n.val + 0x08) = p.timers[n.val].pmc ∧
      p.read c (32 * n.val + 0x10) = p.timers[n.val].pot ∧
      p.read c (32 * n.val + 0x18) = p.timers[n.val].pctrl.setWidth 64) ∧
    p.read c 0x800 = p.ustat ∧ p.read c 0x810 = p.ie ∧ p.read c 0x818 = p.tmp ∧ p.read c 0x828 = p.gate ∧
    (off < 0x800 ∧ timers ≤ off / 32 ∨ 0x828 < off ∨ off = 0x808 → p.read c off = 0) ∧
    q.ustat = (if off = 0x800 then p.ustat &&& ~~~v else p.ustat) ∧ q.ie = (if off = 0x810 then mask else p.ie) ∧
    q.tmp = (if off = 0x818 then v else p.tmp) ∧ q.extGate = p.extGate ∧
    q.gate = (if off = 0x828 then mask else if off = 0x830 then p.gate ||| mask
      else if off = 0x838 then p.gate &&& ~~~v else p.gate) ∧
    ∀ n : Fin 32,
      let t := p.timers[n.val]
      let kept := v &&& .ofNat 64 (2 ^ c.pitBits - 1)
      let ctrl := fun (u : BitVec 5) => if n.val < 4 then u else u &&& 0b00111
      q.timers[n.val] =
        if timers ≤ n.val then t
        else if off = 32 * n.val + 0x08 then { t with pmc := kept }
        else if off = 32 * n.val + 0x10 then { t with pot := kept }
        else if off = 32 * n.val + 0x18 then { t with pctrl := ctrl (v.setWidth 5) }
        else if off = 0x808 ∧ v.getLsbD n.val = true then
          if t.pctrl.getLsbD 0 then
            { t with mc := t.pmc, ot := t.pot, cc := t.pmc, ctrl := t.pctrl &&& 0b11110, pctrl := t.pctrl &&& 0b11110 }
          else { t with mc := t.pmc, ot := t.pot, ctrl := t.pctrl }
        else t) ∧
  ∀ (p : Pit) (n : Nat) (h : n < 32),
    let t := p.timers[n]
    let counts := t.ctrl.getLsbD 1 = true ∧ p.gate.getLsbD n = true ∧ (t.ctrl.getLsbD 4 = true → p.extGate.getLsbD n = true)
    let q := p.count n
    (¬ counts → q = p) ∧
    (counts → t.cc ≠ 0 → q.timers[n] = { t with cc := t.cc - 1 } ∧ q.ustat = p.ustat) ∧
    (counts → t.cc = 0 → (∀ j, j < 64 → q.ustat.getLsbD j = (p.ustat.getLsbD j || decide (j = n))) ∧
      q.timers[n] = if t.ctrl.getLsbD 2 then { t with cc := t.mc } else { t with ctrl := t.ctrl &&& 0b11101 }) ∧
    (∀ j : Fin 32, j.val ≠ n → q.timers[j.val] = p.timers[j.val]) ∧
    q.ie = p.ie ∧ q.tmp = p.tmp ∧ q.gate = p.gate ∧ q.extGate = p.extGate ∧
    p.edge n = (if t.ctrl.getLsbD 3 then q else p) ∧
    ∀ c : Params,
      let u := p.clock c
      let counted := n < min c.pitNTimer 32 ∧ t.ctrl.getLsbD 3 = false
      u.timers[n] = (if counted then q.timers[n] else t) ∧
      u.ustat.getLsbD n = (if counted then q.ustat.getLsbD n else p.ustat.getLsbD n) ∧
      (∀ j, 32 ≤ j → u.ustat.getLsbD j = p.ustat.getLsbD j) ∧
      u.ie = p.ie ∧ u.tmp = p.tmp ∧ u.gate = p.gate ∧ u.extGate = p.extGate

/-- The output register of a timer component (60_exceptions R818): OSTAT bit n is 1 exactly when the count of timer n
is above zero and at most the on time; a write changes nothing. So, through a cycle of counting, the output is low
until the count has come down to the on time, is high from there on, and is low again at zero. -/
def Obligations.TimerOutputStatus : Prop :=
  ∀ (c : Params) (p : Pit) (v : BitVec 64),
    (∀ n : Fin 32, (p.read c 0x820).getLsbD n = true ↔
      0 < p.timers[n.val].cc.toNat ∧ p.timers[n.val].cc.toNat ≤ p.timers[n.val].ot.toNat) ∧
    (∀ n, 32 ≤ n → (p.read c 0x820).getLsbD n = false) ∧
    p.write c 0x820 v = p ∧
    ∀ (n : Fin 32) (k : Nat),
      let t := p.timers[n.val]
      let q := (List.range k).foldl (fun (q : Pit) (_ : Nat) => q.count n) p
      t.cc = t.mc → t.ot.toNat ≤ t.mc.toNat → k ≤ t.mc.toNat → t.ctrl.getLsbD 1 = true → p.gate.getLsbD n = true →
      t.ctrl.getLsbD 4 = false →
        ((q.read c 0x820).getLsbD n = true ↔ t.mc.toNat - t.ot.toNat ≤ k ∧ k < t.mc.toNat)

/-- The state after reset, whatever the parameters, where the spec gives it (10_state R42, R59, R69, R80; 20_memory R154;
60_exceptions R804, R819; 70_reset R830): machine mode with interrupts masked and no trace, VB, M_TICK and the hidden flags
zero, no window and no repeat, AV and the regions as their parameters say, the registers of the PIC and the PITs zero, the
entries of TLB_RESET in the TLB, current, the last where two name one place (log 34), and every other entry not valid. The
step of the reset input leaves this too, and memory as it was (log 15): with RESET_MODE zero the pc is 0; with RESET_MODE
vector the octas at addresses 0 and 8 are MSP and the pc, read as machine-mode data; where one cannot be read the core
halts, by the model's choice (log 26). Of the reset state with RESET_MODE vector both are what memory that lists nothing
holds there (log 3). Clauses rest on the decisions D5, D14, D53, D55 of 92_eei_decisions. -/
def Obligations.ResetValues : Prop :=
  let fresh := fun (p : Params) (u : State) =>
    u.params = p ∧ u.mode = 3 ∧ u.sr.getLsbD 3 = false ∧ u.ipl = 7 ∧ u.te = false ∧ (∀ m : Fin 4, u.vb[m.val] = 0) ∧
    u.tick = 0 ∧ u.repbuf.v = false ∧ u.repHold = false ∧ u.vgm = BitVec.allOnes 128 ∧
    u.win.pred = none ∧ u.win.carry = none ∧ u.win.atom = none ∧ u.win.round = none ∧
    (∀ k : Fin 8, u.stack[k.val].app = false ∧ u.stack[k.val].holdPrev = false) ∧
    (∀ i, u.av.getLsbD i = (decide (4 ≤ i) && p.avReset.getLsbD i)) ∧ u.csrValue .coreno = p.coreno ∧
    u.regions = p.regionReset ∧
    (∀ n : Fin 32, u.pic.ctrl[n.val] = 0) ∧ u.pic.esh = 0 ∧ u.pic.latch = 0 ∧ u.pic.trig = 0 ∧
    (∀ t, t = u.pit1 ∨ t = u.pit2 → (∀ n : Fin 32, t.timers[n.val] = ⟨0, 0, 0, 0, 0, 0, 0⟩) ∧
      t.ustat = 0 ∧ t.ie = 0 ∧ t.tmp = 0 ∧ t.gate = 0) ∧
    (∀ before e after, p.tlbReset = before ++ e :: after → (∀ f, f ∈ after → f.1 ≠ e.1) →
      (u.tlb.get e.1).pte = e.2.1 ∧ (u.tlb.get e.1).vpn = e.2.2 ∧ (u.tlb.get e.1).count = u.tlb.count) ∧
    ∀ slot, (∀ e, e ∈ p.tlbReset → e.1 ≠ slot) → (u.tlb.get slot).pte.getLsbD 31 = false
  (∀ p : Params,
    let r := State.resetWith p
    fresh p r ∧ (p.resetMode = .zero → r.pc = 0) ∧
    (p.resetMode = .vector → r.ram 0 16 → r.msp = .ofNat 128 (r.data 0 8) ∧ r.pc = .ofNat 64 (r.data 8 8))) ∧
  ∀ s : State, s.resetAsked = true →
    let m := s.takeInputs.takeMmu
    let r := m.afterReset
    fresh s.params r ∧ r.mem = m.mem ∧ r.pc = 0 ∧ r.halted = false ∧
    (s.params.resetMode = .zero → step s = .next r) ∧
    (s.params.resetMode = .vector →
      (s.ram 0 16 → step s = .next { r with msp := .ofNat 128 (m.data 0 8), pc := .ofNat 64 (m.data 8 8) }) ∧
      (∀ sp t pc u, memReadAs .read 3 0 8 r = .ok sp t → memReadAs .read 3 8 8 t = .ok pc u →
        u = { r with tlb := u.tlb, draws := u.draws } ∧
        step s = .next { u with msp := .ofNat 128 sp, pc := .ofNat 64 pc }) ∧
      (s.flat → (∀ i, i < 16 → s.device i = none) → (∃ i, i < 16 ∧ s.claimed i = false) →
        step s = .next { r with halted := true }))

/-- The invariant holds after reset, whatever the parameters: by the model's choice of the reset values that R80 leaves
unspecified, zero in VL, S_PTBR and the rest of SR (log 2), and of a memory that lists nothing (log 3). Clauses rest on the
decision D5 of 92_eei_decisions. -/
def Obligations.InvariantHoldsAtReset : Prop := ∀ p : Params, (State.resetWith p).Inv

/-- Every step keeps the invariant: the canonical form of memory; the reserved bits of SR (10_state R35), of S_PTBR
(R56) and the low bits of AV (60_exceptions R774) stay zero; VL stays within MAX_VL (10_state R41); outside a CARRY
window there is no carry (R77). Clauses rest on the decisions D24, D53 of 92_eei_decisions. -/
def Obligations.StepKeepsTheInvariant : Prop :=
  ∀ (s t : State), s.Inv → step s = .next t → t.Inv

/-- No instruction that is executed below machine mode leaves the mode but by taking an exception (60_exceptions R741):
either the mode stays, or it is machine mode by an entry that pushed the status register as it was and wrote M_CAUSE
with a system vector. Clauses rest on the decisions D6, D21, D22, D23, D31 of 92_eei_decisions. -/
def Obligations.ModeRisesOnlyByExceptionEntry : Prop :=
  ∀ (i : Instr) (s t : State), s.mode ≠ 3 → exec i s = .next t →
    t.mode = s.mode ∨
      (t.mode = 3 ∧ t.stack[0].sr = s.sr ∧ t.stack[0].app = false ∧ t.repHold = true ∧ t.win = Windows.none ∧
        ∃ vec : BitVec 9, vec.toNat < 64 ∧ t.cause[3] = vec.setWidth 12)

/-- M_TICK grows at every step but that of the reset input by one and a free amount that no register sees (70_reset R850;
log 6): what `Config.tickExtra` gives the last value drawn; and no step changes the implementation parameters (00_scope R8).
What the other agents may change before a step (00_scope R15): the MMU, in a memory in canonical form, bit M, which it only
sets, and AccessCount of the page management table entry of a page that has a translation, in the TLB or in the page tables,
where that entry is memory, and nothing at all with TRANSLATE = flat or while ATOM locks the bus (20_memory R124 to R126,
R174; log 12); the environment the lines of the PIC, with what it latches of them, the two PITs, M_SEMA and the bytes of
memory, each where one of the acts due is on it, and while the bus is locked no memory, those acts standing first among the
next (log 15). Clauses rest on the decisions D12, D56 of 92_eei_decisions. -/
def Obligations.TickParametersAndOtherAgents : Prop :=
  (∀ (s t : State), step s = .next t →
    t.params = s.params ∧
    (s.resetAsked = false → 0 < t.draws ∧ t.tick = s.tick + .ofNat 64 (1 + Config.tickExtra (t.draws - 1)))) ∧
  (∀ s : State,
    let t := s.takeMmu
    let pmte := fun (pte : BitVec 96) (big : Bool) (va : Addr) =>
      let pa := (if big then (pte.extractLsb' 42 54).toNat * 2 ^ 24 + va.toNat % 2 ^ 24
        else (pte.extractLsb' 32 64).toNat * 2 ^ 14 + va.toNat % 2 ^ 14) % 2 ^ s.params.paBits
      let region : Fin 8 := (pte.extractLsb' 23 3).toFin
      (s.regions[region.val].pmt.toNat + 16 * ((pa - s.params.regionRange[region.val].1) / 16384)) % 2 ^ s.params.paBits
    let inside := fun (pte : BitVec 96) (big : Bool) (va : Addr) =>
      big = true → (va.extractLsb' 14 10).toNat ≤ (pte.extractLsb' 32 10).toNat
    let managed := fun (p : Nat) =>
      (∃ slot va, let e := s.tlb.get slot
        e.pte.getLsbD 31 = true ∧ e.count = s.tlb.count ∧ inside e.pte (slot / 1024 == 4) va ∧
          p = pmte e.pte (slot / 1024 == 4) va) ∨
      ∃ asid va h, s.walk asid va = some h ∧ inside h.pte h.big va ∧ p = pmte h.pte h.big va
    (s.params.translate = .flat ∨ s.busLocked = true → t = s) ∧
    t = { s with mem := t.mem, draws := t.draws } ∧
    (Memory.wf s.mem = true → Memory.wf t.mem = true ∧ ∀ a, t.byte a = s.byte a ∨ (s.claimed a = true ∧ s.device a = none ∧ ∃ p, managed p ∧
      (a = p + 3 ∧ t.byte a = s.byte a ||| 0x20 ∨ p + 8 ≤ a ∧ a < p + 12)))) ∧
  ∀ s : State,
    let t := s.takeInputs
    let now := s.env.head?.getD []
    let held := if s.busLocked then now.filter fun i => i matches .memory _ _ else []
    let none_ := fun (p : Input → Bool) => ∀ i, i ∈ now → p i = false
    t = { s with pic := t.pic, pit1 := t.pit1, pit2 := t.pit2, mem := t.mem, sema := t.sema, env := t.env } ∧
    t.env = (if held = [] then s.env.tail else (held ++ s.env.tail.head?.getD []) :: s.env.tail.tail) ∧
    t.pic = { s.pic with latch := t.pic.latch, lines := t.pic.lines, prevIn := t.pic.prevIn } ∧
    (none_ (fun i => i matches .picLine _ _) → t.pic.lines = s.pic.lines) ∧
    (none_ (fun i => i matches .pitClock false | .pitEdge false _ | .pitGate false _ _) → t.pit1 = s.pit1) ∧
    (none_ (fun i => i matches .pitClock true | .pitEdge true _ | .pitGate true _ _) → t.pit2 = s.pit2) ∧
    (none_ (fun i => i matches .sema _) → t.sema = s.sema) ∧
    (Memory.wf s.mem = true → Memory.wf t.mem = true ∧
      ∀ a, t.byte a = s.byte a ∨ (s.busLocked = false ∧ .memory a (t.byte a) ∈ now))

/-- Decoding what the encoder writes gives the instruction back, with its length, for every well-formed instruction
(30_encoding R200 to R265): no bit of an encoding is lost. And what decodes to an instruction, whatever the bytes, is
well-formed: a word that is not is refused (R250). Clauses rest on the decision D11 of 92_eei_decisions. -/
def Obligations.DecodeOfEncode : Prop :=
  (∀ (i : Instr), i.wf = true → ∃ w, decode (encode i) = .done w i.len (.ok i)) ∧
  ∀ (bs : List Byte) (w : BitVec 48) (n : Nat) (i : Instr), decode bs = .done w n (.ok i) → i.wf = true

/-- The words of a few instructions, written out from the spec's own examples (49_modifiers R710, R716; 60_exceptions
R777; 30_encoding R237), decode to them: ATOM "AAA", REP, TRAP r1,#40,#7, RTE, NOP. Clauses rest on the decision D51 of
92_eei_decisions. -/
def Obligations.ExampleWordsDecode : Prop :=
  decodeTableWord 40 0x8C00150002 = some (.atom ⟨0x0015, false, 0, false, 0⟩ Tail.empty) ∧
  decodeTableWord 40 0x8800000202 = some (.rep ⟨0, false, 0, 1⟩ Tail.empty) ∧
  decodeTableWord 40 0x0083940200 = some (.trapImm ⟨1, 40, 7⟩ Tail.empty) ∧
  decodeTableWord 40 0x0082000084 = some (.rte1 ⟨0, false, 0, false, 0, 0, .h⟩ Tail.empty) ∧
  decodeTableWord 40 0xFFFFFFFFFF = some (.nop Tail.empty)
end

