-- ==== Sys2Proof/Laws/Memory.lean ====
section
/-! SUPPORT. Laws of memory: a byte written is read back, every other byte is left alone, and the canonical form is kept
(20_memory R100, R101). -/

set_option Elab.async false

namespace Sys2Proof.Machine

/-- Every address of the list lies above `a`. -/
theorem Memory.wf_cons {a : Nat} {v : Byte} {r : List Host.Cell} :
    Memory.wf ((a, v) :: r) = true ↔ v ≠ 0 ∧ (∀ c ∈ r, a < c.1) ∧ Memory.wf r = true := by
  simp [Memory.wf, and_assoc]

theorem Memory.wf_nil : Memory.wf [] = true := rfl

/-- A byte below every listed address reads as unlisted. -/
theorem Memory.read_below {m : List Host.Cell} {a : Nat} (h : ∀ c ∈ m, a < c.1) : Memory.read m a = 0 := by
  induction m with
  | nil => rfl
  | cons c r ih =>
    have h1 := h c (by simp)
    simp only [Memory.read]
    rw [if_neg (by omega)]
    exact ih fun c hc => h c (by simp [hc])

/-- Writing puts no address below a bound that the old addresses and the new one keep. -/
theorem Memory.write_above {m : List Host.Cell} {a b : Nat} {v : Byte} (h : ∀ c ∈ m, b < c.1) (hb : b < a) :
    ∀ c ∈ Memory.write a v m, b < c.1 := by
  induction m with
  | nil => intro c hc; simp only [Memory.write] at hc; split at hc <;> simp_all
  | cons x r ih =>
    obtain ⟨k, u⟩ := x
    have hk : b < k := h (k, u) (by simp)
    have hr : ∀ c ∈ r, b < c.1 := fun c hc => h c (by simp [hc])
    intro c hc
    simp only [Memory.write] at hc
    split at hc
    · split at hc
      · rcases List.mem_cons.1 hc with rfl | hc
        · exact hk
        · exact hr c hc
      · rcases List.mem_cons.1 hc with rfl | hc
        · exact hb
        · rcases List.mem_cons.1 hc with rfl | hc
          · exact hk
          · exact hr c hc
    · split at hc
      · split at hc
        · exact hr c hc
        · rcases List.mem_cons.1 hc with rfl | hc
          · exact hb
          · exact hr c hc
      · rcases List.mem_cons.1 hc with rfl | hc
        · exact hk
        · exact ih hr c hc

/-- A write keeps the canonical form. -/
theorem Memory.wf_write (a : Nat) (v : Byte) {m : List Host.Cell} (h : Memory.wf m = true) :
    Memory.wf (Memory.write a v m) = true := by
  induction m with
  | nil => simp only [Memory.write]; split <;> simp_all [Memory.wf]
  | cons x r ih =>
    obtain ⟨k, u⟩ := x
    obtain ⟨hu, hk, hr⟩ := Memory.wf_cons.1 h
    simp only [Memory.write]
    split
    · split
      · exact h
      · refine Memory.wf_cons.2 ⟨‹_›, ?_, h⟩
        intro c hc
        rcases List.mem_cons.1 hc with rfl | hc
        · assumption
        · exact Nat.lt_trans ‹a < k› (hk c hc)
    · split
      · split
        · exact hr
        · subst_vars
          exact Memory.wf_cons.2 ⟨‹_›, hk, hr⟩
      · exact Memory.wf_cons.2 ⟨hu, Memory.write_above hk (by omega), ih hr⟩

/-- A byte written is read back. -/
theorem Memory.read_write_same (a : Nat) (v : Byte) {m : List Host.Cell} (h : Memory.wf m = true) :
    Memory.read (Memory.write a v m) a = v := by
  induction m with
  | nil => simp only [Memory.write]; split <;> simp_all [Memory.read]
  | cons x r ih =>
    obtain ⟨k, u⟩ := x
    obtain ⟨hu, hk, hr⟩ := Memory.wf_cons.1 h
    simp only [Memory.write]
    split
    · split
      · subst_vars
        refine Memory.read_below fun c hc => ?_
        rcases List.mem_cons.1 hc with rfl | hc
        · assumption
        · exact Nat.lt_trans ‹a < k› (hk c hc)
      · simp [Memory.read]
    · split
      · split
        · subst_vars
          exact Memory.read_below hk
        · simp [Memory.read]
      · simp only [Memory.read]
        rw [if_neg (by omega)]
        exact ih hr

/-- A write leaves every other byte alone. -/
theorem Memory.read_write_other {a b : Nat} (v : Byte) {m : List Host.Cell} (hab : b ≠ a) :
    Memory.read (Memory.write a v m) b = Memory.read m b := by
  induction m with
  | nil => simp only [Memory.write]; split <;> simp [Memory.read, hab.symm]
  | cons x r ih =>
    obtain ⟨k, u⟩ := x
    simp only [Memory.write]
    split
    · split
      · rfl
      · simp [Memory.read, hab.symm]
    · split
      · subst_vars
        split <;> simp [Memory.read, hab.symm]
      · simp only [Memory.read, ih]

/-- Writing several bytes keeps the canonical form. -/
theorem Memory.wf_writeList (a : Nat) (bs : List Byte) {m : List Host.Cell} (h : Memory.wf m = true) :
    Memory.wf (Memory.writeList a bs m) = true := by
  induction bs generalizing a m with
  | nil => exact h
  | cons b bs ih => exact ih (a + 1) (Memory.wf_write a b h)

/-- Writing several bytes leaves the bytes below them alone. -/
theorem Memory.read_writeList_below {a b : Nat} (bs : List Byte) {m : List Host.Cell} (h : b < a) :
    Memory.read (Memory.writeList a bs m) b = Memory.read m b := by
  induction bs generalizing a m with
  | nil => rfl
  | cons x bs ih =>
    simp only [Memory.writeList]
    rw [ih (by omega), Memory.read_write_other x (by omega)]

/-- Writing several bytes leaves the bytes above them alone. -/
theorem Memory.read_writeList_above {a b : Nat} (bs : List Byte) {m : List Host.Cell} (h : a + bs.length ≤ b) :
    Memory.read (Memory.writeList a bs m) b = Memory.read m b := by
  induction bs generalizing a m with
  | nil => rfl
  | cons x bs ih =>
    simp only [List.length_cons] at h
    simp only [Memory.writeList]
    rw [ih (by omega), Memory.read_write_other x (by omega)]

/-- Each of several bytes written is read back. -/
theorem Memory.read_writeList {a : Nat} (bs : List Byte) {m : List Host.Cell} (h : Memory.wf m = true) {i : Nat}
    (hi : i < bs.length) : Memory.read (Memory.writeList a bs m) (a + i) = bs[i] := by
  induction bs generalizing a m i with
  | nil => exact absurd hi (by simp)
  | cons x bs ih =>
    simp only [Memory.writeList]
    cases i with
    | zero =>
      rw [Memory.read_writeList_below bs (by omega)]
      exact Memory.read_write_same a x h
    | succ j =>
      simp only [List.length_cons] at hi
      have := ih (a := a + 1) (Memory.wf_write a x h) (i := j) (by omega)
      simpa [Nat.add_assoc, Nat.add_comm 1 j] using this

/-- The bytes of a number. -/
theorem toBytes_length (n v : Nat) : (toBytes n v).length = n := by
  induction n generalizing v with
  | zero => rfl
  | succ n ih => simp [toBytes, ih]

theorem toBytes_get (n v i : Nat) (h : i < (toBytes n v).length) : (toBytes n v)[i] = .ofNat 8 (v / 256 ^ i) := by
  induction n generalizing v i with
  | zero => exact absurd h (by simp [toBytes])
  | succ n ih =>
    cases i with
    | zero => simp [toBytes]
    | succ j =>
      simp only [toBytes, List.getElem_cons_succ]
      rw [ih, Nat.div_div_eq_div_mul, Nat.pow_succ, Nat.mul_comm 256]

/-- A store writes the bytes of its value. -/
theorem State.byte_store {s : State} (pa n v : Nat) (h : Memory.wf s.mem = true) {i : Nat} (hi : i < n) :
    (s.store pa n v).byte (pa + i) = .ofNat 8 (v / 256 ^ i) := by
  have hl := toBytes_length n v
  simp only [State.byte, State.store]
  rw [Memory.read_writeList (toBytes n v) h (by omega), toBytes_get]

/-- A store leaves the bytes outside it alone. -/
theorem State.byte_store_other {s : State} (pa n v a : Nat) (h : a < pa ∨ pa + n ≤ a) :
    (s.store pa n v).byte a = s.byte a := by
  have hl := toBytes_length n v
  simp only [State.byte, State.store]
  rcases h with h | h
  · exact Memory.read_writeList_below _ h
  · exact Memory.read_writeList_above _ (by omega)

/-- A store keeps the canonical form. -/
theorem State.wf_store {s : State} (pa n v : Nat) (h : Memory.wf s.mem = true) :
    Memory.wf (s.store pa n v).mem = true := Memory.wf_writeList _ _ h

end Sys2Proof.Machine
end

