-- ==== Sys2Proof/Laws/Access.lean ====
section
/-! SUPPORT. Laws of MemRead and MemWrite under flat translation: an access to memory reads the bytes there, or stores and
changes nothing else (20_memory R101, R150). -/

set_option Elab.async false

namespace Sys2Proof.Machine

/-- Addresses within a page do not wrap. -/
theorem toNat_add_page (va : Addr) {i : Nat} (h : i < 16384 - va.toNat % 16384) :
    (va + .ofNat 64 i).toNat = va.toNat + i := by
  have := va.isLt
  simp only [BitVec.toNat_add, BitVec.toNat_ofNat]
  omega

/-- The two pieces of an access. -/
theorem inPage_cases (va : Addr) {n : Nat} (h : n ≤ 16384) :
    inPage va n = n ∧ n ≤ 16384 - va.toNat % 16384 ∨
      inPage va n < n ∧ inPage va n = 16384 - va.toNat % 16384 ∧ (va + .ofNat 64 (inPage va n)).toNat % 16384 = 0 ∧
        n - inPage va n ≤ 16384 - (va + .ofNat 64 (inPage va n)).toNat % 16384 := by
  have := va.isLt
  unfold inPage
  by_cases hn : n ≤ 16384 - va.toNat % 16384
  · left; omega
  · right
    rw [Nat.min_eq_right (by omega)]
    have h2 : (va + .ofNat 64 (16384 - va.toNat % 16384)).toNat % 16384 = 0 := by
      simp only [BitVec.toNat_add, BitVec.toNat_ofNat]; omega
    omega

theorem State.ram_mono {s : State} {va : Addr} {n m : Nat} (h : s.ram va n) (hm : m ≤ n) : s.ram va m :=
  ⟨h.1, fun i hi => h.2 i (by omega)⟩

theorem State.ram_add {s : State} {va : Addr} {n m : Nat} (h : s.ram va (m + n)) : s.ram (va + .ofNat 64 m) n := by
  refine ⟨h.1, fun i hi => ?_⟩
  have := h.2 (m + i) (by omega)
  rw [BitVec.add_assoc, ← BitVec.ofNat_add]
  exact this

/-- At 64 bits every virtual address is itself. -/
theorem State.virt_flat {s : State} (h : s.flat) (va : Addr) : s.virt va = va := by
  have h64 : min s.params.vaBits 64 = 64 := Nat.min_eq_right h.2.1
  have := va.isLt
  apply BitVec.eq_of_toNat_eq
  simp only [State.virt, h64, BitVec.toNat_ofNat]
  omega

/-- At 64 bits every physical address is itself. -/
theorem State.phys_flat {s : State} (h : s.flat) (va : Addr) : s.phys va.toNat = va.toNat := by
  exact Nat.mod_eq_of_lt (Nat.lt_of_lt_of_le va.isLt (Nat.pow_le_pow_right (by omega) h.2.2))

/-- Under flat translation an address is its own translation, and nothing changes. -/
theorem locate_flat {s : State} (h : s.flat) (k : Kind) (m : BitVec 2) (va : Addr) (n : Nat) :
    locate k m va n s = .ok va.toNat s := by
  simp [locate, h.1, State.phys_flat h]

/-- Bytes of memory that lie in one page are memory for the bus. -/
theorem State.target_ram {s : State} {va : Addr} {n : Nat} (h : s.ram va n) (hn : n ≤ 16384 - va.toNat % 16384) :
    s.target va.toNat n = .memory := by
  have key : ∀ i, i < n → s.claimed (va.toNat + i) = true ∧ s.device (va.toNat + i) = none := by
    intro i hi
    have := h.2 i hi
    rwa [toNat_add_page va (by omega)] at this
  unfold State.target
  have hd : ∀ p : Nat → Bool, (∀ i, i < n → p i = false) → (List.range n).any p = false := by
    intro p hp
    simpa [List.any_eq_false] using hp
  have ha : (List.range n).all (fun i => s.claimed (va.toNat + i)) = true := by
    simpa [List.all_eq_true] using fun i hi => (key i hi).1
  rw [hd _ fun i hi => by simp [State.strict, (key i hi).2], hd _ fun i hi => by simp [(key i hi).2], ha]
  rfl

theorem State.readN_data {s : State} {va : Addr} {n : Nat} (hn : n ≤ 16384 - va.toNat % 16384) :
    Memory.readN s.mem va.toNat n = s.data va n := by
  induction n generalizing va with
  | zero => rfl
  | succ n ih =>
    simp only [Memory.readN, State.data, State.byte]
    rcases Nat.eq_zero_or_pos n with rfl | hp
    · rfl
    · have h1 : (va + 1).toNat = va.toNat + 1 := toNat_add_page va (i := 1) (by omega)
      rw [← ih (va := va + 1) (by rw [h1]; omega), h1]

theorem State.data_add (s : State) (va : Addr) (m n : Nat) :
    s.data va (m + n) = s.data va m + 256 ^ m * s.data (va + .ofNat 64 m) n := by
  induction m generalizing va with
  | zero => simp [State.data]
  | succ m ih =>
    have h1 : va + 1 + .ofNat 64 m = va + .ofNat 64 (m + 1) := by
      rw [BitVec.add_assoc, show (1 : Addr) = .ofNat 64 1 from rfl, ← BitVec.ofNat_add, Nat.add_comm 1 m]
    rw [show m + 1 + n = m + n + 1 by omega]
    simp only [State.data]
    rw [ih, h1, Nat.pow_succ]
    ring

theorem State.data_lt (s : State) (va : Addr) (n : Nat) : s.data va n < 256 ^ n := by
  induction n generalizing va with
  | zero => simp [State.data]
  | succ n ih =>
    have := ih (va + 1)
    have := (s.byte va.toNat).isLt
    simp only [State.data, Nat.pow_succ]
    omega

/-- A piece of a read of memory. -/
theorem readPiece_ram {s : State} {k : Kind} {m : BitVec 2} {va : Addr} {n : Nat} (h : s.ram va n)
    (hn : n ≤ 16384 - va.toNat % 16384) : readPiece k m va n s = .ok (s.data va n) s := by
  simp [readPiece, locate_flat h.1, State.virt_flat h.1, Acc.bind, busRead, State.target_ram h hn, State.readN_data hn]

/-- MemRead of memory, whatever the mode: the bytes there; nothing changes. -/
theorem memReadAs_ram {s : State} {k : Kind} {m : BitVec 2} {va : Addr} {n : Nat} (h : s.ram va n) (hn : n ≤ 16384) :
    memReadAs k m va n s = .ok (s.data va n) s := by
  unfold memReadAs
  rcases inPage_cases va hn with ⟨h1, h2⟩ | ⟨h1, h2, h3, h4⟩
  · simp only [h1, if_true]
    exact readPiece_ram h h2
  · have hs : inPage va n + (n - inPage va n) = n := by omega
    have hr : s.ram (va + .ofNat 64 (inPage va n)) (n - inPage va n) := State.ram_add (by rw [hs]; exact h)
    simp only [if_neg (Nat.ne_of_lt h1)]
    rw [readPiece_ram (State.ram_mono h (Nat.le_of_lt h1)) (by omega)]
    simp only [Acc.bind]
    rw [readPiece_ram hr h4]
    simp only
    rw [← State.data_add, hs]

/-- MemRead of memory. -/
theorem memRead_ram {s : State} {va : Addr} {n : Nat} (h : s.ram va n) (hn : n ≤ 16384) :
    memRead va n s = .ok (s.data va n) s := memReadAs_ram h hn

/-- The units and the memory map do not change with memory. -/
theorem State.ram_store {s : State} (pa n' v : Nat) {va : Addr} {n : Nat} (h : s.ram va n) :
    (s.store pa n' v).ram va n := h

/-- A piece of a write to memory. -/
theorem writePiece_ram {s : State} {m : BitVec 2} {va : Addr} {n v : Nat} (h : s.ram va n)
    (hn : n ≤ 16384 - va.toNat % 16384) : writePiece m va n v s = .ok () (s.store va.toNat n v) := by
  simp [writePiece, locate_flat h.1, State.virt_flat h.1, Acc.bind, busWrite, State.target_ram h hn]

theorem State.stored_store {s : State} (va : Addr) (n v : Nat) (hw : Memory.wf s.mem = true)
    (hn : n ≤ 16384 - va.toNat % 16384) : Stored s (s.store va.toNat n v) va n v := by
  constructor
  · intro i hi
    rw [toNat_add_page va (by omega)]
    exact State.byte_store va.toNat n v hw hi
  · intro a ha
    apply State.byte_store_other
    by_contra hc
    refine ha (a - va.toNat) (by omega) ?_
    rw [toNat_add_page va (by omega)]
    omega

/-- MemWrite to memory: it stores the bytes, and changes nothing else but what a fetch may still see. -/
theorem memWriteAs_ram {s : State} {m : BitVec 2} {va : Addr} {n v : Nat} (h : s.ram va n) (hn : n ≤ 16384)
    (hw : Memory.wf s.mem = true) :
    ∃ t, memWriteAs m va n v s = .ok () t ∧ Stored s t va n v ∧ t = { s with mem := t.mem, stale := t.stale } ∧
      Memory.wf t.mem = true := by
  unfold memWriteAs
  rcases inPage_cases va hn with ⟨h1, h2⟩ | ⟨h1, h2, h3, h4⟩
  · simp only [h1, if_true]
    exact ⟨_, writePiece_ram h h2, State.stored_store va n v hw h2, rfl, State.wf_store _ _ _ hw⟩
  · have hs : inPage va n + (n - inPage va n) = n := by omega
    have hr : s.ram (va + .ofNat 64 (inPage va n)) (n - inPage va n) := State.ram_add (by rw [hs]; exact h)
    generalize hf : inPage va n = f at *
    simp only [if_neg (Nat.ne_of_lt h1)]
    rw [writePiece_ram (State.ram_mono h (Nat.le_of_lt h1)) (by omega)]
    simp only [Acc.bind]
    have hw1 := State.wf_store va.toNat f (v % 256 ^ f) hw
    rw [writePiece_ram (State.ram_store _ _ _ hr) h4]
    have s1 := State.stored_store va f (v % 256 ^ f) hw (by omega)
    have s2 := State.stored_store (va + .ofNat 64 f) (n - f) (v / 256 ^ f) hw1 h4
    have hadd : ∀ j, va + .ofNat 64 f + .ofNat 64 j = va + .ofNat 64 (f + j) := by
      intro j; rw [BitVec.add_assoc, ← BitVec.ofNat_add]
    refine ⟨_, rfl, ⟨?_, ?_⟩, rfl, State.wf_store _ _ _ hw1⟩
    · intro i hi
      by_cases hif : i < f
      · rw [s2.2 _ ?_]
        · rw [s1.1 i hif]
          have : v % 256 ^ f / 256 ^ i = v / 256 ^ i % 256 ^ (f - i) := by
            rw [show 256 ^ f = 256 ^ i * 256 ^ (f - i) by rw [← Nat.pow_add]; congr 1; omega,
              Nat.mod_mul_right_div_self]
          rw [this]
          apply BitVec.eq_of_toNat_eq
          simp only [BitVec.toNat_ofNat]
          rw [show 2 ^ 8 = 256 from rfl, Nat.mod_mod_of_dvd]
          exact dvd_pow_self 256 (by omega)
        · intro j hj he
          have e1 := congrArg (BitVec.ofNat 64) he
          simp only [BitVec.ofNat_toNat, BitVec.setWidth_eq] at e1
          rw [hadd] at e1
          have e2 : BitVec.ofNat 64 i = BitVec.ofNat 64 (f + j) := by
            simpa using e1
          have e3 := congrArg BitVec.toNat e2
          simp only [BitVec.toNat_ofNat] at e3
          omega
      · have := s2.1 (i - f) (by omega)
        rw [hadd, show f + (i - f) = i by omega] at this
        rw [this, Nat.div_div_eq_div_mul, ← Nat.pow_add, show f + (i - f) = i by omega]
    · intro a ha
      rw [s2.2 a ?_, s1.2 a ?_]
      · intro i hi; exact ha i (by omega)
      · intro i hi; rw [hadd]; exact ha (f + i) (by omega)

/-- MemWrite to memory. -/
theorem memWrite_ram {s : State} {va : Addr} {n v : Nat} (h : s.ram va n) (hn : n ≤ 16384)
    (hw : Memory.wf s.mem = true) :
    ∃ t, memWrite va n v s = .ok () t ∧ Stored s t va n v ∧ t = { s with mem := t.mem, stale := t.stale } ∧
      Memory.wf t.mem = true := memWriteAs_ram h hn hw

end Sys2Proof.Machine
end

