-- ==== Sys2Proof/Laws/Exec.lean ====
section
/-! SUPPORT. The meaning of each instruction: `exec` at each constructor, so that a proof unfolds the dispatch once. -/

namespace Sys2Proof.Machine

theorem exec_brk (t s) : exec (.brk t) s = execBrk t s := rfl
theorem exec_trapRa (o t s) : exec (.trapRa o t) s = execTrapRa o t s := rfl
theorem exec_trapImm (o t s) : exec (.trapImm o t) s = execTrapImm o t s := rfl
theorem exec_add (o x s) : exec (.add o x) s = execAdd o x s := rfl
theorem exec_sub (o x s) : exec (.sub o x) s = execSub o x s := rfl
theorem exec_rtdReg (o t s) : exec (.rtdReg o t) s = execRtdReg o t s := rfl
theorem exec_rtsReg (o t s) : exec (.rtsReg o t) s = execRtsReg o t s := rfl
theorem exec_cmp (o x s) : exec (.cmp o x) s = execCmp o x s := rfl
theorem exec_cmpsB (o x s) : exec (.cmpsB o x) s = execCmpsB o x s := rfl
theorem exec_mul (o x s) : exec (.mul o x) s = execMul o x s := rfl
theorem exec_mulu (o x s) : exec (.mulu o x) s = execMulu o x s := rfl
theorem exec_mulsu (o x s) : exec (.mulsu o x) s = execMulsu o x s := rfl
theorem exec_div (o x s) : exec (.div o x) s = execDiv o x s := rfl
theorem exec_divu (o x s) : exec (.divu o x) s = execDivu o x s := rfl
theorem exec_divsu (o x s) : exec (.divsu o x) s = execDivsu o x s := rfl
theorem exec_and (o x s) : exec (.and o x) s = execAnd o x s := rfl
theorem exec_nand (o x s) : exec (.nand o x) s = execNand o x s := rfl
theorem exec_or (o x s) : exec (.or o x) s = execOr o x s := rfl
theorem exec_nor (o x s) : exec (.nor o x) s = execNor o x s := rfl
theorem exec_eor (o x s) : exec (.eor o x) s = execEor o x s := rfl
theorem exec_enor (o x s) : exec (.enor o x) s = execEnor o x s := rfl
theorem exec_mulh (o x s) : exec (.mulh o x) s = execMulh o x s := rfl
theorem exec_muluh (o x s) : exec (.muluh o x) s = execMuluh o x s := rfl
theorem exec_chrndx (o x s) : exec (.chrndx o x) s = execChrndx o x s := rfl
theorem exec_chrndxImm (o x s) : exec (.chrndxImm o x) s = execChrndxImm o x s := rfl
theorem exec_clmul (o x s) : exec (.clmul o x) s = execClmul o x s := rfl
theorem exec_clmulImm (o x s) : exec (.clmulImm o x) s = execClmulImm o x s := rfl
theorem exec_mod (o x s) : exec (.mod o x) s = execMod o x s := rfl
theorem exec_modu (o x s) : exec (.modu o x) s = execModu o x s := rfl
theorem exec_bmap (o x s) : exec (.bmap o x) s = execBmap o x s := rfl
theorem exec_jmpIdx (o t s) : exec (.jmpIdx o t) s = execJmpIdx o t s := rfl
theorem exec_jmpIdxInd (o t s) : exec (.jmpIdxInd o t) s = execJmpIdxInd o t s := rfl
theorem exec_jsrIdx (o t s) : exec (.jsrIdx o t) s = execJsrIdx o t s := rfl
theorem exec_jsrIdxInd (o t s) : exec (.jsrIdxInd o t) s = execJsrIdxInd o t s := rfl
theorem exec_seq (o x s) : exec (.seq o x) s = execSeq o x s := rfl
theorem exec_sne (o x s) : exec (.sne o x) s = execSne o x s := rfl
theorem exec_slt (o x s) : exec (.slt o x) s = execSlt o x s := rfl
theorem exec_sge (o x s) : exec (.sge o x) s = execSge o x s := rfl
theorem exec_sle (o x s) : exec (.sle o x) s = execSle o x s := rfl
theorem exec_sgt (o x s) : exec (.sgt o x) s = execSgt o x s := rfl
theorem exec_sltu (o x s) : exec (.sltu o x) s = execSltu o x s := rfl
theorem exec_sgeu (o x s) : exec (.sgeu o x) s = execSgeu o x s := rfl
theorem exec_sleu (o x s) : exec (.sleu o x) s = execSleu o x s := rfl
theorem exec_sgtu (o x s) : exec (.sgtu o x) s = execSgtu o x s := rfl
theorem exec_pred (o t s) : exec (.pred o t) s = execPred o t s := rfl
theorem exec_carry (o t s) : exec (.carry o t) s = execCarry o t s := rfl
theorem exec_rep (o t s) : exec (.rep o t) s = execRep o t s := rfl
theorem exec_atom (o t s) : exec (.atom o t) s = execAtom o t s := rfl
theorem exec_round (imm t s) : exec (.round imm t) s = execRound imm t s := rfl
theorem exec_v2bits (o x s) : exec (.v2bits o x) s = execV2bits o x s := rfl
theorem exec_dif (w x s) : exec (.dif w x) s = execDif w x s := rfl
theorem exec_ptrdif (w x s) : exec (.ptrdif w x) s = execPtrdif w x s := rfl
theorem exec_revbitMap (w x s) : exec (.revbitMap w x) s = execRevbitMap w x s := rfl
theorem exec_bits2v (w x s) : exec (.bits2v w x) s = execBits2v w x s := rfl
theorem exec_vex (w x s) : exec (.vex w x) s = execVex w x s := rfl
theorem exec_veins (w x s) : exec (.veins w x) s = execVeins w x s := rfl
theorem exec_vgndx (w x s) : exec (.vgndx w x) s = execVgndx w x s := rfl
theorem exec_sgeuMap (w x s) : exec (.sgeuMap w x) s = execSgeuMap w x s := rfl
theorem exec_sgtuMap (w x s) : exec (.sgtuMap w x) s = execSgtuMap w x s := rfl
theorem exec_min (w x s) : exec (.min w x) s = execMin w x s := rfl
theorem exec_max (w x s) : exec (.max w x) s = execMax w x s := rfl
theorem exec_bmm (w x s) : exec (.bmm w x) s = execBmm w x s := rfl
theorem exec_mux (w x s) : exec (.mux w x) s = execMux w x s := rfl
theorem exec_aes64ks1i (w x s) : exec (.aes64ks1i w x) s = execAes64ks1i w x s := rfl
theorem exec_aes64ks2 (w x s) : exec (.aes64ks2 w x) s = execAes64ks2 w x s := rfl
theorem exec_sm4ed (o x s) : exec (.sm4ed o x) s = execSm4ed o x s := rfl
theorem exec_sm4ks (o x s) : exec (.sm4ks o x) s = execSm4ks o x s := rfl
theorem exec_cntlz (o x s) : exec (.cntlz o x) s = execCntlz o x s := rfl
theorem exec_cntlo (o x s) : exec (.cntlo o x) s = execCntlo o x s := rfl
theorem exec_cntpop (o x s) : exec (.cntpop o x) s = execCntpop o x s := rfl
theorem exec_abs (o x s) : exec (.abs o x) s = execAbs o x s := rfl
theorem exec_sqrt (o x s) : exec (.sqrt o x) s = execSqrt o x s := rfl
theorem exec_revbit (o x s) : exec (.revbit o x) s = execRevbit o x s := rfl
theorem exec_sm3p0 (o x s) : exec (.sm3p0 o x) s = execSm3p0 o x s := rfl
theorem exec_sm3p1 (o x s) : exec (.sm3p1 o x) s = execSm3p1 o x s := rfl
theorem exec_aes64ds (o x s) : exec (.aes64ds o x) s = execAes64ds o x s := rfl
theorem exec_aes64dsm (o x s) : exec (.aes64dsm o x) s = execAes64dsm o x s := rfl
theorem exec_aes64es (o x s) : exec (.aes64es o x) s = execAes64es o x s := rfl
theorem exec_aes64esm (o x s) : exec (.aes64esm o x) s = execAes64esm o x s := rfl
theorem exec_aes64im (w x s) : exec (.aes64im w x) s = execAes64im w x s := rfl
theorem exec_sha256sig0 (o x s) : exec (.sha256sig0 o x) s = execSha256sig0 o x s := rfl
theorem exec_sha256sig1 (o x s) : exec (.sha256sig1 o x) s = execSha256sig1 o x s := rfl
theorem exec_sha256sum0 (o x s) : exec (.sha256sum0 o x) s = execSha256sum0 o x s := rfl
theorem exec_sha256sum1 (o x s) : exec (.sha256sum1 o x) s = execSha256sum1 o x s := rfl
theorem exec_sha512sig0 (o x s) : exec (.sha512sig0 o x) s = execSha512sig0 o x s := rfl
theorem exec_sha512sig1 (o x s) : exec (.sha512sig1 o x) s = execSha512sig1 o x s := rfl
theorem exec_sha512sum0 (o x s) : exec (.sha512sum0 o x) s = execSha512sum0 o x s := rfl
theorem exec_sha512sum1 (o x s) : exec (.sha512sum1 o x) s = execSha512sum1 o x s := rfl
theorem exec_csrrd (o x s) : exec (.csrrd o x) s = execCsrrd o x s := rfl
theorem exec_csrrdImm (o x s) : exec (.csrrdImm o x) s = execCsrrdImm o x s := rfl
theorem exec_csrwr (o x s) : exec (.csrwr o x) s = execCsrwr o x s := rfl
theorem exec_csrwrImm (o x s) : exec (.csrwrImm o x) s = execCsrwrImm o x s := rfl
theorem exec_csrrs (o x s) : exec (.csrrs o x) s = execCsrrs o x s := rfl
theorem exec_csrrsImm (o x s) : exec (.csrrsImm o x) s = execCsrrsImm o x s := rfl
theorem exec_csrrc (o x s) : exec (.csrrc o x) s = execCsrrc o x s := rfl
theorem exec_csrrcImm (o x s) : exec (.csrrcImm o x) s = execCsrrcImm o x s := rfl
theorem exec_csreor (o x s) : exec (.csreor o x) s = execCsreor o x s := rfl
theorem exec_csreorImm (o x s) : exec (.csreorImm o x) s = execCsreorImm o x s := rfl
theorem exec_cpuid (o x s) : exec (.cpuid o x) s = execCpuid o x s := rfl
theorem exec_cpuidImm (o x s) : exec (.cpuidImm o x) s = execCpuidImm o x s := rfl
theorem exec_getvl (o x s) : exec (.getvl o x) s = execGetvl o x s := rfl
theorem exec_setvl (o x s) : exec (.setvl o x) s = execSetvl o x s := rfl
theorem exec_setvlImm (o x s) : exec (.setvlImm o x) s = execSetvlImm o x s := rfl
theorem exec_addi (o x s) : exec (.addi o x) s = execAddi o x s := rfl
theorem exec_rtdImm (o t s) : exec (.rtdImm o t) s = execRtdImm o t s := rfl
theorem exec_rtsImm (o t s) : exec (.rtsImm o t) s = execRtsImm o t s := rfl
theorem exec_rte1 (o t s) : exec (.rte1 o t) s = execRte1 o t s := rfl
theorem exec_rte2 (o t s) : exec (.rte2 o t) s = execRte2 o t s := rfl
theorem exec_cmpi (o x s) : exec (.cmpi o x) s = execCmpi o x s := rfl
theorem exec_muli (o x s) : exec (.muli o x) s = execMuli o x s := rfl
theorem exec_mului (o x s) : exec (.mului o x) s = execMului o x s := rfl
theorem exec_divi (o x s) : exec (.divi o x) s = execDivi o x s := rfl
theorem exec_andi (o x s) : exec (.andi o x) s = execAndi o x s := rfl
theorem exec_nandi (o x s) : exec (.nandi o x) s = execNandi o x s := rfl
theorem exec_ori (o x s) : exec (.ori o x) s = execOri o x s := rfl
theorem exec_nori (o x s) : exec (.nori o x) s = execNori o x s := rfl
theorem exec_orf (o x s) : exec (.orf o x) s = execOrf o x s := rfl
theorem exec_eori (o x s) : exec (.eori o x) s = execEori o x s := rfl
theorem exec_enori (o x s) : exec (.enori o x) s = execEnori o x s := rfl
theorem exec_chk (o x s) : exec (.chk o x) s = execChk o x s := rfl
theorem exec_chki (o x s) : exec (.chki o x) s = execChki o x s := rfl
theorem exec_bmapImm (o x s) : exec (.bmapImm o x) s = execBmapImm o x s := rfl
theorem exec_fscaleb (o x s) : exec (.fscaleb o x) s = execFscaleb o x s := rfl
theorem exec_fscalebImm (o x s) : exec (.fscalebImm o x) s = execFscalebImm o x s := rfl
theorem exec_fadd (o x s) : exec (.fadd o x) s = execFadd o x s := rfl
theorem exec_fsub (o x s) : exec (.fsub o x) s = execFsub o x s := rfl
theorem exec_fcmp (o x s) : exec (.fcmp o x) s = execFcmp o x s := rfl
theorem exec_fmul (o x s) : exec (.fmul o x) s = execFmul o x s := rfl
theorem exec_fdiv (o x s) : exec (.fdiv o x) s = execFdiv o x s := rfl
theorem exec_fseq (o x s) : exec (.fseq o x) s = execFseq o x s := rfl
theorem exec_fsne (o x s) : exec (.fsne o x) s = execFsne o x s := rfl
theorem exec_fsle (o x s) : exec (.fsle o x) s = execFsle o x s := rfl
theorem exec_fslt (o x s) : exec (.fslt o x) s = execFslt o x s := rfl
theorem exec_fsge (o x s) : exec (.fsge o x) s = execFsge o x s := rfl
theorem exec_fsgt (o x s) : exec (.fsgt o x) s = execFsgt o x s := rfl
theorem exec_fmin (w x s) : exec (.fmin w x) s = execFmin w x s := rfl
theorem exec_fmax (w x s) : exec (.fmax w x) s = execFmax w x s := rfl
theorem exec_fnxt (w x s) : exec (.fnxt w x) s = execFnxt w x s := rfl
theorem exec_frem (w x s) : exec (.frem w x) s = execFrem w x s := rfl
theorem exec_ftrunc (o x s) : exec (.ftrunc o x) s = execFtrunc o x s := rfl
theorem exec_fabs (o x s) : exec (.fabs o x) s = execFabs o x s := rfl
theorem exec_fneg (o x s) : exec (.fneg o x) s = execFneg o x s := rfl
theorem exec_ftoi (w x s) : exec (.ftoi w x) s = execFtoi w x s := rfl
theorem exec_itof (w x s) : exec (.itof w x) s = execItof w x s := rfl
theorem exec_fsign (w x s) : exec (.fsign w x) s = execFsign w x s := rfl
theorem exec_fsig (w x s) : exec (.fsig w x) s = execFsig w x s := rfl
theorem exec_fsqrt (w x s) : exec (.fsqrt w x) s = execFsqrt w x s := rfl
theorem exec_fs2d (w x s) : exec (.fs2d w x) s = execFs2d w x s := rfl
theorem exec_fs2q (w x s) : exec (.fs2q w x) s = execFs2q w x s := rfl
theorem exec_fd2q (w x s) : exec (.fd2q w x) s = execFd2q w x s := rfl
theorem exec_isnan (w x s) : exec (.isnan w x) s = execIsnan w x s := rfl
theorem exec_finite (w x s) : exec (.finite w x) s = execFinite w x s := rfl
theorem exec_fres (w x s) : exec (.fres w x) s = execFres w x s := rfl
theorem exec_fd2s (w x s) : exec (.fd2s w x) s = execFd2s w x s := rfl
theorem exec_fq2s (w x s) : exec (.fq2s w x) s = execFq2s w x s := rfl
theorem exec_fq2d (w x s) : exec (.fq2d w x) s = execFq2d w x s := rfl
theorem exec_fclass (w x s) : exec (.fclass w x) s = execFclass w x s := rfl
theorem exec_fma (w t s) : exec (.fma w t) s = execFma w t s := rfl
theorem exec_faddi (o x s) : exec (.faddi o x) s = execFaddi o x s := rfl
theorem exec_fcmpi (o x s) : exec (.fcmpi o x) s = execFcmpi o x s := rfl
theorem exec_fmuli (o x s) : exec (.fmuli o x) s = execFmuli o x s := rfl
theorem exec_fdivi (o x s) : exec (.fdivi o x) s = execFdivi o x s := rfl
theorem exec_clr (o x s) : exec (.clr o x) s = execClr o x s := rfl
theorem exec_clrImm (o x s) : exec (.clrImm o x) s = execClrImm o x s := rfl
theorem exec_set (o x s) : exec (.set o x) s = execSet o x s := rfl
theorem exec_setImm (o x s) : exec (.setImm o x) s = execSetImm o x s := rfl
theorem exec_com (o x s) : exec (.com o x) s = execCom o x s := rfl
theorem exec_comImm (o x s) : exec (.comImm o x) s = execComImm o x s := rfl
theorem exec_sbx (o x s) : exec (.sbx o x) s = execSbx o x s := rfl
theorem exec_sbxImm (o x s) : exec (.sbxImm o x) s = execSbxImm o x s := rfl
theorem exec_extu (o x s) : exec (.extu o x) s = execExtu o x s := rfl
theorem exec_extuImm (o x s) : exec (.extuImm o x) s = execExtuImm o x s := rfl
theorem exec_exts (o x s) : exec (.exts o x) s = execExts o x s := rfl
theorem exec_extsImm (o x s) : exec (.extsImm o x) s = execExtsImm o x s := rfl
theorem exec_dep (o x s) : exec (.dep o x) s = execDep o x s := rfl
theorem exec_depImm (o x s) : exec (.depImm o x) s = execDepImm o x s := rfl
theorem exec_bitrr (w x s) : exec (.bitrr w x) s = execBitrr w x s := rfl
theorem exec_asl (o x s) : exec (.asl o x) s = execAsl o x s := rfl
theorem exec_aslImm (o x s) : exec (.aslImm o x) s = execAslImm o x s := rfl
theorem exec_asr (o x s) : exec (.asr o x) s = execAsr o x s := rfl
theorem exec_asrImm (o x s) : exec (.asrImm o x) s = execAsrImm o x s := rfl
theorem exec_lsl (o x s) : exec (.lsl o x) s = execLsl o x s := rfl
theorem exec_lslImm (o x s) : exec (.lslImm o x) s = execLslImm o x s := rfl
theorem exec_lsland (o x s) : exec (.lsland o x) s = execLsland o x s := rfl
theorem exec_lslandImm (o x s) : exec (.lslandImm o x) s = execLslandImm o x s := rfl
theorem exec_lslor (o x s) : exec (.lslor o x) s = execLslor o x s := rfl
theorem exec_lslorImm (o x s) : exec (.lslorImm o x) s = execLslorImm o x s := rfl
theorem exec_lslxor (o x s) : exec (.lslxor o x) s = execLslxor o x s := rfl
theorem exec_lslxorImm (o x s) : exec (.lslxorImm o x) s = execLslxorImm o x s := rfl
theorem exec_lsr (o x s) : exec (.lsr o x) s = execLsr o x s := rfl
theorem exec_lsrImm (o x s) : exec (.lsrImm o x) s = execLsrImm o x s := rfl
theorem exec_rol (o x s) : exec (.rol o x) s = execRol o x s := rfl
theorem exec_rolImm (o x s) : exec (.rolImm o x) s = execRolImm o x s := rfl
theorem exec_ror (o x s) : exec (.ror o x) s = execRor o x s := rfl
theorem exec_rorImm (o x s) : exec (.rorImm o x) s = execRorImm o x s := rfl
theorem exec_vshlv (o x s) : exec (.vshlv o x) s = execVshlv o x s := rfl
theorem exec_vshrv (o x s) : exec (.vshrv o x) s = execVshrv o x s := rfl
theorem exec_vshlvi (o x s) : exec (.vshlvi o x) s = execVshlvi o x s := rfl
theorem exec_vshrvi (o x s) : exec (.vshrvi o x) s = execVshrvi o x s := rfl
theorem exec_load (z o x s) : exec (.load z o x) s = execLoad z o x s := rfl
theorem exec_loadX (z o x s) : exec (.loadX z o x) s = execLoadX z o x s := rfl
theorem exec_loadg (o m t s) : exec (.loadg o m t) s = execLoadg o m t s := rfl
theorem exec_loadgX (o m t s) : exec (.loadgX o m t) s = execLoadgX o m t s := rfl
theorem exec_fload (p o x s) : exec (.fload p o x) s = execFload p o x s := rfl
theorem exec_floadX (p o x s) : exec (.floadX p o x) s = execFloadX p o x s := rfl
theorem exec_loadz (z o x s) : exec (.loadz z o x) s = execLoadz z o x s := rfl
theorem exec_loadzX (z o x s) : exec (.loadzX z o x) s = execLoadzX z o x s := rfl
theorem exec_la (o x s) : exec (.la o x) s = execLa o x s := rfl
theorem exec_laX (o x s) : exec (.laX o x) s = execLaX o x s := rfl
theorem exec_stptrT (o x s) : exec (.stptrT o x) s = execStptrT o x s := rfl
theorem exec_stptrTX (o x s) : exec (.stptrTX o x) s = execStptrTX o x s := rfl
theorem exec_stptrO (o x s) : exec (.stptrO o x) s = execStptrO o x s := rfl
theorem exec_stptrOX (o x s) : exec (.stptrOX o x) s = execStptrOX o x s := rfl
theorem exec_stptrH (o x s) : exec (.stptrH o x) s = execStptrH o x s := rfl
theorem exec_stptrHX (o x s) : exec (.stptrHX o x) s = execStptrHX o x s := rfl
theorem exec_cache (o x s) : exec (.cache o x) s = execCache o x s := rfl
theorem exec_cacheX (o x s) : exec (.cacheX o x) s = execCacheX o x s := rfl
theorem exec_store (z o x s) : exec (.store z o x) s = execStore z o x s := rfl
theorem exec_storeX (z o x s) : exec (.storeX z o x) s = execStoreX z o x s := rfl
theorem exec_storeg (o m t s) : exec (.storeg o m t) s = execStoreg o m t s := rfl
theorem exec_storegX (o m t s) : exec (.storegX o m t) s = execStoregX o m t s := rfl
theorem exec_fstore (p o x s) : exec (.fstore p o x) s = execFstore p o x s := rfl
theorem exec_fstoreX (p o x s) : exec (.fstoreX p o x) s = execFstoreX p o x s := rfl
theorem exec_jmp (o t s) : exec (.jmp o t) s = execJmp o t s := rfl
theorem exec_jmpInd (o t s) : exec (.jmpInd o t) s = execJmpInd o t s := rfl
theorem exec_jsr (o t s) : exec (.jsr o t) s = execJsr o t s := rfl
theorem exec_jsrInd (o t s) : exec (.jsrInd o t) s = execJsrInd o t s := rfl
theorem exec_braTable (o t s) : exec (.braTable o t) s = execBraTable o t s := rfl
theorem exec_bsrTable (o t s) : exec (.bsrTable o t) s = execBsrTable o t s := rfl
theorem exec_cmpxchg (o x s) : exec (.cmpxchg o x) s = execCmpxchg o x s := rfl
theorem exec_storePair (o x s) : exec (.storePair o x) s = execStorePair o x s := rfl
theorem exec_ammin (o x s) : exec (.ammin o x) s = execAmmin o x s := rfl
theorem exec_amadd (o x s) : exec (.amadd o x) s = execAmadd o x s := rfl
theorem exec_amaddImm (o x s) : exec (.amaddImm o x) s = execAmaddImm o x s := rfl
theorem exec_amasl (o x s) : exec (.amasl o x) s = execAmasl o x s := rfl
theorem exec_amaslImm (o x s) : exec (.amaslImm o x) s = execAmaslImm o x s := rfl
theorem exec_amlsr (o x s) : exec (.amlsr o x) s = execAmlsr o x s := rfl
theorem exec_amlsrImm (o x s) : exec (.amlsrImm o x) s = execAmlsrImm o x s := rfl
theorem exec_amand (o x s) : exec (.amand o x) s = execAmand o x s := rfl
theorem exec_amandImm (o x s) : exec (.amandImm o x) s = execAmandImm o x s := rfl
theorem exec_amor (o x s) : exec (.amor o x) s = execAmor o x s := rfl
theorem exec_amorImm (o x s) : exec (.amorImm o x) s = execAmorImm o x s := rfl
theorem exec_ameor (o x s) : exec (.ameor o x) s = execAmeor o x s := rfl
theorem exec_ameorImm (o x s) : exec (.ameorImm o x) s = execAmeorImm o x s := rfl
theorem exec_amminu (o x s) : exec (.amminu o x) s = execAmminu o x s := rfl
theorem exec_amswap (w x s) : exec (.amswap w x) s = execAmswap w x s := rfl
theorem exec_ammax (w x s) : exec (.ammax w x) s = execAmmax w x s := rfl
theorem exec_ammaxu (w x s) : exec (.ammaxu w x) s = execAmmaxu w x s := rfl
theorem exec_amcas (w x s) : exec (.amcas w x) s = execAmcas w x s := rfl
theorem exec_amswapImm (w x s) : exec (.amswapImm w x) s = execAmswapImm w x s := rfl
theorem exec_amminImm (w x s) : exec (.amminImm w x) s = execAmminImm w x s := rfl
theorem exec_ammaxImm (w x s) : exec (.ammaxImm w x) s = execAmmaxImm w x s := rfl
theorem exec_amminuImm (w x s) : exec (.amminuImm w x) s = execAmminuImm w x s := rfl
theorem exec_ammaxuImm (w x s) : exec (.ammaxuImm w x) s = execAmmaxuImm w x s := rfl
theorem exec_amcasImm (w x s) : exec (.amcasImm w x) s = execAmcasImm w x s := rfl
theorem exec_bcmp (o x s) : exec (.bcmp o x) s = execBcmp o x s := rfl
theorem exec_bfnd (o x s) : exec (.bfnd o x) s = execBfnd o x s := rfl
theorem exec_bmov (o x s) : exec (.bmov o x) s = execBmov o x s := rfl
theorem exec_bset (o x s) : exec (.bset o x) s = execBset o x s := rfl
theorem exec_beq (o t s) : exec (.beq o t) s = execBeq o t s := rfl
theorem exec_bne (o t s) : exec (.bne o t) s = execBne o t s := rfl
theorem exec_blt (o t s) : exec (.blt o t) s = execBlt o t s := rfl
theorem exec_ble (o t s) : exec (.ble o t) s = execBle o t s := rfl
theorem exec_bge (o t s) : exec (.bge o t) s = execBge o t s := rfl
theorem exec_bgt (o t s) : exec (.bgt o t) s = execBgt o t s := rfl
theorem exec_bbc (o t s) : exec (.bbc o t) s = execBbc o t s := rfl
theorem exec_bbs (o t s) : exec (.bbs o t) s = execBbs o t s := rfl
theorem exec_bbcImm (o t s) : exec (.bbcImm o t) s = execBbcImm o t s := rfl
theorem exec_bbsImm (o t s) : exec (.bbsImm o t) s = execBbsImm o t s := rfl
theorem exec_bltu (o t s) : exec (.bltu o t) s = execBltu o t s := rfl
theorem exec_bleu (o t s) : exec (.bleu o t) s = execBleu o t s := rfl
theorem exec_bgeu (o t s) : exec (.bgeu o t) s = execBgeu o t s := rfl
theorem exec_bgtu (o t s) : exec (.bgtu o t) s = execBgtu o t s := rfl
theorem exec_fbeq (o t s) : exec (.fbeq o t) s = execFbeq o t s := rfl
theorem exec_fbne (o t s) : exec (.fbne o t) s = execFbne o t s := rfl
theorem exec_fbgt (o t s) : exec (.fbgt o t) s = execFbgt o t s := rfl
theorem exec_fbugt (o t s) : exec (.fbugt o t) s = execFbugt o t s := rfl
theorem exec_fbge (o t s) : exec (.fbge o t) s = execFbge o t s := rfl
theorem exec_fbuge (o t s) : exec (.fbuge o t) s = execFbuge o t s := rfl
theorem exec_fblt (o t s) : exec (.fblt o t) s = execFblt o t s := rfl
theorem exec_fbult (o t s) : exec (.fbult o t) s = execFbult o t s := rfl
theorem exec_fble (o t s) : exec (.fble o t) s = execFble o t s := rfl
theorem exec_fbule (o t s) : exec (.fbule o t) s = execFbule o t s := rfl
theorem exec_fbgl (o t s) : exec (.fbgl o t) s = execFbgl o t s := rfl
theorem exec_fbugl (o t s) : exec (.fbugl o t) s = execFbugl o t s := rfl
theorem exec_fbord (o t s) : exec (.fbord o t) s = execFbord o t s := rfl
theorem exec_fbun (o t s) : exec (.fbun o t) s = execFbun o t s := rfl
theorem exec_pbcc (o t s) : exec (.pbcc o t) s = execPbcc o t s := rfl
theorem exec_dfbcc (o t s) : exec (.dfbcc o t) s = execDfbcc o t s := rfl
theorem exec_bra (disp t s) : exec (.bra disp t) s = execBra disp t s := rfl
theorem exec_bsr (lr disp t s) : exec (.bsr lr disp t) s = execBsr lr disp t s := rfl
theorem exec_lbeq (o t s) : exec (.lbeq o t) s = execLbeq o t s := rfl
theorem exec_lbne (o t s) : exec (.lbne o t) s = execLbne o t s := rfl
theorem exec_lblt (o t s) : exec (.lblt o t) s = execLblt o t s := rfl
theorem exec_lble (o t s) : exec (.lble o t) s = execLble o t s := rfl
theorem exec_lbge (o t s) : exec (.lbge o t) s = execLbge o t s := rfl
theorem exec_lbgt (o t s) : exec (.lbgt o t) s = execLbgt o t s := rfl
theorem exec_lbbc (o t s) : exec (.lbbc o t) s = execLbbc o t s := rfl
theorem exec_lbbs (o t s) : exec (.lbbs o t) s = execLbbs o t s := rfl
theorem exec_lbbcImm (o t s) : exec (.lbbcImm o t) s = execLbbcImm o t s := rfl
theorem exec_lbbsImm (o t s) : exec (.lbbsImm o t) s = execLbbsImm o t s := rfl
theorem exec_lbltu (o t s) : exec (.lbltu o t) s = execLbltu o t s := rfl
theorem exec_lbleu (o t s) : exec (.lbleu o t) s = execLbleu o t s := rfl
theorem exec_lbgeu (o t s) : exec (.lbgeu o t) s = execLbgeu o t s := rfl
theorem exec_lbgtu (o t s) : exec (.lbgtu o t) s = execLbgtu o t s := rfl
theorem exec_lfbeq (o t s) : exec (.lfbeq o t) s = execLfbeq o t s := rfl
theorem exec_lfbne (o t s) : exec (.lfbne o t) s = execLfbne o t s := rfl
theorem exec_lfbgt (o t s) : exec (.lfbgt o t) s = execLfbgt o t s := rfl
theorem exec_lfbugt (o t s) : exec (.lfbugt o t) s = execLfbugt o t s := rfl
theorem exec_lfbge (o t s) : exec (.lfbge o t) s = execLfbge o t s := rfl
theorem exec_lfbuge (o t s) : exec (.lfbuge o t) s = execLfbuge o t s := rfl
theorem exec_lfblt (o t s) : exec (.lfblt o t) s = execLfblt o t s := rfl
theorem exec_lfbult (o t s) : exec (.lfbult o t) s = execLfbult o t s := rfl
theorem exec_lfble (o t s) : exec (.lfble o t) s = execLfble o t s := rfl
theorem exec_lfbule (o t s) : exec (.lfbule o t) s = execLfbule o t s := rfl
theorem exec_lfbgl (o t s) : exec (.lfbgl o t) s = execLfbgl o t s := rfl
theorem exec_lfbugl (o t s) : exec (.lfbugl o t) s = execLfbugl o t s := rfl
theorem exec_lfbord (o t s) : exec (.lfbord o t) s = execLfbord o t s := rfl
theorem exec_lfbun (o t s) : exec (.lfbun o t) s = execLfbun o t s := rfl
theorem exec_lpbcc (o t s) : exec (.lpbcc o t) s = execLpbcc o t s := rfl
theorem exec_ldfbcc (o t s) : exec (.ldfbcc o t) s = execLdfbcc o t s := rfl
theorem exec_lbra (disp t s) : exec (.lbra disp t) s = execLbra disp t s := rfl
theorem exec_lbsr (lr disp t s) : exec (.lbsr lr disp t) s = execLbsr lr disp t s := rfl
theorem exec_dbcc (o t s) : exec (.dbcc o t) s = execDbcc o t s := rfl
theorem exec_dbccFloat (o t s) : exec (.dbccFloat o t) s = execDbccFloat o t s := rfl
theorem exec_dbccPosit (o t s) : exec (.dbccPosit o t) s = execDbccPosit o t s := rfl
theorem exec_dbccDecimal (o t s) : exec (.dbccDecimal o t) s = execDbccDecimal o t s := rfl
theorem exec_pfx0 (imm s) : exec (.pfx0 imm) s = execPfx0 imm s := rfl
theorem exec_pfx1 (imm s) : exec (.pfx1 imm) s = execPfx1 imm s := rfl
theorem exec_pfx2 (imm s) : exec (.pfx2 imm) s = execPfx2 imm s := rfl
theorem exec_regs (list s) : exec (.regs list) s = execRegs list s := rfl
theorem exec_nop (t s) : exec (.nop t) s = execNop t s := rfl
theorem exec_vaddVV (o x s) : exec (.vaddVV o x) s = execVaddVV o x s := rfl
theorem exec_vaddVS (o x s) : exec (.vaddVS o x) s = execVaddVS o x s := rfl
theorem exec_vaddImm (o x s) : exec (.vaddImm o x) s = execVaddImm o x s := rfl
theorem exec_vandVV (o x s) : exec (.vandVV o x) s = execVandVV o x s := rfl
theorem exec_vandVS (o x s) : exec (.vandVS o x) s = execVandVS o x s := rfl
theorem exec_vandImm (o x s) : exec (.vandImm o x) s = execVandImm o x s := rfl

end Sys2Proof.Machine
end

