-- ==== Sys2Proof/Laws/Len.lean ====
section
/-! SUPPORT. The length of each instruction (30_encoding R203), in the form its meaning uses. -/

namespace Sys2Proof.Machine

/-- The length of a base word of 5 bytes with a mask byte and postfixes. -/
theorem len_ext (m : Option MaskByte) (t : Tail) : 5 + (m.map MaskByte.code).isSome.toNat + t.len = 5 + m.isSome.toNat + t.len := by
  cases m <;> rfl

/-- The same, where the sixth byte is a mask of members. -/
theorem len_group (m : Option (BitVec 8)) (t : Tail) :
    5 + (m.map BitVec.toNat).isSome.toNat + t.len = 5 + m.isSome.toNat + t.len := by
  cases m <;> rfl

theorem len_brk (t : Tail) : (Instr.brk t).len = 5 + t.len := rfl
theorem len_trapRa (o : TrapR) (t : Tail) : (Instr.trapRa o t).len = 5 + t.len := rfl
theorem len_trapImm (o : TrapI) (t : Tail) : (Instr.trapImm o t).len = 5 + t.len := rfl
theorem len_add (o : R2) (x : Ext) : (Instr.add o x).len = extLen x := len_ext x.mask x.tail
theorem len_sub (o : R2) (x : Ext) : (Instr.sub o x).len = extLen x := len_ext x.mask x.tail
theorem len_rtdReg (o : RtdR) (t : Tail) : (Instr.rtdReg o t).len = 5 + t.len := rfl
theorem len_rtsReg (o : RtdR) (t : Tail) : (Instr.rtsReg o t).len = 5 + t.len := rfl
theorem len_cmp (o : R2) (x : Ext) : (Instr.cmp o x).len = extLen x := len_ext x.mask x.tail
theorem len_cmpsB (o : R2) (x : Ext) : (Instr.cmpsB o x).len = extLen x := len_ext x.mask x.tail
theorem len_mul (o : R2) (x : Ext) : (Instr.mul o x).len = extLen x := len_ext x.mask x.tail
theorem len_mulu (o : R2) (x : Ext) : (Instr.mulu o x).len = extLen x := len_ext x.mask x.tail
theorem len_mulsu (o : R2) (x : Ext) : (Instr.mulsu o x).len = extLen x := len_ext x.mask x.tail
theorem len_div (o : R2) (x : Ext) : (Instr.div o x).len = extLen x := len_ext x.mask x.tail
theorem len_divu (o : R2) (x : Ext) : (Instr.divu o x).len = extLen x := len_ext x.mask x.tail
theorem len_divsu (o : R2) (x : Ext) : (Instr.divsu o x).len = extLen x := len_ext x.mask x.tail
theorem len_and (o : R2) (x : Ext) : (Instr.and o x).len = extLen x := len_ext x.mask x.tail
theorem len_nand (o : R2) (x : Ext) : (Instr.nand o x).len = extLen x := len_ext x.mask x.tail
theorem len_or (o : R2) (x : Ext) : (Instr.or o x).len = extLen x := len_ext x.mask x.tail
theorem len_nor (o : R2) (x : Ext) : (Instr.nor o x).len = extLen x := len_ext x.mask x.tail
theorem len_eor (o : R2) (x : Ext) : (Instr.eor o x).len = extLen x := len_ext x.mask x.tail
theorem len_enor (o : R2) (x : Ext) : (Instr.enor o x).len = extLen x := len_ext x.mask x.tail
theorem len_mulh (o : R2) (x : Ext) : (Instr.mulh o x).len = extLen x := len_ext x.mask x.tail
theorem len_muluh (o : R2) (x : Ext) : (Instr.muluh o x).len = extLen x := len_ext x.mask x.tail
theorem len_chrndx (o : R2) (x : Ext) : (Instr.chrndx o x).len = extLen x := len_ext x.mask x.tail
theorem len_chrndxImm (o : R2I) (x : Ext) : (Instr.chrndxImm o x).len = extLen x := len_ext x.mask x.tail
theorem len_clmul (o : R2) (x : Ext) : (Instr.clmul o x).len = extLen x := len_ext x.mask x.tail
theorem len_clmulImm (o : R2I) (x : Ext) : (Instr.clmulImm o x).len = extLen x := len_ext x.mask x.tail
theorem len_mod (o : R2) (x : Ext) : (Instr.mod o x).len = extLen x := len_ext x.mask x.tail
theorem len_modu (o : R2) (x : Ext) : (Instr.modu o x).len = extLen x := len_ext x.mask x.tail
theorem len_bmap (o : R2) (x : Ext) : (Instr.bmap o x).len = extLen x := len_ext x.mask x.tail
theorem len_jmpIdx (o : JmpC) (t : Tail) : (Instr.jmpIdx o t).len = 5 + t.len := rfl
theorem len_jmpIdxInd (o : JmpD) (t : Tail) : (Instr.jmpIdxInd o t).len = 5 + t.len := rfl
theorem len_jsrIdx (o : JmpC) (t : Tail) : (Instr.jsrIdx o t).len = 5 + t.len := rfl
theorem len_jsrIdxInd (o : JmpD) (t : Tail) : (Instr.jsrIdxInd o t).len = 5 + t.len := rfl
theorem len_seq (o : R2) (x : Ext) : (Instr.seq o x).len = extLen x := len_ext x.mask x.tail
theorem len_sne (o : R2) (x : Ext) : (Instr.sne o x).len = extLen x := len_ext x.mask x.tail
theorem len_slt (o : R2) (x : Ext) : (Instr.slt o x).len = extLen x := len_ext x.mask x.tail
theorem len_sge (o : R2) (x : Ext) : (Instr.sge o x).len = extLen x := len_ext x.mask x.tail
theorem len_sle (o : R2) (x : Ext) : (Instr.sle o x).len = extLen x := len_ext x.mask x.tail
theorem len_sgt (o : R2) (x : Ext) : (Instr.sgt o x).len = extLen x := len_ext x.mask x.tail
theorem len_sltu (o : R2) (x : Ext) : (Instr.sltu o x).len = extLen x := len_ext x.mask x.tail
theorem len_sgeu (o : R2) (x : Ext) : (Instr.sgeu o x).len = extLen x := len_ext x.mask x.tail
theorem len_sleu (o : R2) (x : Ext) : (Instr.sleu o x).len = extLen x := len_ext x.mask x.tail
theorem len_sgtu (o : R2) (x : Ext) : (Instr.sgtu o x).len = extLen x := len_ext x.mask x.tail
theorem len_pred (o : PredOp) (t : Tail) : (Instr.pred o t).len = 5 + t.len := rfl
theorem len_carry (o : CarryOp) (t : Tail) : (Instr.carry o t).len = 5 + t.len := rfl
theorem len_rep (o : RepOp) (t : Tail) : (Instr.rep o t).len = 5 + t.len := rfl
theorem len_atom (o : AtomOp) (t : Tail) : (Instr.atom o t).len = 5 + t.len := rfl
theorem len_round (imm : BitVec 24) (t : Tail) : (Instr.round imm t).len = 5 + t.len := rfl
theorem len_v2bits (o : R2) (x : Ext) : (Instr.v2bits o x).len = extLen x := len_ext x.mask x.tail
theorem len_dif (w : BitVec 40) (x : Ext) : (Instr.dif w x).len = extLen x := len_ext x.mask x.tail
theorem len_ptrdif (w : BitVec 40) (x : Ext) : (Instr.ptrdif w x).len = extLen x := len_ext x.mask x.tail
theorem len_revbitMap (w : BitVec 40) (x : Ext) : (Instr.revbitMap w x).len = extLen x := len_ext x.mask x.tail
theorem len_bits2v (w : BitVec 40) (x : Ext) : (Instr.bits2v w x).len = extLen x := len_ext x.mask x.tail
theorem len_vex (w : BitVec 40) (x : Ext) : (Instr.vex w x).len = extLen x := len_ext x.mask x.tail
theorem len_veins (w : BitVec 40) (x : Ext) : (Instr.veins w x).len = extLen x := len_ext x.mask x.tail
theorem len_vgndx (w : BitVec 40) (x : Ext) : (Instr.vgndx w x).len = extLen x := len_ext x.mask x.tail
theorem len_sgeuMap (w : BitVec 40) (x : Ext) : (Instr.sgeuMap w x).len = extLen x := len_ext x.mask x.tail
theorem len_sgtuMap (w : BitVec 40) (x : Ext) : (Instr.sgtuMap w x).len = extLen x := len_ext x.mask x.tail
theorem len_min (w : BitVec 40) (x : Ext) : (Instr.min w x).len = extLen x := len_ext x.mask x.tail
theorem len_max (w : BitVec 40) (x : Ext) : (Instr.max w x).len = extLen x := len_ext x.mask x.tail
theorem len_bmm (w : BitVec 40) (x : Ext) : (Instr.bmm w x).len = extLen x := len_ext x.mask x.tail
theorem len_mux (w : BitVec 40) (x : Ext) : (Instr.mux w x).len = extLen x := len_ext x.mask x.tail
theorem len_aes64ks1i (w : BitVec 40) (x : Ext) : (Instr.aes64ks1i w x).len = extLen x := len_ext x.mask x.tail
theorem len_aes64ks2 (w : BitVec 40) (x : Ext) : (Instr.aes64ks2 w x).len = extLen x := len_ext x.mask x.tail
theorem len_sm4ed (o : R2) (x : Ext) : (Instr.sm4ed o x).len = extLen x := len_ext x.mask x.tail
theorem len_sm4ks (o : R2) (x : Ext) : (Instr.sm4ks o x).len = extLen x := len_ext x.mask x.tail
theorem len_cntlz (o : R1) (x : Ext) : (Instr.cntlz o x).len = extLen x := len_ext x.mask x.tail
theorem len_cntlo (o : R1) (x : Ext) : (Instr.cntlo o x).len = extLen x := len_ext x.mask x.tail
theorem len_cntpop (o : R1) (x : Ext) : (Instr.cntpop o x).len = extLen x := len_ext x.mask x.tail
theorem len_abs (o : R1) (x : Ext) : (Instr.abs o x).len = extLen x := len_ext x.mask x.tail
theorem len_sqrt (o : R1) (x : Ext) : (Instr.sqrt o x).len = extLen x := len_ext x.mask x.tail
theorem len_revbit (o : R1) (x : Ext) : (Instr.revbit o x).len = extLen x := len_ext x.mask x.tail
theorem len_sm3p0 (o : R1) (x : Ext) : (Instr.sm3p0 o x).len = extLen x := len_ext x.mask x.tail
theorem len_sm3p1 (o : R1) (x : Ext) : (Instr.sm3p1 o x).len = extLen x := len_ext x.mask x.tail
theorem len_aes64ds (o : R1) (x : Ext) : (Instr.aes64ds o x).len = extLen x := len_ext x.mask x.tail
theorem len_aes64dsm (o : R1) (x : Ext) : (Instr.aes64dsm o x).len = extLen x := len_ext x.mask x.tail
theorem len_aes64es (o : R1) (x : Ext) : (Instr.aes64es o x).len = extLen x := len_ext x.mask x.tail
theorem len_aes64esm (o : R1) (x : Ext) : (Instr.aes64esm o x).len = extLen x := len_ext x.mask x.tail
theorem len_aes64im (w : BitVec 40) (x : Ext) : (Instr.aes64im w x).len = extLen x := len_ext x.mask x.tail
theorem len_sha256sig0 (o : R1) (x : Ext) : (Instr.sha256sig0 o x).len = extLen x := len_ext x.mask x.tail
theorem len_sha256sig1 (o : R1) (x : Ext) : (Instr.sha256sig1 o x).len = extLen x := len_ext x.mask x.tail
theorem len_sha256sum0 (o : R1) (x : Ext) : (Instr.sha256sum0 o x).len = extLen x := len_ext x.mask x.tail
theorem len_sha256sum1 (o : R1) (x : Ext) : (Instr.sha256sum1 o x).len = extLen x := len_ext x.mask x.tail
theorem len_sha512sig0 (o : R1) (x : Ext) : (Instr.sha512sig0 o x).len = extLen x := len_ext x.mask x.tail
theorem len_sha512sig1 (o : R1) (x : Ext) : (Instr.sha512sig1 o x).len = extLen x := len_ext x.mask x.tail
theorem len_sha512sum0 (o : R1) (x : Ext) : (Instr.sha512sum0 o x).len = extLen x := len_ext x.mask x.tail
theorem len_sha512sum1 (o : R1) (x : Ext) : (Instr.sha512sum1 o x).len = extLen x := len_ext x.mask x.tail
theorem len_csrrd (o : CsrR) (x : Ext) : (Instr.csrrd o x).len = extLen x := len_ext x.mask x.tail
theorem len_csrrdImm (o : CsrI) (x : Ext) : (Instr.csrrdImm o x).len = extLen x := len_ext x.mask x.tail
theorem len_csrwr (o : CsrR) (x : Ext) : (Instr.csrwr o x).len = extLen x := len_ext x.mask x.tail
theorem len_csrwrImm (o : CsrI) (x : Ext) : (Instr.csrwrImm o x).len = extLen x := len_ext x.mask x.tail
theorem len_csrrs (o : CsrR) (x : Ext) : (Instr.csrrs o x).len = extLen x := len_ext x.mask x.tail
theorem len_csrrsImm (o : CsrI) (x : Ext) : (Instr.csrrsImm o x).len = extLen x := len_ext x.mask x.tail
theorem len_csrrc (o : CsrR) (x : Ext) : (Instr.csrrc o x).len = extLen x := len_ext x.mask x.tail
theorem len_csrrcImm (o : CsrI) (x : Ext) : (Instr.csrrcImm o x).len = extLen x := len_ext x.mask x.tail
theorem len_csreor (o : CsrR) (x : Ext) : (Instr.csreor o x).len = extLen x := len_ext x.mask x.tail
theorem len_csreorImm (o : CsrI) (x : Ext) : (Instr.csreorImm o x).len = extLen x := len_ext x.mask x.tail
theorem len_cpuid (o : CsrR) (x : Ext) : (Instr.cpuid o x).len = extLen x := len_ext x.mask x.tail
theorem len_cpuidImm (o : CsrI) (x : Ext) : (Instr.cpuidImm o x).len = extLen x := len_ext x.mask x.tail
theorem len_getvl (o : GetVl) (x : Ext) : (Instr.getvl o x).len = extLen x := len_ext x.mask x.tail
theorem len_setvl (o : CsrR) (x : Ext) : (Instr.setvl o x).len = extLen x := len_ext x.mask x.tail
theorem len_setvlImm (o : CsrI) (x : Ext) : (Instr.setvlImm o x).len = extLen x := len_ext x.mask x.tail
theorem len_addi (o : RI) (x : Ext) : (Instr.addi o x).len = extLen x := len_ext x.mask x.tail
theorem len_rtdImm (o : RtdI) (t : Tail) : (Instr.rtdImm o t).len = 5 + t.len := rfl
theorem len_rtsImm (o : RtdI) (t : Tail) : (Instr.rtsImm o t).len = 5 + t.len := rfl
theorem len_rte1 (o : RteOp) (t : Tail) : (Instr.rte1 o t).len = 5 + t.len := rfl
theorem len_rte2 (o : RteOp) (t : Tail) : (Instr.rte2 o t).len = 5 + t.len := rfl
theorem len_cmpi (o : RI) (x : Ext) : (Instr.cmpi o x).len = extLen x := len_ext x.mask x.tail
theorem len_muli (o : RI) (x : Ext) : (Instr.muli o x).len = extLen x := len_ext x.mask x.tail
theorem len_mului (o : RI) (x : Ext) : (Instr.mului o x).len = extLen x := len_ext x.mask x.tail
theorem len_divi (o : RI) (x : Ext) : (Instr.divi o x).len = extLen x := len_ext x.mask x.tail
theorem len_andi (o : RI) (x : Ext) : (Instr.andi o x).len = extLen x := len_ext x.mask x.tail
theorem len_nandi (o : RI) (x : Ext) : (Instr.nandi o x).len = extLen x := len_ext x.mask x.tail
theorem len_ori (o : RI) (x : Ext) : (Instr.ori o x).len = extLen x := len_ext x.mask x.tail
theorem len_nori (o : RI) (x : Ext) : (Instr.nori o x).len = extLen x := len_ext x.mask x.tail
theorem len_orf (o : RI) (x : Ext) : (Instr.orf o x).len = extLen x := len_ext x.mask x.tail
theorem len_eori (o : RI) (x : Ext) : (Instr.eori o x).len = extLen x := len_ext x.mask x.tail
theorem len_enori (o : RI) (x : Ext) : (Instr.enori o x).len = extLen x := len_ext x.mask x.tail
theorem len_chk (o : ChkR) (x : Ext) : (Instr.chk o x).len = extLen x := len_ext x.mask x.tail
theorem len_chki (o : ChkI) (x : Ext) : (Instr.chki o x).len = extLen x := len_ext x.mask x.tail
theorem len_bmapImm (o : RI) (x : Ext) : (Instr.bmapImm o x).len = extLen x := len_ext x.mask x.tail
theorem len_fscaleb (o : F2) (x : Ext) : (Instr.fscaleb o x).len = extLen x := len_ext x.mask x.tail
theorem len_fscalebImm (o : FScI) (x : Ext) : (Instr.fscalebImm o x).len = extLen x := len_ext x.mask x.tail
theorem len_fadd (o : F2) (x : Ext) : (Instr.fadd o x).len = extLen x := len_ext x.mask x.tail
theorem len_fsub (o : F2) (x : Ext) : (Instr.fsub o x).len = extLen x := len_ext x.mask x.tail
theorem len_fcmp (o : F2) (x : Ext) : (Instr.fcmp o x).len = extLen x := len_ext x.mask x.tail
theorem len_fmul (o : F2) (x : Ext) : (Instr.fmul o x).len = extLen x := len_ext x.mask x.tail
theorem len_fdiv (o : F2) (x : Ext) : (Instr.fdiv o x).len = extLen x := len_ext x.mask x.tail
theorem len_fseq (o : F2) (x : Ext) : (Instr.fseq o x).len = extLen x := len_ext x.mask x.tail
theorem len_fsne (o : F2) (x : Ext) : (Instr.fsne o x).len = extLen x := len_ext x.mask x.tail
theorem len_fsle (o : F2) (x : Ext) : (Instr.fsle o x).len = extLen x := len_ext x.mask x.tail
theorem len_fslt (o : F2) (x : Ext) : (Instr.fslt o x).len = extLen x := len_ext x.mask x.tail
theorem len_fsge (o : F2) (x : Ext) : (Instr.fsge o x).len = extLen x := len_ext x.mask x.tail
theorem len_fsgt (o : F2) (x : Ext) : (Instr.fsgt o x).len = extLen x := len_ext x.mask x.tail
theorem len_fmin (w : BitVec 40) (x : Ext) : (Instr.fmin w x).len = extLen x := len_ext x.mask x.tail
theorem len_fmax (w : BitVec 40) (x : Ext) : (Instr.fmax w x).len = extLen x := len_ext x.mask x.tail
theorem len_fnxt (w : BitVec 40) (x : Ext) : (Instr.fnxt w x).len = extLen x := len_ext x.mask x.tail
theorem len_frem (w : BitVec 40) (x : Ext) : (Instr.frem w x).len = extLen x := len_ext x.mask x.tail
theorem len_ftrunc (o : F1) (x : Ext) : (Instr.ftrunc o x).len = extLen x := len_ext x.mask x.tail
theorem len_fabs (o : F1) (x : Ext) : (Instr.fabs o x).len = extLen x := len_ext x.mask x.tail
theorem len_fneg (o : F1) (x : Ext) : (Instr.fneg o x).len = extLen x := len_ext x.mask x.tail
theorem len_ftoi (w : BitVec 40) (x : Ext) : (Instr.ftoi w x).len = extLen x := len_ext x.mask x.tail
theorem len_itof (w : BitVec 40) (x : Ext) : (Instr.itof w x).len = extLen x := len_ext x.mask x.tail
theorem len_fsign (w : BitVec 40) (x : Ext) : (Instr.fsign w x).len = extLen x := len_ext x.mask x.tail
theorem len_fsig (w : BitVec 40) (x : Ext) : (Instr.fsig w x).len = extLen x := len_ext x.mask x.tail
theorem len_fsqrt (w : BitVec 40) (x : Ext) : (Instr.fsqrt w x).len = extLen x := len_ext x.mask x.tail
theorem len_fs2d (w : BitVec 40) (x : Ext) : (Instr.fs2d w x).len = extLen x := len_ext x.mask x.tail
theorem len_fs2q (w : BitVec 40) (x : Ext) : (Instr.fs2q w x).len = extLen x := len_ext x.mask x.tail
theorem len_fd2q (w : BitVec 40) (x : Ext) : (Instr.fd2q w x).len = extLen x := len_ext x.mask x.tail
theorem len_isnan (w : BitVec 40) (x : Ext) : (Instr.isnan w x).len = extLen x := len_ext x.mask x.tail
theorem len_finite (w : BitVec 40) (x : Ext) : (Instr.finite w x).len = extLen x := len_ext x.mask x.tail
theorem len_fres (w : BitVec 40) (x : Ext) : (Instr.fres w x).len = extLen x := len_ext x.mask x.tail
theorem len_fd2s (w : BitVec 40) (x : Ext) : (Instr.fd2s w x).len = extLen x := len_ext x.mask x.tail
theorem len_fq2s (w : BitVec 40) (x : Ext) : (Instr.fq2s w x).len = extLen x := len_ext x.mask x.tail
theorem len_fq2d (w : BitVec 40) (x : Ext) : (Instr.fq2d w x).len = extLen x := len_ext x.mask x.tail
theorem len_fclass (w : BitVec 40) (x : Ext) : (Instr.fclass w x).len = extLen x := len_ext x.mask x.tail
theorem len_fma (w : BitVec 40) (t : Tail) : (Instr.fma w t).len = 5 + t.len := rfl
theorem len_faddi (o : FI) (x : Ext) : (Instr.faddi o x).len = extLen x := len_ext x.mask x.tail
theorem len_fcmpi (o : FI) (x : Ext) : (Instr.fcmpi o x).len = extLen x := len_ext x.mask x.tail
theorem len_fmuli (o : FI) (x : Ext) : (Instr.fmuli o x).len = extLen x := len_ext x.mask x.tail
theorem len_fdivi (o : FI) (x : Ext) : (Instr.fdivi o x).len = extLen x := len_ext x.mask x.tail
theorem len_clr (o : BitR) (x : Ext) : (Instr.clr o x).len = extLen x := len_ext x.mask x.tail
theorem len_clrImm (o : BitI) (x : Ext) : (Instr.clrImm o x).len = extLen x := len_ext x.mask x.tail
theorem len_set (o : BitR) (x : Ext) : (Instr.set o x).len = extLen x := len_ext x.mask x.tail
theorem len_setImm (o : BitI) (x : Ext) : (Instr.setImm o x).len = extLen x := len_ext x.mask x.tail
theorem len_com (o : BitR) (x : Ext) : (Instr.com o x).len = extLen x := len_ext x.mask x.tail
theorem len_comImm (o : BitI) (x : Ext) : (Instr.comImm o x).len = extLen x := len_ext x.mask x.tail
theorem len_sbx (o : BitR) (x : Ext) : (Instr.sbx o x).len = extLen x := len_ext x.mask x.tail
theorem len_sbxImm (o : BitI) (x : Ext) : (Instr.sbxImm o x).len = extLen x := len_ext x.mask x.tail
theorem len_extu (o : BitR) (x : Ext) : (Instr.extu o x).len = extLen x := len_ext x.mask x.tail
theorem len_extuImm (o : BitI) (x : Ext) : (Instr.extuImm o x).len = extLen x := len_ext x.mask x.tail
theorem len_exts (o : BitR) (x : Ext) : (Instr.exts o x).len = extLen x := len_ext x.mask x.tail
theorem len_extsImm (o : BitI) (x : Ext) : (Instr.extsImm o x).len = extLen x := len_ext x.mask x.tail
theorem len_dep (o : BitR) (x : Ext) : (Instr.dep o x).len = extLen x := len_ext x.mask x.tail
theorem len_depImm (o : BitI) (x : Ext) : (Instr.depImm o x).len = extLen x := len_ext x.mask x.tail
theorem len_bitrr (w : BitVec 40) (x : Ext) : (Instr.bitrr w x).len = extLen x := len_ext x.mask x.tail
theorem len_asl (o : R2) (x : Ext) : (Instr.asl o x).len = extLen x := len_ext x.mask x.tail
theorem len_aslImm (o : ShI) (x : Ext) : (Instr.aslImm o x).len = extLen x := len_ext x.mask x.tail
theorem len_asr (o : R2) (x : Ext) : (Instr.asr o x).len = extLen x := len_ext x.mask x.tail
theorem len_asrImm (o : ShI) (x : Ext) : (Instr.asrImm o x).len = extLen x := len_ext x.mask x.tail
theorem len_lsl (o : R2) (x : Ext) : (Instr.lsl o x).len = extLen x := len_ext x.mask x.tail
theorem len_lslImm (o : ShI) (x : Ext) : (Instr.lslImm o x).len = extLen x := len_ext x.mask x.tail
theorem len_lsland (o : R2) (x : Ext) : (Instr.lsland o x).len = extLen x := len_ext x.mask x.tail
theorem len_lslandImm (o : ShI) (x : Ext) : (Instr.lslandImm o x).len = extLen x := len_ext x.mask x.tail
theorem len_lslor (o : R2) (x : Ext) : (Instr.lslor o x).len = extLen x := len_ext x.mask x.tail
theorem len_lslorImm (o : ShI) (x : Ext) : (Instr.lslorImm o x).len = extLen x := len_ext x.mask x.tail
theorem len_lslxor (o : R2) (x : Ext) : (Instr.lslxor o x).len = extLen x := len_ext x.mask x.tail
theorem len_lslxorImm (o : ShI) (x : Ext) : (Instr.lslxorImm o x).len = extLen x := len_ext x.mask x.tail
theorem len_lsr (o : R2) (x : Ext) : (Instr.lsr o x).len = extLen x := len_ext x.mask x.tail
theorem len_lsrImm (o : ShI) (x : Ext) : (Instr.lsrImm o x).len = extLen x := len_ext x.mask x.tail
theorem len_rol (o : R2) (x : Ext) : (Instr.rol o x).len = extLen x := len_ext x.mask x.tail
theorem len_rolImm (o : ShI) (x : Ext) : (Instr.rolImm o x).len = extLen x := len_ext x.mask x.tail
theorem len_ror (o : R2) (x : Ext) : (Instr.ror o x).len = extLen x := len_ext x.mask x.tail
theorem len_rorImm (o : ShI) (x : Ext) : (Instr.rorImm o x).len = extLen x := len_ext x.mask x.tail
theorem len_vshlv (o : R2) (x : Ext) : (Instr.vshlv o x).len = extLen x := len_ext x.mask x.tail
theorem len_vshrv (o : R2) (x : Ext) : (Instr.vshrv o x).len = extLen x := len_ext x.mask x.tail
theorem len_vshlvi (o : VshI) (x : Ext) : (Instr.vshlvi o x).len = extLen x := len_ext x.mask x.tail
theorem len_vshrvi (o : VshI) (x : Ext) : (Instr.vshrvi o x).len = extLen x := len_ext x.mask x.tail
theorem len_load (z : Size) (o : MemD) (x : Ext) : (Instr.load z o x).len = extLen x := len_ext x.mask x.tail
theorem len_loadX (z : Size) (o : MemX) (x : Ext) : (Instr.loadX z o x).len = extLen x := len_ext x.mask x.tail
theorem len_loadg (o : MemD) (m : Option (BitVec 8)) (t : Tail) : (Instr.loadg o m t).len = 5 + m.isSome.toNat + t.len := len_group m t
theorem len_loadgX (o : MemX) (m : Option (BitVec 8)) (t : Tail) : (Instr.loadgX o m t).len = 5 + m.isSome.toNat + t.len := len_group m t
theorem len_fload (p : Prec) (o : MemD) (x : Ext) : (Instr.fload p o x).len = extLen x := len_ext x.mask x.tail
theorem len_floadX (p : Prec) (o : MemX) (x : Ext) : (Instr.floadX p o x).len = extLen x := len_ext x.mask x.tail
theorem len_loadz (z : Size) (o : MemD) (x : Ext) : (Instr.loadz z o x).len = extLen x := len_ext x.mask x.tail
theorem len_loadzX (z : Size) (o : MemX) (x : Ext) : (Instr.loadzX z o x).len = extLen x := len_ext x.mask x.tail
theorem len_la (o : MemD) (x : Ext) : (Instr.la o x).len = extLen x := len_ext x.mask x.tail
theorem len_laX (o : MemX) (x : Ext) : (Instr.laX o x).len = extLen x := len_ext x.mask x.tail
theorem len_stptrT (o : MemD) (x : Ext) : (Instr.stptrT o x).len = extLen x := len_ext x.mask x.tail
theorem len_stptrTX (o : MemX) (x : Ext) : (Instr.stptrTX o x).len = extLen x := len_ext x.mask x.tail
theorem len_stptrO (o : MemD) (x : Ext) : (Instr.stptrO o x).len = extLen x := len_ext x.mask x.tail
theorem len_stptrOX (o : MemX) (x : Ext) : (Instr.stptrOX o x).len = extLen x := len_ext x.mask x.tail
theorem len_stptrH (o : MemD) (x : Ext) : (Instr.stptrH o x).len = extLen x := len_ext x.mask x.tail
theorem len_stptrHX (o : MemX) (x : Ext) : (Instr.stptrHX o x).len = extLen x := len_ext x.mask x.tail
theorem len_cache (o : MemD) (x : Ext) : (Instr.cache o x).len = extLen x := len_ext x.mask x.tail
theorem len_cacheX (o : MemX) (x : Ext) : (Instr.cacheX o x).len = extLen x := len_ext x.mask x.tail
theorem len_store (z : Size) (o : MemD) (x : Ext) : (Instr.store z o x).len = extLen x := len_ext x.mask x.tail
theorem len_storeX (z : Size) (o : MemX) (x : Ext) : (Instr.storeX z o x).len = extLen x := len_ext x.mask x.tail
theorem len_storeg (o : MemD) (m : Option (BitVec 8)) (t : Tail) : (Instr.storeg o m t).len = 5 + m.isSome.toNat + t.len := len_group m t
theorem len_storegX (o : MemX) (m : Option (BitVec 8)) (t : Tail) : (Instr.storegX o m t).len = 5 + m.isSome.toNat + t.len := len_group m t
theorem len_fstore (p : Prec) (o : MemD) (x : Ext) : (Instr.fstore p o x).len = extLen x := len_ext x.mask x.tail
theorem len_fstoreX (p : Prec) (o : MemX) (x : Ext) : (Instr.fstoreX p o x).len = extLen x := len_ext x.mask x.tail
theorem len_jmp (o : JmpA) (t : Tail) : (Instr.jmp o t).len = 5 + t.len := rfl
theorem len_jmpInd (o : JmpB) (t : Tail) : (Instr.jmpInd o t).len = 5 + t.len := rfl
theorem len_jsr (o : JmpA) (t : Tail) : (Instr.jsr o t).len = 5 + t.len := rfl
theorem len_jsrInd (o : JmpB) (t : Tail) : (Instr.jsrInd o t).len = 5 + t.len := rfl
theorem len_braTable (o : TabJ) (t : Tail) : (Instr.braTable o t).len = 5 + t.len := rfl
theorem len_bsrTable (o : TabJ) (t : Tail) : (Instr.bsrTable o t).len = 5 + t.len := rfl
theorem len_cmpxchg (o : Xchg) (x : Ext) : (Instr.cmpxchg o x).len = extLen x := len_ext x.mask x.tail
theorem len_storePair (o : Pair) (x : Ext) : (Instr.storePair o x).len = extLen x := len_ext x.mask x.tail
theorem len_ammin (o : AmoR) (x : Ext) : (Instr.ammin o x).len = extLen x := len_ext x.mask x.tail
theorem len_amadd (o : AmoR) (x : Ext) : (Instr.amadd o x).len = extLen x := len_ext x.mask x.tail
theorem len_amaddImm (o : AmoI) (x : Ext) : (Instr.amaddImm o x).len = extLen x := len_ext x.mask x.tail
theorem len_amasl (o : AmoR) (x : Ext) : (Instr.amasl o x).len = extLen x := len_ext x.mask x.tail
theorem len_amaslImm (o : AmoI) (x : Ext) : (Instr.amaslImm o x).len = extLen x := len_ext x.mask x.tail
theorem len_amlsr (o : AmoR) (x : Ext) : (Instr.amlsr o x).len = extLen x := len_ext x.mask x.tail
theorem len_amlsrImm (o : AmoI) (x : Ext) : (Instr.amlsrImm o x).len = extLen x := len_ext x.mask x.tail
theorem len_amand (o : AmoR) (x : Ext) : (Instr.amand o x).len = extLen x := len_ext x.mask x.tail
theorem len_amandImm (o : AmoI) (x : Ext) : (Instr.amandImm o x).len = extLen x := len_ext x.mask x.tail
theorem len_amor (o : AmoR) (x : Ext) : (Instr.amor o x).len = extLen x := len_ext x.mask x.tail
theorem len_amorImm (o : AmoI) (x : Ext) : (Instr.amorImm o x).len = extLen x := len_ext x.mask x.tail
theorem len_ameor (o : AmoR) (x : Ext) : (Instr.ameor o x).len = extLen x := len_ext x.mask x.tail
theorem len_ameorImm (o : AmoI) (x : Ext) : (Instr.ameorImm o x).len = extLen x := len_ext x.mask x.tail
theorem len_amminu (o : AmoR) (x : Ext) : (Instr.amminu o x).len = extLen x := len_ext x.mask x.tail
theorem len_amswap (w : BitVec 40) (x : Ext) : (Instr.amswap w x).len = extLen x := len_ext x.mask x.tail
theorem len_ammax (w : BitVec 40) (x : Ext) : (Instr.ammax w x).len = extLen x := len_ext x.mask x.tail
theorem len_ammaxu (w : BitVec 40) (x : Ext) : (Instr.ammaxu w x).len = extLen x := len_ext x.mask x.tail
theorem len_amcas (w : BitVec 40) (x : Ext) : (Instr.amcas w x).len = extLen x := len_ext x.mask x.tail
theorem len_amswapImm (w : BitVec 40) (x : Ext) : (Instr.amswapImm w x).len = extLen x := len_ext x.mask x.tail
theorem len_amminImm (w : BitVec 40) (x : Ext) : (Instr.amminImm w x).len = extLen x := len_ext x.mask x.tail
theorem len_ammaxImm (w : BitVec 40) (x : Ext) : (Instr.ammaxImm w x).len = extLen x := len_ext x.mask x.tail
theorem len_amminuImm (w : BitVec 40) (x : Ext) : (Instr.amminuImm w x).len = extLen x := len_ext x.mask x.tail
theorem len_ammaxuImm (w : BitVec 40) (x : Ext) : (Instr.ammaxuImm w x).len = extLen x := len_ext x.mask x.tail
theorem len_amcasImm (w : BitVec 40) (x : Ext) : (Instr.amcasImm w x).len = extLen x := len_ext x.mask x.tail
theorem len_bcmp (o : Blk) (x : Ext) : (Instr.bcmp o x).len = extLen x := len_ext x.mask x.tail
theorem len_bfnd (o : Blk) (x : Ext) : (Instr.bfnd o x).len = extLen x := len_ext x.mask x.tail
theorem len_bmov (o : Blk) (x : Ext) : (Instr.bmov o x).len = extLen x := len_ext x.mask x.tail
theorem len_bset (o : BSetOp) (x : Ext) : (Instr.bset o x).len = extLen x := len_ext x.mask x.tail
theorem len_beq (o : Br) (t : Tail) : (Instr.beq o t).len = 5 + t.len := rfl
theorem len_bne (o : Br) (t : Tail) : (Instr.bne o t).len = 5 + t.len := rfl
theorem len_blt (o : Br) (t : Tail) : (Instr.blt o t).len = 5 + t.len := rfl
theorem len_ble (o : Br) (t : Tail) : (Instr.ble o t).len = 5 + t.len := rfl
theorem len_bge (o : Br) (t : Tail) : (Instr.bge o t).len = 5 + t.len := rfl
theorem len_bgt (o : Br) (t : Tail) : (Instr.bgt o t).len = 5 + t.len := rfl
theorem len_bbc (o : Br) (t : Tail) : (Instr.bbc o t).len = 5 + t.len := rfl
theorem len_bbs (o : Br) (t : Tail) : (Instr.bbs o t).len = 5 + t.len := rfl
theorem len_bbcImm (o : Br) (t : Tail) : (Instr.bbcImm o t).len = 5 + t.len := rfl
theorem len_bbsImm (o : Br) (t : Tail) : (Instr.bbsImm o t).len = 5 + t.len := rfl
theorem len_bltu (o : Br) (t : Tail) : (Instr.bltu o t).len = 5 + t.len := rfl
theorem len_bleu (o : Br) (t : Tail) : (Instr.bleu o t).len = 5 + t.len := rfl
theorem len_bgeu (o : Br) (t : Tail) : (Instr.bgeu o t).len = 5 + t.len := rfl
theorem len_bgtu (o : Br) (t : Tail) : (Instr.bgtu o t).len = 5 + t.len := rfl
theorem len_fbeq (o : Br) (t : Tail) : (Instr.fbeq o t).len = 5 + t.len := rfl
theorem len_fbne (o : Br) (t : Tail) : (Instr.fbne o t).len = 5 + t.len := rfl
theorem len_fbgt (o : Br) (t : Tail) : (Instr.fbgt o t).len = 5 + t.len := rfl
theorem len_fbugt (o : Br) (t : Tail) : (Instr.fbugt o t).len = 5 + t.len := rfl
theorem len_fbge (o : Br) (t : Tail) : (Instr.fbge o t).len = 5 + t.len := rfl
theorem len_fbuge (o : Br) (t : Tail) : (Instr.fbuge o t).len = 5 + t.len := rfl
theorem len_fblt (o : Br) (t : Tail) : (Instr.fblt o t).len = 5 + t.len := rfl
theorem len_fbult (o : Br) (t : Tail) : (Instr.fbult o t).len = 5 + t.len := rfl
theorem len_fble (o : Br) (t : Tail) : (Instr.fble o t).len = 5 + t.len := rfl
theorem len_fbule (o : Br) (t : Tail) : (Instr.fbule o t).len = 5 + t.len := rfl
theorem len_fbgl (o : Br) (t : Tail) : (Instr.fbgl o t).len = 5 + t.len := rfl
theorem len_fbugl (o : Br) (t : Tail) : (Instr.fbugl o t).len = 5 + t.len := rfl
theorem len_fbord (o : Br) (t : Tail) : (Instr.fbord o t).len = 5 + t.len := rfl
theorem len_fbun (o : Br) (t : Tail) : (Instr.fbun o t).len = 5 + t.len := rfl
theorem len_pbcc (o : BrC) (t : Tail) : (Instr.pbcc o t).len = 5 + t.len := rfl
theorem len_dfbcc (o : BrC) (t : Tail) : (Instr.dfbcc o t).len = 5 + t.len := rfl
theorem len_bra (disp : BitVec 29) (t : Tail) : (Instr.bra disp t).len = 5 + t.len := rfl
theorem len_bsr (lr : BitVec 2) (disp : BitVec 29) (t : Tail) : (Instr.bsr lr disp t).len = 5 + t.len := rfl
theorem len_lbeq (o : LBr) (t : Tail) : (Instr.lbeq o t).len = 6 + t.len := rfl
theorem len_lbne (o : LBr) (t : Tail) : (Instr.lbne o t).len = 6 + t.len := rfl
theorem len_lblt (o : LBr) (t : Tail) : (Instr.lblt o t).len = 6 + t.len := rfl
theorem len_lble (o : LBr) (t : Tail) : (Instr.lble o t).len = 6 + t.len := rfl
theorem len_lbge (o : LBr) (t : Tail) : (Instr.lbge o t).len = 6 + t.len := rfl
theorem len_lbgt (o : LBr) (t : Tail) : (Instr.lbgt o t).len = 6 + t.len := rfl
theorem len_lbbc (o : LBr) (t : Tail) : (Instr.lbbc o t).len = 6 + t.len := rfl
theorem len_lbbs (o : LBr) (t : Tail) : (Instr.lbbs o t).len = 6 + t.len := rfl
theorem len_lbbcImm (o : LBr) (t : Tail) : (Instr.lbbcImm o t).len = 6 + t.len := rfl
theorem len_lbbsImm (o : LBr) (t : Tail) : (Instr.lbbsImm o t).len = 6 + t.len := rfl
theorem len_lbltu (o : LBr) (t : Tail) : (Instr.lbltu o t).len = 6 + t.len := rfl
theorem len_lbleu (o : LBr) (t : Tail) : (Instr.lbleu o t).len = 6 + t.len := rfl
theorem len_lbgeu (o : LBr) (t : Tail) : (Instr.lbgeu o t).len = 6 + t.len := rfl
theorem len_lbgtu (o : LBr) (t : Tail) : (Instr.lbgtu o t).len = 6 + t.len := rfl
theorem len_lfbeq (o : LBr) (t : Tail) : (Instr.lfbeq o t).len = 6 + t.len := rfl
theorem len_lfbne (o : LBr) (t : Tail) : (Instr.lfbne o t).len = 6 + t.len := rfl
theorem len_lfbgt (o : LBr) (t : Tail) : (Instr.lfbgt o t).len = 6 + t.len := rfl
theorem len_lfbugt (o : LBr) (t : Tail) : (Instr.lfbugt o t).len = 6 + t.len := rfl
theorem len_lfbge (o : LBr) (t : Tail) : (Instr.lfbge o t).len = 6 + t.len := rfl
theorem len_lfbuge (o : LBr) (t : Tail) : (Instr.lfbuge o t).len = 6 + t.len := rfl
theorem len_lfblt (o : LBr) (t : Tail) : (Instr.lfblt o t).len = 6 + t.len := rfl
theorem len_lfbult (o : LBr) (t : Tail) : (Instr.lfbult o t).len = 6 + t.len := rfl
theorem len_lfble (o : LBr) (t : Tail) : (Instr.lfble o t).len = 6 + t.len := rfl
theorem len_lfbule (o : LBr) (t : Tail) : (Instr.lfbule o t).len = 6 + t.len := rfl
theorem len_lfbgl (o : LBr) (t : Tail) : (Instr.lfbgl o t).len = 6 + t.len := rfl
theorem len_lfbugl (o : LBr) (t : Tail) : (Instr.lfbugl o t).len = 6 + t.len := rfl
theorem len_lfbord (o : LBr) (t : Tail) : (Instr.lfbord o t).len = 6 + t.len := rfl
theorem len_lfbun (o : LBr) (t : Tail) : (Instr.lfbun o t).len = 6 + t.len := rfl
theorem len_lpbcc (o : LBrC) (t : Tail) : (Instr.lpbcc o t).len = 6 + t.len := rfl
theorem len_ldfbcc (o : LBrC) (t : Tail) : (Instr.ldfbcc o t).len = 6 + t.len := rfl
theorem len_lbra (disp : BitVec 37) (t : Tail) : (Instr.lbra disp t).len = 6 + t.len := rfl
theorem len_lbsr (lr : BitVec 2) (disp : BitVec 37) (t : Tail) : (Instr.lbsr lr disp t).len = 6 + t.len := rfl
theorem len_dbcc (o : BrC) (t : Tail) : (Instr.dbcc o t).len = 5 + t.len := rfl
theorem len_dbccFloat (o : BrC) (t : Tail) : (Instr.dbccFloat o t).len = 5 + t.len := rfl
theorem len_dbccPosit (o : BrC) (t : Tail) : (Instr.dbccPosit o t).len = 5 + t.len := rfl
theorem len_dbccDecimal (o : BrC) (t : Tail) : (Instr.dbccDecimal o t).len = 5 + t.len := rfl
theorem len_pfx0 (imm : BitVec 32) : (Instr.pfx0 imm).len = 5 := rfl
theorem len_pfx1 (imm : BitVec 32) : (Instr.pfx1 imm).len = 5 := rfl
theorem len_pfx2 (imm : BitVec 32) : (Instr.pfx2 imm).len = 5 := rfl
theorem len_regs (list : BitVec 64) : (Instr.regs list).len = 9 := rfl
theorem len_nop (t : Tail) : (Instr.nop t).len = 5 + t.len := rfl
theorem len_vaddVV (o : R2) (x : Ext) : (Instr.vaddVV o x).len = extLen x := len_ext x.mask x.tail
theorem len_vaddVS (o : R2) (x : Ext) : (Instr.vaddVS o x).len = extLen x := len_ext x.mask x.tail
theorem len_vaddImm (o : RI) (x : Ext) : (Instr.vaddImm o x).len = extLen x := len_ext x.mask x.tail
theorem len_vandVV (o : R2) (x : Ext) : (Instr.vandVV o x).len = extLen x := len_ext x.mask x.tail
theorem len_vandVS (o : R2) (x : Ext) : (Instr.vandVS o x).len = extLen x := len_ext x.mask x.tail
theorem len_vandImm (o : RI) (x : Ext) : (Instr.vandImm o x).len = extLen x := len_ext x.mask x.tail

end Sys2Proof.Machine
end

