-- ==== Sys2Proof/Laws/Mmu.lean ====
section
/-! SUPPORT. What the operations over the TLB, the region table and the bytes behind a physical address do. The proofs about
translation, CACHE and the units cite these and unfold no list. -/

set_option Elab.async false

namespace Sys2Proof.Machine

/-! The entries of the TLB. -/

theorem find_tlbPut (k j : Nat) (e : TlbEntry) (l : List (Nat × TlbEntry)) :
    ((tlbPut k e l).find? fun c => c.1 == j) = if j = k then some (k, e) else l.find? fun c => c.1 == j := by
  induction l with
  | nil =>
    by_cases h : j = k
    · subst h; simp [tlbPut]
    · have hk : ¬k = j := fun e => h e.symm
      simp [tlbPut, h, hk]
  | cons c r ih =>
    obtain ⟨b, u⟩ := c
    unfold tlbPut
    by_cases hjk : j = k
    · subst hjk
      by_cases hlt : j < b
      · simp [hlt]
      · by_cases he : j = b
        · simp [he]
        · simp only [if_neg hlt, if_neg he]
          rw [List.find?_cons_of_neg (by simpa using fun h => he h.symm), ih]
          simp
    · by_cases hlt : k < b
      · rw [if_pos hlt, List.find?_cons_of_neg (by simpa using fun h => hjk h.symm), if_neg hjk]
      · by_cases he : k = b
        · subst he
          simp only [if_neg hlt, if_true, if_neg hjk]
          rw [List.find?_cons_of_neg (by simpa using fun h => hjk h.symm),
            List.find?_cons_of_neg (by simpa using fun h => hjk h.symm)]
        · simp only [if_neg hlt, if_neg he, if_neg hjk]
          by_cases hb : b = j
          · subst hb; simp
          · rw [List.find?_cons_of_neg (by simpa using hb), List.find?_cons_of_neg (by simpa using hb), ih, if_neg hjk]

/-- The entry put in a slot is what the slot holds, and every other slot is as it was. -/
theorem Tlb.get_put (t : Tlb) (k j : Nat) (e : TlbEntry) : (t.put k e).get j = if j = k then e else t.get j := by
  unfold Tlb.get Tlb.put
  simp only [find_tlbPut]
  by_cases h : j = k <;> simp [h]

/-- Every slot after the invalidation of all entries: the current count has moved on, and what it would make current again is
killed. -/
theorem Tlb.get_invalidate (t : Tlb) (j : Nat) :
    t.invalidate.get j = if (t.get j).count = t.count + 1 then killEntry (t.get j) else t.get j := by
  unfold Tlb.invalidate Tlb.get
  simp only [List.find?_map]
  have hf : ((fun c : Nat × TlbEntry => c.1 == j) ∘ fun c : Nat × TlbEntry =>
      (c.1, if c.2.count = t.count + 1 then killEntry c.2 else c.2)) = fun c => c.1 == j := rfl
  rw [hf]
  cases t.entries.find? fun c => c.1 == j with
  | none => simp [killEntry]
  | some c => rfl

theorem entryValid_kill (e : TlbEntry) : entryValid (killEntry e) = false := by
  simp [entryValid, killEntry, pteValid]

/-- The killed entries of a list of slots, and every other entry as it was. -/
theorem Tlb.get_killAll (va : Addr) (ways : List Nat) (t : Tlb) (j : Nat) :
    ((ways.foldl (fun t way => t.put (waySlot way va) (killEntry (t.get (waySlot way va)))) t).get j =
      if ∃ way, way ∈ ways ∧ j = waySlot way va then killEntry (t.get j) else t.get j) ∧
    ∃ es, (ways.foldl (fun t way => t.put (waySlot way va) (killEntry (t.get (waySlot way va)))) t) =
      { t with entries := es } := by
  induction ways generalizing t with
  | nil => exact ⟨by simp, t.entries, rfl⟩
  | cons w ws ih =>
    obtain ⟨h1, es, h2⟩ := ih (t.put (waySlot w va) (killEntry (t.get (waySlot w va))))
    refine ⟨?_, es, by rw [List.foldl_cons, h2]; rfl⟩
    rw [List.foldl_cons, h1, Tlb.get_put]
    by_cases hj : j = waySlot w va
    · subst hj
      have : killEntry (killEntry (t.get (waySlot w va))) = killEntry (t.get (waySlot w va)) := by
        simp only [killEntry, TlbEntry.mk.injEq, and_true]
        rw [BitVec.and_assoc, BitVec.and_self]
      simp [this]
    · simp [hj]

/-- The entry of a way that translates an address under the current address space. -/
theorem State.mem_hits {s : State} {va : Addr} {way : Nat} : way ∈ s.hits va ↔ way < 6 ∧ s.wayHits va way = true := by
  unfold State.hits
  rw [List.mem_filter]
  refine and_congr_left fun _ => ?_
  simp only [List.mem_cons, List.not_mem_nil, or_false]
  omega

/-- Where no valid entry has the current count, nothing hits. -/
theorem State.hits_eq_nil {s : State} {va : Addr}
    (h : ∀ way, entryValid (s.tlb.get (waySlot way va)) = false ∨ (s.tlb.get (waySlot way va)).count ≠ s.tlb.count) :
    s.hits va = [] := by
  rw [List.eq_nil_iff_forall_not_mem]
  intro way hw
  obtain ⟨-, hw⟩ := State.mem_hits.1 hw
  rcases h way with h | h <;> simp [State.wayHits, h] at hw

/-- After the invalidation of all entries nothing hits. -/
theorem State.hits_invalidate (s : State) (va : Addr) :
    State.hits { s with tlb := s.tlb.invalidate } va = [] := by
  apply State.hits_eq_nil
  intro way
  simp only [Tlb.get_invalidate]
  split
  · exact .inl (entryValid_kill _)
  · exact .inr ‹_›

/-- What the invalidation of one translation does: its entries are killed, nothing else changes, and nothing hits. -/
theorem State.tlbInvalidateEntry_spec (s : State) (va : Addr) :
    (∃ es, s.tlbInvalidateEntry va = { s with tlb := { s.tlb with entries := es } }) ∧
    (∀ j, (s.tlbInvalidateEntry va).tlb.get j =
      if ∃ way, way ∈ s.hits (s.virt va) ∧ j = waySlot way (s.virt va) then killEntry (s.tlb.get j) else s.tlb.get j) ∧
    (s.tlbInvalidateEntry va).hits (s.virt va) = [] := by
  have hk := fun j => (Tlb.get_killAll (s.virt va) (s.hits (s.virt va)) s.tlb j)
  have hg : ∀ j, (s.tlbInvalidateEntry va).tlb.get j =
      if ∃ way, way ∈ s.hits (s.virt va) ∧ j = waySlot way (s.virt va) then killEntry (s.tlb.get j) else s.tlb.get j :=
    fun j => (hk j).1
  obtain ⟨es, he⟩ := (hk 0).2
  refine ⟨⟨es, by simp [State.tlbInvalidateEntry, he]⟩, hg, ?_⟩
  rw [List.eq_nil_iff_forall_not_mem]
  intro way hw
  obtain ⟨h6, hw⟩ := State.mem_hits.1 hw
  have hc : (s.tlbInvalidateEntry va).tlb.count = s.tlb.count := by simp [State.tlbInvalidateEntry, he]
  have ha : (s.tlbInvalidateEntry va).asid = s.asid := rfl
  simp only [State.wayHits, hg, hc, ha] at hw
  split at hw
  · simp [entryValid_kill] at hw
  · rename_i hn
    exact hn ⟨way, State.mem_hits.2 ⟨h6, hw⟩, rfl⟩

/-! The bytes behind a physical address. -/

/-- A store of one byte keeps the canonical form, and changes memory, the region table and the stale bytes only. -/
theorem State.putPhys_spec (pa : Nat) (b : Byte) (s : State) :
    (Memory.wf s.mem = true → Memory.wf (s.putPhys pa b).mem = true) ∧
      ∃ r m st, s.putPhys pa b = { s with regions := r, mem := m, stale := st } := by
  unfold State.putPhys
  split
  · exact ⟨id, _, _, _, rfl⟩
  · exact ⟨fun h => Memory.wf_write _ _ h, _, _, _, rfl⟩

/-- A store of some bytes likewise. -/
theorem State.physWrite_spec (pa : Nat) (bs : List Byte) (s : State) :
    (Memory.wf s.mem = true → Memory.wf (s.physWrite pa bs).mem = true) ∧
      ∃ r m st, s.physWrite pa bs = { s with regions := r, mem := m, stale := st } := by
  induction bs generalizing pa s with
  | nil => exact ⟨id, _, _, _, rfl⟩
  | cons b bs ih =>
    obtain ⟨h1, r, m, st, h2⟩ := State.putPhys_spec pa b s
    obtain ⟨h3, r', m', st', h4⟩ := ih (pa + 1) (s.putPhys pa b)
    exact ⟨fun h => h3 (h1 h), r', m', st', by unfold State.physWrite; rw [h4, h2]⟩

/-! The walk. -/

/-- Without a walker nothing is found (20_memory R155). -/
theorem State.walk_absent {s : State} (h : s.params.walk = .absent) (asid : BitVec 12) (va : Addr) : s.walk asid va = none := by
  simp [State.walk, h]

/-- The search of the tables ends within as many tables as the level has, so more fuel finds the same. -/
theorem State.treeWalk_fuel (s : State) (t : WalkTables) (va : Addr) (level : Nat) :
    ∀ (fuel table : Nat), level < fuel → s.treeWalk t va fuel level table = s.treeWalk t va (level + 1) level table := by
  induction level using Nat.strong_induction_on with
  | _ level ih =>
    intro fuel table hf
    obtain ⟨n, rfl⟩ : ∃ n, fuel = n + 1 := ⟨fuel - 1, by omega⟩
    simp only [State.treeWalk]
    split
    · rfl
    · split
      · rfl
      · split
        · rename_i hl
          rw [ih _ hl n _ (by omega), ← ih _ hl level _ hl]
        · rfl

/-! The TLB after reset. -/

/-- A slot that none of the entries put in names is as it was. -/
theorem find_reset_unlisted (j : Nat) (p : List (Nat × BitVec 96 × BitVec 96)) :
    ∀ l : List (Nat × TlbEntry), (∀ e, e ∈ p → e.1 ≠ j) →
      ((p.foldl (fun l (k, pte, vpn) => tlbPut k ⟨pte, vpn, 0, 0, none⟩ l) l).find? fun c => c.1 == j) =
        l.find? fun c => c.1 == j := by
  induction p with
  | nil => intro l _; rfl
  | cons e r ih =>
    intro l h
    rw [List.foldl_cons, ih _ fun f hf => h f (List.mem_cons_of_mem _ hf), find_tlbPut,
      if_neg fun hj => h e List.mem_cons_self hj.symm]

/-- A slot that TLB_RESET does not name holds nothing (20_memory R154). -/
theorem Tlb.get_reset_unlisted {p : Params} {j : Nat} (h : ∀ e, e ∈ p.tlbReset → e.1 ≠ j) :
    (Tlb.reset p).get j = ⟨0, 0, 0, 0, none⟩ := by
  simp only [Tlb.get, Tlb.reset, find_reset_unlisted j p.tlbReset [] h, List.find?_nil]

/-- The last entry of TLB_RESET for a slot is what the slot holds (20_memory R154). -/
theorem Tlb.get_reset_listed {p : Params} {e : Nat × BitVec 96 × BitVec 96} {before after : List (Nat × BitVec 96 × BitVec 96)}
    (h : p.tlbReset = before ++ e :: after) (hl : ∀ f, f ∈ after → f.1 ≠ e.1) :
    (Tlb.reset p).get e.1 = ⟨e.2.1, e.2.2, 0, 0, none⟩ := by
  simp only [Tlb.get, Tlb.reset, h, List.foldl_append, List.foldl_cons, find_reset_unlisted e.1 after _ hl, find_tlbPut,
    if_true]

/-! What a read leaves. -/

/-- Two parts that answer: the first did, and the second, from what it left. -/
theorem Acc.bind_ok {α β : Type} {x : Acc α} {f : α → State → Acc β} {b : β} {t : State} (h : x.bind f = .ok b t) :
    ∃ a s, x = .ok a s ∧ f a s = .ok b t := by
  cases x with
  | ok a s => exact ⟨a, s, rfl, h⟩
  | trap _ _ => cases h
  | refuse _ => cases h

/-- A translation that answers changes the TLB and the count of values drawn only (20_memory R150, R155). -/
theorem locate_frame {k : Kind} {m : BitVec 2} {va : Addr} {n pa : Nat} {s t : State} (h : locate k m va n s = .ok pa t) :
    t = { s with tlb := t.tlb, draws := t.draws } := by
  have hit : ∀ {way : Nat} {u : State}, checkHit k m va n way u = .ok pa t → t = { u with tlb := t.tlb, draws := t.draws } := by
    intro way u hc
    simp only [checkHit, tlbMiss] at hc
    repeat' split at hc
    all_goals first
      | (injection hc with _ ht; rw [← ht])
      | cases hc
  unfold locate at h
  split at h
  · injection h with _ ht; rw [← ht]
  · split at h
    · exact hit h
    · cases h
    · split at h
      · cases h
      · split at h
        · cases h
        · simp only at h
          split at h
          · exact (hit h).trans rfl
          · cases h
          · cases h

/-- A read of the bus that answers changes nothing (20_memory R113, R114). -/
theorem busRead_frame {va : Addr} {pa n v : Nat} {s t : State} (h : busRead va pa n s = .ok v t) : t = s := by
  unfold busRead at h
  split at h
  · injection h with _ ht; exact ht.symm
  · injection h with _ ht; exact ht.symm
  · split at h
    · injection h with _ ht; exact ht.symm
    · cases h
  · cases h
  · cases h

/-- A piece of a read that answers changes the TLB and the count of values drawn only. -/
theorem readPiece_frame {k : Kind} {m : BitVec 2} {va : Addr} {n v : Nat} {s t : State}
    (h : readPiece k m va n s = .ok v t) : t = { s with tlb := t.tlb, draws := t.draws } := by
  obtain ⟨_, _, hl, hb⟩ := Acc.bind_ok h
  rw [busRead_frame hb]
  exact locate_frame hl

/-- MemRead that answers changes the TLB and the count of values drawn only (20_memory R101, R150). -/
theorem memReadAs_frame {k : Kind} {m : BitVec 2} {va : Addr} {n v : Nat} {s t : State}
    (h : memReadAs k m va n s = .ok v t) : t = { s with tlb := t.tlb, draws := t.draws } := by
  simp only [memReadAs] at h
  split at h
  · exact readPiece_frame h
  · obtain ⟨_, _, h1, h⟩ := Acc.bind_ok h
    obtain ⟨_, _, h2, h⟩ := Acc.bind_ok h
    injection h with _ ht
    have e := readPiece_frame h2
    rw [readPiece_frame h1, ht] at e
    exact e

/-! The writes of other agents. -/

/-- Bytes that are memory for the bus: each is claimed, and none is a unit's (20_memory R113). -/
theorem State.target_memory {s : State} {pa n : Nat} (h : s.target pa n = .memory) {i : Nat} (hi : i < n) :
    s.claimed (pa + i) = true ∧ s.device (pa + i) = none := by
  unfold State.target at h
  split at h
  · split at h
    · split at h <;> cases h
    · cases h
  · split at h
    · cases h
    · split at h
      · cases h
      · rename_i hc hd
        simp only [List.any_eq_true, List.mem_range, not_exists, not_and, Bool.not_eq_true] at hd
        simp only [Bool.not_eq_true', Bool.not_eq_false, List.all_eq_true, List.mem_range] at hc
        exact ⟨hc i hi, by simpa using hd i hi⟩

/-- What a write of another agent does: it changes memory only, and of it only bytes that are memory and that it names. -/
theorem State.agentWrite_spec (s : State) (pa : Nat) (bs : List Byte) (hw : Memory.wf s.mem = true) :
    (∃ m, s.agentWrite pa bs = { s with mem := m } ∧ Memory.wf m = true) ∧
    ∀ a, (s.agentWrite pa bs).byte a = s.byte a ∨
      ∃ i, ∃ h : i < bs.length, a = pa + i ∧ s.claimed a = true ∧ s.device a = none ∧ (s.agentWrite pa bs).byte a = bs[i] := by
  unfold State.agentWrite
  split
  · rename_i ht
    refine ⟨⟨_, rfl, Memory.wf_writeList _ _ hw⟩, fun a => ?_⟩
    by_cases ha : a < pa
    · exact .inl (Memory.read_writeList_below _ ha)
    · by_cases hb : pa + bs.length ≤ a
      · exact .inl (Memory.read_writeList_above _ hb)
      · obtain ⟨i, rfl⟩ : ∃ i, a = pa + i := ⟨a - pa, by omega⟩
        have hi : i < bs.length := by omega
        exact .inr ⟨i, hi, rfl, (State.target_memory ht hi).1, (State.target_memory ht hi).2, Memory.read_writeList _ hw hi⟩
  · exact ⟨⟨s.mem, rfl, hw⟩, fun a => .inl rfl⟩

end Sys2Proof.Machine
end

