-- ==== Sys2Proof/Laws/State.lean ====
section
/-! SUPPORT. What the named updates of the state leave alone: one lemma per field and update. -/

namespace Sys2Proof.Machine

/-- Writing a stack pointer writes nothing else. -/
theorem State.setBank_eq (s : State) (m : BitVec 2) (v : Word) :
    s.setBank m v = { s with
      asp := (s.setBank m v).asp, ssp := (s.setBank m v).ssp, hsp := (s.setBank m v).hsp, msp := (s.setBank m v).msp } := by
  simp only [State.setBank]
  split <;> rfl

/-- Writing a register writes nothing but registers, the stack pointers and the stack canary. -/
theorem State.setReg_eq (s : State) (r : Reg) (v : Word) :
    s.setReg r v = { s with
      gpr := (s.setReg r v).gpr, sc := (s.setReg r v).sc, asp := (s.setReg r v).asp, ssp := (s.setReg r v).ssp,
      hsp := (s.setReg r v).hsp, msp := (s.setReg r v).msp } := by
  simp only [State.setReg]
  split
  · rfl
  · split
    · rfl
    · split
      · rw [State.setBank_eq]
      · rfl

@[simp] theorem State.params_setBank (s : State) (m : BitVec 2) (v : Word) : (s.setBank m v).params = s.params := by
  rw [State.setBank_eq]
@[simp] theorem State.gpr_setBank (s : State) (m : BitVec 2) (v : Word) : (s.setBank m v).gpr = s.gpr := by
  rw [State.setBank_eq]
@[simp] theorem State.sc_setBank (s : State) (m : BitVec 2) (v : Word) : (s.setBank m v).sc = s.sc := by
  rw [State.setBank_eq]
@[simp] theorem State.pc_setBank (s : State) (m : BitVec 2) (v : Word) : (s.setBank m v).pc = s.pc := by
  rw [State.setBank_eq]
@[simp] theorem State.vreg_setBank (s : State) (m : BitVec 2) (v : Word) : (s.setBank m v).vreg = s.vreg := by
  rw [State.setBank_eq]
@[simp] theorem State.sr_setBank (s : State) (m : BitVec 2) (v : Word) : (s.setBank m v).sr = s.sr := by
  rw [State.setBank_eq]
@[simp] theorem State.cause_setBank (s : State) (m : BitVec 2) (v : Word) : (s.setBank m v).cause = s.cause := by
  rw [State.setBank_eq]
@[simp] theorem State.scratch_setBank (s : State) (m : BitVec 2) (v : Word) : (s.setBank m v).scratch = s.scratch := by
  rw [State.setBank_eq]
@[simp] theorem State.repbuf_setBank (s : State) (m : BitVec 2) (v : Word) : (s.setBank m v).repbuf = s.repbuf := by
  rw [State.setBank_eq]
@[simp] theorem State.repHold_setBank (s : State) (m : BitVec 2) (v : Word) : (s.setBank m v).repHold = s.repHold := by
  rw [State.setBank_eq]
@[simp] theorem State.vl_setBank (s : State) (m : BitVec 2) (v : Word) : (s.setBank m v).vl = s.vl := by
  rw [State.setBank_eq]
@[simp] theorem State.vgm_setBank (s : State) (m : BitVec 2) (v : Word) : (s.setBank m v).vgm = s.vgm := by
  rw [State.setBank_eq]
@[simp] theorem State.vrm_setBank (s : State) (m : BitVec 2) (v : Word) : (s.setBank m v).vrm = s.vrm := by
  rw [State.setBank_eq]
@[simp] theorem State.verr_setBank (s : State) (m : BitVec 2) (v : Word) : (s.setBank m v).verr = s.verr := by
  rw [State.setBank_eq]
@[simp] theorem State.ved_setBank (s : State) (m : BitVec 2) (v : Word) : (s.setBank m v).ved = s.ved := by
  rw [State.setBank_eq]
@[simp] theorem State.ptbr_setBank (s : State) (m : BitVec 2) (v : Word) : (s.setBank m v).ptbr = s.ptbr := by
  rw [State.setBank_eq]
@[simp] theorem State.asid_setBank (s : State) (m : BitVec 2) (v : Word) : (s.setBank m v).asid = s.asid := by
  rw [State.setBank_eq]
@[simp] theorem State.keys_setBank (s : State) (m : BitVec 2) (v : Word) : (s.setBank m v).keys = s.keys := by
  rw [State.setBank_eq]
@[simp] theorem State.tick_setBank (s : State) (m : BitVec 2) (v : Word) : (s.setBank m v).tick = s.tick := by
  rw [State.setBank_eq]
@[simp] theorem State.badAddr_setBank (s : State) (m : BitVec 2) (v : Word) : (s.setBank m v).badAddr = s.badAddr := by
  rw [State.setBank_eq]
@[simp] theorem State.badInstr_setBank (s : State) (m : BitVec 2) (v : Word) : (s.setBank m v).badInstr = s.badInstr := by
  rw [State.setBank_eq]
@[simp] theorem State.sema_setBank (s : State) (m : BitVec 2) (v : Word) : (s.setBank m v).sema = s.sema := by
  rw [State.setBank_eq]
@[simp] theorem State.tvec_setBank (s : State) (m : BitVec 2) (v : Word) : (s.setBank m v).tvec = s.tvec := by
  rw [State.setBank_eq]
@[simp] theorem State.ios_setBank (s : State) (m : BitVec 2) (v : Word) : (s.setBank m v).ios = s.ios := by
  rw [State.setBank_eq]
@[simp] theorem State.av_setBank (s : State) (m : BitVec 2) (v : Word) : (s.setBank m v).av = s.av := by
  rw [State.setBank_eq]
@[simp] theorem State.vb_setBank (s : State) (m : BitVec 2) (v : Word) : (s.setBank m v).vb = s.vb := by
  rw [State.setBank_eq]
@[simp] theorem State.stack_setBank (s : State) (m : BitVec 2) (v : Word) : (s.setBank m v).stack = s.stack := by
  rw [State.setBank_eq]
@[simp] theorem State.win_setBank (s : State) (m : BitVec 2) (v : Word) : (s.setBank m v).win = s.win := by
  rw [State.setBank_eq]
@[simp] theorem State.traceDue_setBank (s : State) (m : BitVec 2) (v : Word) : (s.setBank m v).traceDue = s.traceDue := by
  rw [State.setBank_eq]
@[simp] theorem State.halted_setBank (s : State) (m : BitVec 2) (v : Word) : (s.setBank m v).halted = s.halted := by
  rw [State.setBank_eq]
@[simp] theorem State.retire_setBank (s : State) (m : BitVec 2) (v : Word) : (s.setBank m v).retire = s.retire := by
  rw [State.setBank_eq]
@[simp] theorem State.ir_setBank (s : State) (m : BitVec 2) (v : Word) : (s.setBank m v).ir = s.ir := by
  rw [State.setBank_eq]
@[simp] theorem State.tlb_setBank (s : State) (m : BitVec 2) (v : Word) : (s.setBank m v).tlb = s.tlb := by
  rw [State.setBank_eq]
@[simp] theorem State.regions_setBank (s : State) (m : BitVec 2) (v : Word) : (s.setBank m v).regions = s.regions := by
  rw [State.setBank_eq]
@[simp] theorem State.pic_setBank (s : State) (m : BitVec 2) (v : Word) : (s.setBank m v).pic = s.pic := by
  rw [State.setBank_eq]
@[simp] theorem State.pit1_setBank (s : State) (m : BitVec 2) (v : Word) : (s.setBank m v).pit1 = s.pit1 := by
  rw [State.setBank_eq]
@[simp] theorem State.pit2_setBank (s : State) (m : BitVec 2) (v : Word) : (s.setBank m v).pit2 = s.pit2 := by
  rw [State.setBank_eq]
@[simp] theorem State.mem_setBank (s : State) (m : BitVec 2) (v : Word) : (s.setBank m v).mem = s.mem := by
  rw [State.setBank_eq]
@[simp] theorem State.stale_setBank (s : State) (m : BitVec 2) (v : Word) : (s.setBank m v).stale = s.stale := by
  rw [State.setBank_eq]
@[simp] theorem State.env_setBank (s : State) (m : BitVec 2) (v : Word) : (s.setBank m v).env = s.env := by
  rw [State.setBank_eq]
@[simp] theorem State.draws_setBank (s : State) (m : BitVec 2) (v : Word) : (s.setBank m v).draws = s.draws := by
  rw [State.setBank_eq]

@[simp] theorem State.params_setReg (s : State) (r : Reg) (v : Word) : (s.setReg r v).params = s.params := by
  rw [State.setReg_eq]
@[simp] theorem State.pc_setReg (s : State) (r : Reg) (v : Word) : (s.setReg r v).pc = s.pc := by
  rw [State.setReg_eq]
@[simp] theorem State.vreg_setReg (s : State) (r : Reg) (v : Word) : (s.setReg r v).vreg = s.vreg := by
  rw [State.setReg_eq]
@[simp] theorem State.sr_setReg (s : State) (r : Reg) (v : Word) : (s.setReg r v).sr = s.sr := by
  rw [State.setReg_eq]
@[simp] theorem State.cause_setReg (s : State) (r : Reg) (v : Word) : (s.setReg r v).cause = s.cause := by
  rw [State.setReg_eq]
@[simp] theorem State.scratch_setReg (s : State) (r : Reg) (v : Word) : (s.setReg r v).scratch = s.scratch := by
  rw [State.setReg_eq]
@[simp] theorem State.repbuf_setReg (s : State) (r : Reg) (v : Word) : (s.setReg r v).repbuf = s.repbuf := by
  rw [State.setReg_eq]
@[simp] theorem State.repHold_setReg (s : State) (r : Reg) (v : Word) : (s.setReg r v).repHold = s.repHold := by
  rw [State.setReg_eq]
@[simp] theorem State.vl_setReg (s : State) (r : Reg) (v : Word) : (s.setReg r v).vl = s.vl := by
  rw [State.setReg_eq]
@[simp] theorem State.vgm_setReg (s : State) (r : Reg) (v : Word) : (s.setReg r v).vgm = s.vgm := by
  rw [State.setReg_eq]
@[simp] theorem State.vrm_setReg (s : State) (r : Reg) (v : Word) : (s.setReg r v).vrm = s.vrm := by
  rw [State.setReg_eq]
@[simp] theorem State.verr_setReg (s : State) (r : Reg) (v : Word) : (s.setReg r v).verr = s.verr := by
  rw [State.setReg_eq]
@[simp] theorem State.ved_setReg (s : State) (r : Reg) (v : Word) : (s.setReg r v).ved = s.ved := by
  rw [State.setReg_eq]
@[simp] theorem State.ptbr_setReg (s : State) (r : Reg) (v : Word) : (s.setReg r v).ptbr = s.ptbr := by
  rw [State.setReg_eq]
@[simp] theorem State.asid_setReg (s : State) (r : Reg) (v : Word) : (s.setReg r v).asid = s.asid := by
  rw [State.setReg_eq]
@[simp] theorem State.keys_setReg (s : State) (r : Reg) (v : Word) : (s.setReg r v).keys = s.keys := by
  rw [State.setReg_eq]
@[simp] theorem State.tick_setReg (s : State) (r : Reg) (v : Word) : (s.setReg r v).tick = s.tick := by
  rw [State.setReg_eq]
@[simp] theorem State.badAddr_setReg (s : State) (r : Reg) (v : Word) : (s.setReg r v).badAddr = s.badAddr := by
  rw [State.setReg_eq]
@[simp] theorem State.badInstr_setReg (s : State) (r : Reg) (v : Word) : (s.setReg r v).badInstr = s.badInstr := by
  rw [State.setReg_eq]
@[simp] theorem State.sema_setReg (s : State) (r : Reg) (v : Word) : (s.setReg r v).sema = s.sema := by
  rw [State.setReg_eq]
@[simp] theorem State.tvec_setReg (s : State) (r : Reg) (v : Word) : (s.setReg r v).tvec = s.tvec := by
  rw [State.setReg_eq]
@[simp] theorem State.ios_setReg (s : State) (r : Reg) (v : Word) : (s.setReg r v).ios = s.ios := by
  rw [State.setReg_eq]
@[simp] theorem State.av_setReg (s : State) (r : Reg) (v : Word) : (s.setReg r v).av = s.av := by
  rw [State.setReg_eq]
@[simp] theorem State.vb_setReg (s : State) (r : Reg) (v : Word) : (s.setReg r v).vb = s.vb := by
  rw [State.setReg_eq]
@[simp] theorem State.stack_setReg (s : State) (r : Reg) (v : Word) : (s.setReg r v).stack = s.stack := by
  rw [State.setReg_eq]
@[simp] theorem State.win_setReg (s : State) (r : Reg) (v : Word) : (s.setReg r v).win = s.win := by
  rw [State.setReg_eq]
@[simp] theorem State.traceDue_setReg (s : State) (r : Reg) (v : Word) : (s.setReg r v).traceDue = s.traceDue := by
  rw [State.setReg_eq]
@[simp] theorem State.halted_setReg (s : State) (r : Reg) (v : Word) : (s.setReg r v).halted = s.halted := by
  rw [State.setReg_eq]
@[simp] theorem State.retire_setReg (s : State) (r : Reg) (v : Word) : (s.setReg r v).retire = s.retire := by
  rw [State.setReg_eq]
@[simp] theorem State.ir_setReg (s : State) (r : Reg) (v : Word) : (s.setReg r v).ir = s.ir := by
  rw [State.setReg_eq]
@[simp] theorem State.tlb_setReg (s : State) (r : Reg) (v : Word) : (s.setReg r v).tlb = s.tlb := by
  rw [State.setReg_eq]
@[simp] theorem State.regions_setReg (s : State) (r : Reg) (v : Word) : (s.setReg r v).regions = s.regions := by
  rw [State.setReg_eq]
@[simp] theorem State.pic_setReg (s : State) (r : Reg) (v : Word) : (s.setReg r v).pic = s.pic := by
  rw [State.setReg_eq]
@[simp] theorem State.pit1_setReg (s : State) (r : Reg) (v : Word) : (s.setReg r v).pit1 = s.pit1 := by
  rw [State.setReg_eq]
@[simp] theorem State.pit2_setReg (s : State) (r : Reg) (v : Word) : (s.setReg r v).pit2 = s.pit2 := by
  rw [State.setReg_eq]
@[simp] theorem State.mem_setReg (s : State) (r : Reg) (v : Word) : (s.setReg r v).mem = s.mem := by
  rw [State.setReg_eq]
@[simp] theorem State.stale_setReg (s : State) (r : Reg) (v : Word) : (s.setReg r v).stale = s.stale := by
  rw [State.setReg_eq]
@[simp] theorem State.env_setReg (s : State) (r : Reg) (v : Word) : (s.setReg r v).env = s.env := by
  rw [State.setReg_eq]
@[simp] theorem State.draws_setReg (s : State) (r : Reg) (v : Word) : (s.setReg r v).draws = s.draws := by
  rw [State.setReg_eq]

@[simp] theorem State.params_setElem {w : Nat} (s : State) (r : Reg) (k : Nat) (e : BitVec w) :
    (s.setElem r k e).params = s.params := rfl
@[simp] theorem State.gpr_setElem {w : Nat} (s : State) (r : Reg) (k : Nat) (e : BitVec w) :
    (s.setElem r k e).gpr = s.gpr := rfl
@[simp] theorem State.asp_setElem {w : Nat} (s : State) (r : Reg) (k : Nat) (e : BitVec w) :
    (s.setElem r k e).asp = s.asp := rfl
@[simp] theorem State.ssp_setElem {w : Nat} (s : State) (r : Reg) (k : Nat) (e : BitVec w) :
    (s.setElem r k e).ssp = s.ssp := rfl
@[simp] theorem State.hsp_setElem {w : Nat} (s : State) (r : Reg) (k : Nat) (e : BitVec w) :
    (s.setElem r k e).hsp = s.hsp := rfl
@[simp] theorem State.msp_setElem {w : Nat} (s : State) (r : Reg) (k : Nat) (e : BitVec w) :
    (s.setElem r k e).msp = s.msp := rfl
@[simp] theorem State.sc_setElem {w : Nat} (s : State) (r : Reg) (k : Nat) (e : BitVec w) :
    (s.setElem r k e).sc = s.sc := rfl
@[simp] theorem State.pc_setElem {w : Nat} (s : State) (r : Reg) (k : Nat) (e : BitVec w) :
    (s.setElem r k e).pc = s.pc := rfl
@[simp] theorem State.sr_setElem {w : Nat} (s : State) (r : Reg) (k : Nat) (e : BitVec w) :
    (s.setElem r k e).sr = s.sr := rfl
@[simp] theorem State.cause_setElem {w : Nat} (s : State) (r : Reg) (k : Nat) (e : BitVec w) :
    (s.setElem r k e).cause = s.cause := rfl
@[simp] theorem State.scratch_setElem {w : Nat} (s : State) (r : Reg) (k : Nat) (e : BitVec w) :
    (s.setElem r k e).scratch = s.scratch := rfl
@[simp] theorem State.repbuf_setElem {w : Nat} (s : State) (r : Reg) (k : Nat) (e : BitVec w) :
    (s.setElem r k e).repbuf = s.repbuf := rfl
@[simp] theorem State.repHold_setElem {w : Nat} (s : State) (r : Reg) (k : Nat) (e : BitVec w) :
    (s.setElem r k e).repHold = s.repHold := rfl
@[simp] theorem State.vl_setElem {w : Nat} (s : State) (r : Reg) (k : Nat) (e : BitVec w) :
    (s.setElem r k e).vl = s.vl := rfl
@[simp] theorem State.vgm_setElem {w : Nat} (s : State) (r : Reg) (k : Nat) (e : BitVec w) :
    (s.setElem r k e).vgm = s.vgm := rfl
@[simp] theorem State.vrm_setElem {w : Nat} (s : State) (r : Reg) (k : Nat) (e : BitVec w) :
    (s.setElem r k e).vrm = s.vrm := rfl
@[simp] theorem State.verr_setElem {w : Nat} (s : State) (r : Reg) (k : Nat) (e : BitVec w) :
    (s.setElem r k e).verr = s.verr := rfl
@[simp] theorem State.ved_setElem {w : Nat} (s : State) (r : Reg) (k : Nat) (e : BitVec w) :
    (s.setElem r k e).ved = s.ved := rfl
@[simp] theorem State.ptbr_setElem {w : Nat} (s : State) (r : Reg) (k : Nat) (e : BitVec w) :
    (s.setElem r k e).ptbr = s.ptbr := rfl
@[simp] theorem State.asid_setElem {w : Nat} (s : State) (r : Reg) (k : Nat) (e : BitVec w) :
    (s.setElem r k e).asid = s.asid := rfl
@[simp] theorem State.keys_setElem {w : Nat} (s : State) (r : Reg) (k : Nat) (e : BitVec w) :
    (s.setElem r k e).keys = s.keys := rfl
@[simp] theorem State.tick_setElem {w : Nat} (s : State) (r : Reg) (k : Nat) (e : BitVec w) :
    (s.setElem r k e).tick = s.tick := rfl
@[simp] theorem State.badAddr_setElem {w : Nat} (s : State) (r : Reg) (k : Nat) (e : BitVec w) :
    (s.setElem r k e).badAddr = s.badAddr := rfl
@[simp] theorem State.badInstr_setElem {w : Nat} (s : State) (r : Reg) (k : Nat) (e : BitVec w) :
    (s.setElem r k e).badInstr = s.badInstr := rfl
@[simp] theorem State.sema_setElem {w : Nat} (s : State) (r : Reg) (k : Nat) (e : BitVec w) :
    (s.setElem r k e).sema = s.sema := rfl
@[simp] theorem State.tvec_setElem {w : Nat} (s : State) (r : Reg) (k : Nat) (e : BitVec w) :
    (s.setElem r k e).tvec = s.tvec := rfl
@[simp] theorem State.ios_setElem {w : Nat} (s : State) (r : Reg) (k : Nat) (e : BitVec w) :
    (s.setElem r k e).ios = s.ios := rfl
@[simp] theorem State.av_setElem {w : Nat} (s : State) (r : Reg) (k : Nat) (e : BitVec w) :
    (s.setElem r k e).av = s.av := rfl
@[simp] theorem State.vb_setElem {w : Nat} (s : State) (r : Reg) (k : Nat) (e : BitVec w) :
    (s.setElem r k e).vb = s.vb := rfl
@[simp] theorem State.stack_setElem {w : Nat} (s : State) (r : Reg) (k : Nat) (e : BitVec w) :
    (s.setElem r k e).stack = s.stack := rfl
@[simp] theorem State.win_setElem {w : Nat} (s : State) (r : Reg) (k : Nat) (e : BitVec w) :
    (s.setElem r k e).win = s.win := rfl
@[simp] theorem State.traceDue_setElem {w : Nat} (s : State) (r : Reg) (k : Nat) (e : BitVec w) :
    (s.setElem r k e).traceDue = s.traceDue := rfl
@[simp] theorem State.halted_setElem {w : Nat} (s : State) (r : Reg) (k : Nat) (e : BitVec w) :
    (s.setElem r k e).halted = s.halted := rfl
@[simp] theorem State.retire_setElem {w : Nat} (s : State) (r : Reg) (k : Nat) (e : BitVec w) :
    (s.setElem r k e).retire = s.retire := rfl
@[simp] theorem State.ir_setElem {w : Nat} (s : State) (r : Reg) (k : Nat) (e : BitVec w) :
    (s.setElem r k e).ir = s.ir := rfl
@[simp] theorem State.tlb_setElem {w : Nat} (s : State) (r : Reg) (k : Nat) (e : BitVec w) :
    (s.setElem r k e).tlb = s.tlb := rfl
@[simp] theorem State.regions_setElem {w : Nat} (s : State) (r : Reg) (k : Nat) (e : BitVec w) :
    (s.setElem r k e).regions = s.regions := rfl
@[simp] theorem State.pic_setElem {w : Nat} (s : State) (r : Reg) (k : Nat) (e : BitVec w) :
    (s.setElem r k e).pic = s.pic := rfl
@[simp] theorem State.pit1_setElem {w : Nat} (s : State) (r : Reg) (k : Nat) (e : BitVec w) :
    (s.setElem r k e).pit1 = s.pit1 := rfl
@[simp] theorem State.pit2_setElem {w : Nat} (s : State) (r : Reg) (k : Nat) (e : BitVec w) :
    (s.setElem r k e).pit2 = s.pit2 := rfl
@[simp] theorem State.mem_setElem {w : Nat} (s : State) (r : Reg) (k : Nat) (e : BitVec w) :
    (s.setElem r k e).mem = s.mem := rfl
@[simp] theorem State.stale_setElem {w : Nat} (s : State) (r : Reg) (k : Nat) (e : BitVec w) :
    (s.setElem r k e).stale = s.stale := rfl
@[simp] theorem State.env_setElem {w : Nat} (s : State) (r : Reg) (k : Nat) (e : BitVec w) :
    (s.setElem r k e).env = s.env := rfl
@[simp] theorem State.draws_setElem {w : Nat} (s : State) (r : Reg) (k : Nat) (e : BitVec w) :
    (s.setElem r k e).draws = s.draws := rfl

@[simp] theorem State.params_store (s : State) (pa n v : Nat) : (s.store pa n v).params = s.params := rfl
@[simp] theorem State.gpr_store (s : State) (pa n v : Nat) : (s.store pa n v).gpr = s.gpr := rfl
@[simp] theorem State.asp_store (s : State) (pa n v : Nat) : (s.store pa n v).asp = s.asp := rfl
@[simp] theorem State.ssp_store (s : State) (pa n v : Nat) : (s.store pa n v).ssp = s.ssp := rfl
@[simp] theorem State.hsp_store (s : State) (pa n v : Nat) : (s.store pa n v).hsp = s.hsp := rfl
@[simp] theorem State.msp_store (s : State) (pa n v : Nat) : (s.store pa n v).msp = s.msp := rfl
@[simp] theorem State.sc_store (s : State) (pa n v : Nat) : (s.store pa n v).sc = s.sc := rfl
@[simp] theorem State.pc_store (s : State) (pa n v : Nat) : (s.store pa n v).pc = s.pc := rfl
@[simp] theorem State.vreg_store (s : State) (pa n v : Nat) : (s.store pa n v).vreg = s.vreg := rfl
@[simp] theorem State.sr_store (s : State) (pa n v : Nat) : (s.store pa n v).sr = s.sr := rfl
@[simp] theorem State.cause_store (s : State) (pa n v : Nat) : (s.store pa n v).cause = s.cause := rfl
@[simp] theorem State.scratch_store (s : State) (pa n v : Nat) : (s.store pa n v).scratch = s.scratch := rfl
@[simp] theorem State.repbuf_store (s : State) (pa n v : Nat) : (s.store pa n v).repbuf = s.repbuf := rfl
@[simp] theorem State.repHold_store (s : State) (pa n v : Nat) : (s.store pa n v).repHold = s.repHold := rfl
@[simp] theorem State.vl_store (s : State) (pa n v : Nat) : (s.store pa n v).vl = s.vl := rfl
@[simp] theorem State.vgm_store (s : State) (pa n v : Nat) : (s.store pa n v).vgm = s.vgm := rfl
@[simp] theorem State.vrm_store (s : State) (pa n v : Nat) : (s.store pa n v).vrm = s.vrm := rfl
@[simp] theorem State.verr_store (s : State) (pa n v : Nat) : (s.store pa n v).verr = s.verr := rfl
@[simp] theorem State.ved_store (s : State) (pa n v : Nat) : (s.store pa n v).ved = s.ved := rfl
@[simp] theorem State.ptbr_store (s : State) (pa n v : Nat) : (s.store pa n v).ptbr = s.ptbr := rfl
@[simp] theorem State.asid_store (s : State) (pa n v : Nat) : (s.store pa n v).asid = s.asid := rfl
@[simp] theorem State.keys_store (s : State) (pa n v : Nat) : (s.store pa n v).keys = s.keys := rfl
@[simp] theorem State.tick_store (s : State) (pa n v : Nat) : (s.store pa n v).tick = s.tick := rfl
@[simp] theorem State.badAddr_store (s : State) (pa n v : Nat) : (s.store pa n v).badAddr = s.badAddr := rfl
@[simp] theorem State.badInstr_store (s : State) (pa n v : Nat) : (s.store pa n v).badInstr = s.badInstr := rfl
@[simp] theorem State.sema_store (s : State) (pa n v : Nat) : (s.store pa n v).sema = s.sema := rfl
@[simp] theorem State.tvec_store (s : State) (pa n v : Nat) : (s.store pa n v).tvec = s.tvec := rfl
@[simp] theorem State.ios_store (s : State) (pa n v : Nat) : (s.store pa n v).ios = s.ios := rfl
@[simp] theorem State.av_store (s : State) (pa n v : Nat) : (s.store pa n v).av = s.av := rfl
@[simp] theorem State.vb_store (s : State) (pa n v : Nat) : (s.store pa n v).vb = s.vb := rfl
@[simp] theorem State.stack_store (s : State) (pa n v : Nat) : (s.store pa n v).stack = s.stack := rfl
@[simp] theorem State.win_store (s : State) (pa n v : Nat) : (s.store pa n v).win = s.win := rfl
@[simp] theorem State.traceDue_store (s : State) (pa n v : Nat) : (s.store pa n v).traceDue = s.traceDue := rfl
@[simp] theorem State.halted_store (s : State) (pa n v : Nat) : (s.store pa n v).halted = s.halted := rfl
@[simp] theorem State.retire_store (s : State) (pa n v : Nat) : (s.store pa n v).retire = s.retire := rfl
@[simp] theorem State.ir_store (s : State) (pa n v : Nat) : (s.store pa n v).ir = s.ir := rfl
@[simp] theorem State.tlb_store (s : State) (pa n v : Nat) : (s.store pa n v).tlb = s.tlb := rfl
@[simp] theorem State.regions_store (s : State) (pa n v : Nat) : (s.store pa n v).regions = s.regions := rfl
@[simp] theorem State.pic_store (s : State) (pa n v : Nat) : (s.store pa n v).pic = s.pic := rfl
@[simp] theorem State.pit1_store (s : State) (pa n v : Nat) : (s.store pa n v).pit1 = s.pit1 := rfl
@[simp] theorem State.pit2_store (s : State) (pa n v : Nat) : (s.store pa n v).pit2 = s.pit2 := rfl
@[simp] theorem State.env_store (s : State) (pa n v : Nat) : (s.store pa n v).env = s.env := rfl
@[simp] theorem State.draws_store (s : State) (pa n v : Nat) : (s.store pa n v).draws = s.draws := rfl

/-- Leaving a carry changes nothing but the carry. -/
theorem State.setCarry_eq (out : Bool) (c : Nat) (s : State) :
    State.setCarry out c s = { s with win := (State.setCarry out c s).win } := by
  simp only [State.setCarry]
  split <;> rfl

@[simp] theorem State.params_setCarry (o : Bool) (c : Nat) (s : State) : (State.setCarry o c s).params = s.params := by
  rw [State.setCarry_eq]
@[simp] theorem State.gpr_setCarry (o : Bool) (c : Nat) (s : State) : (State.setCarry o c s).gpr = s.gpr := by
  rw [State.setCarry_eq]
@[simp] theorem State.asp_setCarry (o : Bool) (c : Nat) (s : State) : (State.setCarry o c s).asp = s.asp := by
  rw [State.setCarry_eq]
@[simp] theorem State.ssp_setCarry (o : Bool) (c : Nat) (s : State) : (State.setCarry o c s).ssp = s.ssp := by
  rw [State.setCarry_eq]
@[simp] theorem State.hsp_setCarry (o : Bool) (c : Nat) (s : State) : (State.setCarry o c s).hsp = s.hsp := by
  rw [State.setCarry_eq]
@[simp] theorem State.msp_setCarry (o : Bool) (c : Nat) (s : State) : (State.setCarry o c s).msp = s.msp := by
  rw [State.setCarry_eq]
@[simp] theorem State.sc_setCarry (o : Bool) (c : Nat) (s : State) : (State.setCarry o c s).sc = s.sc := by
  rw [State.setCarry_eq]
@[simp] theorem State.pc_setCarry (o : Bool) (c : Nat) (s : State) : (State.setCarry o c s).pc = s.pc := by
  rw [State.setCarry_eq]
@[simp] theorem State.vreg_setCarry (o : Bool) (c : Nat) (s : State) : (State.setCarry o c s).vreg = s.vreg := by
  rw [State.setCarry_eq]
@[simp] theorem State.sr_setCarry (o : Bool) (c : Nat) (s : State) : (State.setCarry o c s).sr = s.sr := by
  rw [State.setCarry_eq]
@[simp] theorem State.cause_setCarry (o : Bool) (c : Nat) (s : State) : (State.setCarry o c s).cause = s.cause := by
  rw [State.setCarry_eq]
@[simp] theorem State.scratch_setCarry (o : Bool) (c : Nat) (s : State) : (State.setCarry o c s).scratch = s.scratch := by
  rw [State.setCarry_eq]
@[simp] theorem State.repbuf_setCarry (o : Bool) (c : Nat) (s : State) : (State.setCarry o c s).repbuf = s.repbuf := by
  rw [State.setCarry_eq]
@[simp] theorem State.repHold_setCarry (o : Bool) (c : Nat) (s : State) : (State.setCarry o c s).repHold = s.repHold := by
  rw [State.setCarry_eq]
@[simp] theorem State.vl_setCarry (o : Bool) (c : Nat) (s : State) : (State.setCarry o c s).vl = s.vl := by
  rw [State.setCarry_eq]
@[simp] theorem State.vgm_setCarry (o : Bool) (c : Nat) (s : State) : (State.setCarry o c s).vgm = s.vgm := by
  rw [State.setCarry_eq]
@[simp] theorem State.vrm_setCarry (o : Bool) (c : Nat) (s : State) : (State.setCarry o c s).vrm = s.vrm := by
  rw [State.setCarry_eq]
@[simp] theorem State.verr_setCarry (o : Bool) (c : Nat) (s : State) : (State.setCarry o c s).verr = s.verr := by
  rw [State.setCarry_eq]
@[simp] theorem State.ved_setCarry (o : Bool) (c : Nat) (s : State) : (State.setCarry o c s).ved = s.ved := by
  rw [State.setCarry_eq]
@[simp] theorem State.ptbr_setCarry (o : Bool) (c : Nat) (s : State) : (State.setCarry o c s).ptbr = s.ptbr := by
  rw [State.setCarry_eq]
@[simp] theorem State.asid_setCarry (o : Bool) (c : Nat) (s : State) : (State.setCarry o c s).asid = s.asid := by
  rw [State.setCarry_eq]
@[simp] theorem State.keys_setCarry (o : Bool) (c : Nat) (s : State) : (State.setCarry o c s).keys = s.keys := by
  rw [State.setCarry_eq]
@[simp] theorem State.tick_setCarry (o : Bool) (c : Nat) (s : State) : (State.setCarry o c s).tick = s.tick := by
  rw [State.setCarry_eq]
@[simp] theorem State.badAddr_setCarry (o : Bool) (c : Nat) (s : State) : (State.setCarry o c s).badAddr = s.badAddr := by
  rw [State.setCarry_eq]
@[simp] theorem State.badInstr_setCarry (o : Bool) (c : Nat) (s : State) : (State.setCarry o c s).badInstr = s.badInstr := by
  rw [State.setCarry_eq]
@[simp] theorem State.sema_setCarry (o : Bool) (c : Nat) (s : State) : (State.setCarry o c s).sema = s.sema := by
  rw [State.setCarry_eq]
@[simp] theorem State.tvec_setCarry (o : Bool) (c : Nat) (s : State) : (State.setCarry o c s).tvec = s.tvec := by
  rw [State.setCarry_eq]
@[simp] theorem State.ios_setCarry (o : Bool) (c : Nat) (s : State) : (State.setCarry o c s).ios = s.ios := by
  rw [State.setCarry_eq]
@[simp] theorem State.av_setCarry (o : Bool) (c : Nat) (s : State) : (State.setCarry o c s).av = s.av := by
  rw [State.setCarry_eq]
@[simp] theorem State.vb_setCarry (o : Bool) (c : Nat) (s : State) : (State.setCarry o c s).vb = s.vb := by
  rw [State.setCarry_eq]
@[simp] theorem State.stack_setCarry (o : Bool) (c : Nat) (s : State) : (State.setCarry o c s).stack = s.stack := by
  rw [State.setCarry_eq]
@[simp] theorem State.traceDue_setCarry (o : Bool) (c : Nat) (s : State) : (State.setCarry o c s).traceDue = s.traceDue := by
  rw [State.setCarry_eq]
@[simp] theorem State.halted_setCarry (o : Bool) (c : Nat) (s : State) : (State.setCarry o c s).halted = s.halted := by
  rw [State.setCarry_eq]
@[simp] theorem State.retire_setCarry (o : Bool) (c : Nat) (s : State) : (State.setCarry o c s).retire = s.retire := by
  rw [State.setCarry_eq]
@[simp] theorem State.ir_setCarry (o : Bool) (c : Nat) (s : State) : (State.setCarry o c s).ir = s.ir := by
  rw [State.setCarry_eq]
@[simp] theorem State.tlb_setCarry (o : Bool) (c : Nat) (s : State) : (State.setCarry o c s).tlb = s.tlb := by
  rw [State.setCarry_eq]
@[simp] theorem State.regions_setCarry (o : Bool) (c : Nat) (s : State) : (State.setCarry o c s).regions = s.regions := by
  rw [State.setCarry_eq]
@[simp] theorem State.pic_setCarry (o : Bool) (c : Nat) (s : State) : (State.setCarry o c s).pic = s.pic := by
  rw [State.setCarry_eq]
@[simp] theorem State.pit1_setCarry (o : Bool) (c : Nat) (s : State) : (State.setCarry o c s).pit1 = s.pit1 := by
  rw [State.setCarry_eq]
@[simp] theorem State.pit2_setCarry (o : Bool) (c : Nat) (s : State) : (State.setCarry o c s).pit2 = s.pit2 := by
  rw [State.setCarry_eq]
@[simp] theorem State.mem_setCarry (o : Bool) (c : Nat) (s : State) : (State.setCarry o c s).mem = s.mem := by
  rw [State.setCarry_eq]
@[simp] theorem State.stale_setCarry (o : Bool) (c : Nat) (s : State) : (State.setCarry o c s).stale = s.stale := by
  rw [State.setCarry_eq]
@[simp] theorem State.env_setCarry (o : Bool) (c : Nat) (s : State) : (State.setCarry o c s).env = s.env := by
  rw [State.setCarry_eq]
@[simp] theorem State.draws_setCarry (o : Bool) (c : Nat) (s : State) : (State.setCarry o c s).draws = s.draws := by
  rw [State.setCarry_eq]

end Sys2Proof.Machine
end

