-- ==== Sys2Proof/Laws/Ops.lean ====
section
/-! SUPPORT. What the shared operations do: registers, elements of vectors, how an instruction runs and ends, taking an
exception. The proofs about instructions cite these and unfold no operation. -/

set_option Elab.async false

namespace Sys2Proof.Machine

/-! General registers. -/

theorem State.reg_zero (s : State) : s.reg 0 = 0 := by simp [State.reg]

theorem State.setReg_zero (s : State) (v : Word) : s.setReg 0 v = s := by simp [State.setReg]

theorem State.setReg_sc (s : State) (v : Word) : s.setReg 53 v = { s with sc := v } := by simp [State.setReg]

theorem State.bank_setBank (s : State) (m n : BitVec 2) (v : Word) :
    (s.setBank m v).bank n = if n = m then v else s.bank n := by
  have hm : m = 0 ∨ m = 1 ∨ m = 2 ∨ m = 3 := by revert m; decide
  have hn : n = 0 ∨ n = 1 ∨ n = 2 ∨ n = 3 := by revert n; decide
  rcases hm with rfl | rfl | rfl | rfl <;> rcases hn with rfl | rfl | rfl | rfl <;> rfl

/-- A register written reads as what was written. -/
theorem State.reg_setReg_same (s : State) {r : Reg} (v : Word) (h0 : r ≠ 0) (h53 : r ≠ 53) : (s.setReg r v).reg r = v := by
  unfold State.setReg
  rw [if_neg h0, if_neg h53]
  split
  · unfold State.reg
    rw [if_neg h0, if_neg h53, if_pos ‹_›]
    simp [State.bank_setBank, State.mode]
  · unfold State.reg
    rw [if_neg h0, if_neg h53, if_neg ‹_›]
    simp

/-- Every other register reads as before. -/
theorem State.reg_setReg_other (s : State) {r q : Reg} (v : Word) (h : q ≠ r) : (s.setReg r v).reg q = s.reg q := by
  unfold State.setReg
  split
  · rfl
  · split
    · rfl
    · split
      · subst_vars
        simp only [State.reg, if_neg h, State.pc_setBank, State.gpr_setBank]
      · have hq : q.toNat ≠ r.toNat := fun e => h (BitVec.eq_of_toNat_eq e)
        unfold State.reg
        simp only [Vector.getElem_set]
        rw [if_neg (Ne.symm hq)]
        rfl

@[simp] theorem State.mode_setReg (s : State) (r : Reg) (v : Word) : (s.setReg r v).mode = s.mode := by simp [State.mode]
@[simp] theorem State.predOk_setReg (s : State) (r : Reg) (v : Word) : (s.setReg r v).predOk = s.predOk := by
  simp [State.predOk]

/-! Elements of vector registers. -/

/-- An element put in place is there. -/
theorem extract_putElem_same {w : Nat} (v : BitVec 512) (k : Nat) (e : BitVec w) (h : w * k + w ≤ 512) :
    (putElem v k e).extractLsb' (w * k) w = e := by
  apply BitVec.eq_of_getLsbD_eq
  intro i hi
  simp only [putElem, BitVec.getLsbD_extractLsb', BitVec.getLsbD_or, BitVec.getLsbD_and, BitVec.getLsbD_not,
    BitVec.getLsbD_shiftLeft, BitVec.getLsbD_setWidth, BitVec.getLsbD_allOnes]
  have h1 : w * k + i < 512 := by omega
  have h2 : ¬ w * k + i < w * k := by omega
  have h3 : w * k + i - w * k = i := by omega
  have h4 : i < 512 := by omega
  simp [h1, h3, hi, h4]

/-- An element put in place leaves the others alone. -/
theorem extract_putElem_other {w : Nat} (v : BitVec 512) {k j : Nat} (e : BitVec w) (h : j ≠ k) :
    (putElem v k e).extractLsb' (w * j) w = v.extractLsb' (w * j) w := by
  apply BitVec.eq_of_getLsbD_eq
  intro i hi
  simp only [putElem, BitVec.getLsbD_extractLsb', BitVec.getLsbD_or, BitVec.getLsbD_and, BitVec.getLsbD_not,
    BitVec.getLsbD_shiftLeft, BitVec.getLsbD_setWidth, BitVec.getLsbD_allOnes]
  by_cases h1 : w * j + i < 512
  · by_cases hjk : j < k
    · have : w * j + i < w * k := by
        have := Nat.mul_le_mul_left w (show j + 1 ≤ k from hjk)
        rw [Nat.mul_add] at this; omega
      simp [h1, hi, this]
    · have : w * k + w ≤ w * j := by
        have := Nat.mul_le_mul_left w (show k + 1 ≤ j by omega)
        rw [Nat.mul_add] at this; omega
      have h2 : ¬ w * j + i < w * k := by omega
      have h3 : ¬ w * j + i - w * k < w := by omega
      have h4 : e.getLsbD (w * j + i - w * k) = false := BitVec.getLsbD_of_ge _ _ (by omega)
      simp [h1, hi, h2, h3, h4]
  · simp [h1, BitVec.getLsbD_of_ge v (w * j + i) (by omega)]

theorem State.vec_setElem {w : Nat} (s : State) (r : Reg) (k : Nat) (e : BitVec w) :
    (s.setElem r k e).vec r = putElem (s.vec r) k e := by
  have : r.toNat % 32 < 32 := Nat.mod_lt _ (by omega)
  simp [State.vec, State.setElem, this]

theorem State.elem_setElem_same {w : Nat} (s : State) (r : Reg) (k : Nat) (e : BitVec w) (h : w * k + w ≤ 512) :
    (s.setElem r k e).elem w r k = e := by
  rw [State.elem, State.vec_setElem]
  exact extract_putElem_same _ _ _ h

theorem State.elem_setElem_other {w : Nat} (s : State) (r : Reg) {k j : Nat} (e : BitVec w) (h : j ≠ k) :
    (s.setElem r k e).elem w r j = s.elem w r j := by
  rw [State.elem, State.vec_setElem]
  exact extract_putElem_other _ _ h

/-- Writing one vector register, the rest of the state as it was. -/
def State.setVec (s : State) (r : Reg) (v : BitVec 512) : State :=
  { s with vreg := s.vreg.setIfInBounds (r.toNat % 32) v }

theorem State.setElem_eq {w : Nat} (s : State) (r : Reg) (k : Nat) (e : BitVec w) :
    s.setElem r k e = s.setVec r ((s.setElem r k e).vec r) := by
  rw [State.vec_setElem]; rfl

theorem State.vec_setVec (s : State) (r : Reg) (v : BitVec 512) : (s.setVec r v).vec r = v := by
  have : r.toNat % 32 < 32 := Nat.mod_lt _ (by omega)
  simp [State.vec, State.setVec, this]

theorem State.setVec_setVec (s : State) (r : Reg) (v u : BitVec 512) : (s.setVec r v).setVec r u = s.setVec r u := by
  simp [State.setVec]

theorem State.setVec_self (s : State) (r : Reg) : s.setVec r (s.vec r) = s := by
  have h : r.toNat % 32 < 32 := Nat.mod_lt _ (by omega)
  have : s.vreg.setIfInBounds (r.toNat % 32) (s.vec r) = s.vreg := by
    apply Vector.ext
    intro i hi
    rw [Vector.getElem_setIfInBounds]
    split
    · subst_vars; simp [State.vec, h]
    · rfl
  simp [State.setVec, this]

/-- Writing one vector register and the count of values drawn. -/
def State.withVec (s : State) (r : Reg) (v : BitVec 512) (d : Nat) : State := { s.setVec r v with draws := d }

theorem State.withVec_self (s : State) (r : Reg) : s.withVec r (s.vec r) s.draws = s := by
  rw [State.withVec, State.setVec_self]

theorem State.vec_withVec (s : State) (r : Reg) (v : BitVec 512) (d : Nat) : (s.withVec r v d).vec r = v :=
  State.vec_setVec s r v

theorem State.setElem_withVec {w : Nat} (s : State) (r : Reg) (v : BitVec 512) (d k : Nat) (e : BitVec w) :
    (s.withVec r v d).setElem r k e = s.withVec r (putElem v k e) d := by
  rw [State.setElem, State.vec_withVec]
  simp [State.withVec, State.setVec]

/-- The loop over the elements, where each gives a result and does nothing else but draw values: below the count, an
enabled element is a result, every other one is as it was, and only the target and the count of values drawn change. -/
theorem elemLoop_spec {w : Nat} {rt : Reg} {m : Word} {f : Nat → State → Acc Word} {P : Nat → BitVec w → Prop}
    {D : Nat → Nat → Prop} {s : State} (hD : ∀ d, D d d) (hDD : ∀ a b c, D a b → D b c → D a c)
    (n k d : Nat) (v : BitVec 512) (hn : w * (k + n) ≤ 512)
    (hf : ∀ j d v, j < k + n → m.getLsbD j = true →
      ∃ r d', f j (s.withVec rt v d) = .ok r (s.withVec rt v d') ∧ P j (r.setWidth w) ∧ D d d') :
    ∃ u d', elemLoop w rt m f n k (s.withVec rt v d) = .ok () (s.withVec rt u d') ∧ D d d' ∧
      ∀ j, if k ≤ j ∧ j < k + n ∧ m.getLsbD j = true then P j (u.extractLsb' (w * j) w)
        else u.extractLsb' (w * j) w = v.extractLsb' (w * j) w := by
  induction n generalizing k d v with
  | zero => exact ⟨v, d, rfl, hD d, fun j => by rw [if_neg (by omega)]⟩
  | succ n ih =>
    have e1 : w * (k + 1 + n) ≤ 512 := by rw [show k + 1 + n = k + (n + 1) by omega]; exact hn
    have e2 : w * k + w ≤ 512 := by
      have := Nat.mul_le_mul_left w (show k + 1 ≤ k + (n + 1) by omega)
      rw [Nat.mul_add] at this; omega
    simp only [elemLoop]
    by_cases hm : m.getLsbD k = true
    · rw [if_pos hm]
      obtain ⟨r, d1, hr, hp, hd⟩ := hf k d v (by omega) hm
      simp only [hr, State.setElem_withVec]
      obtain ⟨u, d2, hu, hd2, hj⟩ :=
        ih (k + 1) d1 (putElem v k (r.setWidth w)) e1 (fun j d v hj => hf j d v (by omega))
      refine ⟨u, d2, hu, hDD _ _ _ hd hd2, fun j => ?_⟩
      have := hj j
      by_cases hjk : j = k
      · subst hjk
        rw [if_neg (by omega)] at this
        rw [if_pos ⟨by omega, by omega, hm⟩, this, extract_putElem_same _ _ _ e2]
        exact hp
      · rw [extract_putElem_other _ _ hjk] at this
        by_cases hc : k ≤ j ∧ j < k + (n + 1) ∧ m.getLsbD j = true
        · rw [if_pos hc]; rw [if_pos ⟨by omega, by omega, hc.2.2⟩] at this; exact this
        · rw [if_neg hc]; rw [if_neg (by intro h; exact hc ⟨by omega, by omega, h.2.2⟩)] at this; exact this
    · rw [if_neg hm]
      obtain ⟨u, d2, hu, hd2, hj⟩ := ih (k + 1) d v e1 (fun j d v hj => hf j d v (by omega))
      refine ⟨u, d2, hu, hd2, fun j => ?_⟩
      have := hj j
      by_cases hc : k ≤ j ∧ j < k + (n + 1) ∧ m.getLsbD j = true
      · have hjk : j ≠ k := by rintro rfl; exact hm hc.2.2
        rw [if_pos hc]; rw [if_pos ⟨by omega, by omega, hc.2.2⟩] at this; exact this
      · rw [if_neg hc]; rw [if_neg (by intro h; exact hc ⟨by omega, by omega, h.2.2⟩)] at this; exact this

theorem State.elems_le (s : State) (w : Nat) : w * s.elems w ≤ 512 := by
  have h : s.elems w ≤ 512 / w := Nat.min_le_right _ _
  exact le_trans (Nat.mul_le_mul_left w h) (Nat.mul_div_le 512 w)

/-! How an instruction runs and ends. -/

theorem runExt_enabled {x : Ext} {vec : Bool} {body : State → Acc Flow} {s : State} (h : s.enabled x vec) :
    runExt x vec body s = finish (extLen x) s (body s) := by
  obtain ⟨h1, h2⟩ := h
  unfold runExt
  rw [if_pos]
  rcases h2 with rfl | h2
  · simp [h1]
  · simp [h1, h2]

theorem runExt_predFalse {x : Ext} {vec : Bool} {body : State → Acc Flow} {s : State} (h : s.predOk = false) :
    runExt x vec body s = .next (s.passed (extLen x)) := by
  simp [runExt, h, skip, State.passed]

theorem runExt_maskFalse {x : Ext} {body : State → Acc Flow} {s : State} (h : s.maskOk x.mask = false) :
    runExt x false body s = .next (s.passed (extLen x)) := by
  simp [runExt, h, skip, State.passed]

theorem runTail_enabled {base : Nat} {t : Tail} {body : State → Acc Flow} {s : State} (h : s.predOk = true) :
    runTail base t body s = finish (base + t.len) s (body s) := by
  simp [runTail, h]

theorem runTail_predFalse {base : Nat} {t : Tail} {body : State → Acc Flow} {s : State} (h : s.predOk = false) :
    runTail base t body s = .next (s.passed (base + t.len)) := by
  simp [runTail, h, skip, State.passed]

/-- A scalar instruction that writes a result. -/
theorem finish_setReg (len : Nat) (s : State) (rt : Reg) (v : Word) :
    finish len s (.ok .seq (s.setReg rt v)) = .next (s.wrote len rt v) := by
  simp [finish, State.wrote, State.passed]

/-- What a vector `alu` does where each element gives a result and does nothing else but draw values. -/
theorem alu_vec {w : Nat} {rt : Reg} {m : Option MaskByte} {f : Nat → State → Acc Word} {P : Nat → BitVec w → Prop}
    {D : Nat → Nat → Prop} {s : State} {len : Nat} (hD : ∀ d, D d d) (hDD : ∀ a b c, D a b → D b c → D a c)
    (hf : ∀ k d v, k < s.elems w → (s.vecMask m).getLsbD k = true →
      ∃ r d', f k (s.withVec rt v d) = .ok r (s.withVec rt v d') ∧ P k (r.setWidth w) ∧ D d d') :
    ∃ t, finish len s (alu w true rt m f s) = .next t ∧ LanesRel s t w rt (s.vecMask m) len P ∧ D s.draws t.draws := by
  obtain ⟨u, d, hu, hd, hj⟩ := elemLoop_spec hD hDD (s.elems w) 0 s.draws (s.vec rt)
    (by rw [Nat.zero_add]; exact s.elems_le w) (fun j d v hj => hf j d v (by omega))
  rw [State.withVec_self] at hu
  have hv : State.vec { s.withVec rt u d with
      vrm := BitVec.allOnes 128, pc := s.pc + .ofNat 64 len, retire := .seq } rt = u := State.vec_withVec s rt u d
  refine ⟨{ s.withVec rt u d with vrm := BitVec.allOnes 128, pc := s.pc + .ofNat 64 len, retire := .seq }, ?_, ⟨?_, ?_⟩,
    hd⟩
  · simp only [alu, if_true, hu]
    rfl
  · intro k _
    have := hj k
    simp only [State.elem, hv]
    by_cases hc : k < s.elems w ∧ (s.vecMask m).getLsbD k = true
    · rw [if_pos hc]; rw [if_pos ⟨by omega, by omega, hc.2⟩] at this; exact this
    · rw [if_neg hc]; rw [if_neg (by intro h; exact hc ⟨by omega, h.2.2⟩)] at this; exact this
  · rw [hv]; rfl

/-- An instruction whose result for element k is `f k` and that does nothing else. -/
theorem computes_alu {i : Instr} {s : State} {x : Ext} {vec : Bool} {w : Nat} {rt : Reg} {g : Nat → State → Acc Word}
    {f : Nat → Word} (hi : exec i s = runExt x vec (fun s => alu w vec rt x.mask g s) s)
    (hg : ∀ k v d, g k (s.withVec rt v d) = .ok (f k) (s.withVec rt v d)) : Computes i s x vec w rt f := by
  intro h
  rw [hi, runExt_enabled h]
  cases vec
  · have := hg 0 (s.vec rt) s.draws
    rw [State.withVec_self] at this
    simp only [Bool.false_eq_true, if_false, alu, this, Acc.bind]
    exact finish_setReg _ _ _ _
  · simp only [if_true]
    obtain ⟨t, ht, hl, hd⟩ := alu_vec (w := w) (rt := rt) (m := x.mask) (f := g) (s := s) (len := extLen x)
      (P := fun k r => r = (f k).setWidth w) (D := fun a b => b = a) (fun _ => rfl) (fun a b c h1 h2 => h2.trans h1)
      (fun k d v _ _ => ⟨f k, d, hg _ _ _, rfl, rfl⟩)
    exact ⟨t, ht, hl, hd⟩

/-- The register forms. -/
theorem computes_r2M {i : Instr} {d : Deco} {g : (w : Nat) → BitVec w → BitVec w → State → Acc Word} {o : R2} {x : Ext}
    {s : State} {f : Nat → Word} (hi : exec i s = r2M d g o x s)
    (hg : ∀ k v n, g o.size.bits (o.a d s k) (o.b d x.tail s k) (s.withVec o.rt v n) =
      .ok (f k) (s.withVec o.rt v n)) : Computes i s x (vbitsVec o.vec) o.size.bits o.rt f :=
  computes_alu (g := fun k => g o.size.bits (o.a d s k) (o.b d x.tail s k)) (by rw [hi]; unfold r2M runExt; rfl) hg

theorem computes_r2 {i : Instr} {d dt : Deco} {fill : Fill} {f : (w : Nat) → BitVec w → BitVec w → BitVec w} {o : R2}
    {x : Ext} {s : State} {g : Nat → Word} (hi : exec i s = r2 d dt fill f o x s)
    (hg : ∀ k, result dt o.st fill (f o.size.bits (o.a d s k) (o.b d x.tail s k)) = g k) :
    Computes i s x (vbitsVec o.vec) o.size.bits o.rt g :=
  computes_r2M (g := fun w a b s => .ok (result dt o.st fill (f w a b)) s) hi (fun k v n => by rw [hg])

/-- The immediate forms. -/
theorem computes_riM {i : Instr} {d : Deco} {g : (w : Nat) → BitVec w → BitVec w → State → Acc Word} {o : RI} {x : Ext}
    {s : State} {f : Nat → Word} (hi : exec i s = riM d g o x s)
    (hg : ∀ k v n, g o.size.bits (o.a d s k) (o.b x.tail) (s.withVec o.rt v n) = .ok (f k) (s.withVec o.rt v n)) :
    Computes i s x o.vec o.size.bits o.rt f :=
  computes_alu (g := fun k => g o.size.bits (o.a d s k) (o.b x.tail)) (by rw [hi]; unfold riM runExt; rfl) hg

theorem computes_ri {i : Instr} {d dt : Deco} {fill : Fill} {f : (w : Nat) → BitVec w → BitVec w → BitVec w} {o : RI}
    {x : Ext} {s : State} {g : Nat → Word} (hi : exec i s = ri d dt fill f o x s)
    (hg : ∀ k, result dt o.st fill (f o.size.bits (o.a d s k) (o.b x.tail)) = g k) :
    Computes i s x o.vec o.size.bits o.rt g :=
  computes_riM (g := fun w a b s => .ok (result dt o.st fill (f w a b)) s) hi (fun k v n => by rw [hg])

/-- The forms of one operand. -/
theorem computes_r1 {i : Instr} {d dt : Deco} {fill : Fill} {f : (w : Nat) → BitVec w → BitVec w} {o : R1}
    {x : Ext} {s : State} {g : Nat → Word} (hi : exec i s = r1 d dt fill f o x s)
    (hg : ∀ k, result dt o.st fill (f o.size.bits ((srcOf (vbitsVec o.vec) o.ra).value d o.sa s o.size.bits k)) = g k) :
    Computes i s x (vbitsVec o.vec) o.size.bits o.rt g :=
  computes_alu (g := fun k s' => .ok (result dt o.st fill
      (f o.size.bits ((srcOf (vbitsVec o.vec) o.ra).value d o.sa s o.size.bits k))) s')
    (by rw [hi]; unfold r1 runExt; rfl) (fun k v d => by rw [hg])

/-! Exceptions. -/

theorem enterState_ram {k : Entry} {vec : BitVec 9} {epc : Addr} {bad : Option Addr} {s : State} {va : Addr} {n : Nat}
    (h : s.ram va n) : (enterState k vec epc bad s).ram va n := h

theorem vectorEntry_enterState (k : Entry) (v vec : BitVec 9) (epc : Addr) (bad : Option Addr) (s : State) :
    (vectorEntry v (enterState k vec epc bad s)).1 = (vectorEntry v s).1 := by
  simp only [vectorEntry]
  split <;> rfl

/-- Taking an exception whose vector table entry is memory. -/
theorem enter_handler {k : Entry} {vec : BitVec 9} {epc : Addr} {bad : Option Addr} {s : State} {a : Addr}
    (h : s.handler vec a) : enter k vec epc bad s = .next { enterState k vec epc bad s with pc := a } := by
  have hr : (enterState k vec epc bad s).ram (vectorEntry vec (enterState k vec epc bad s)).1 8 := by
    rw [vectorEntry_enterState]; exact h.1
  have hd : (enterState k vec epc bad s).data (vectorEntry vec (enterState k vec epc bad s)).1 8 = a.toNat := by
    rw [vectorEntry_enterState]; exact h.2
  have := memReadAs_ram (k := .read) (m := (vectorEntry vec (enterState k vec epc bad s)).2) hr (by omega)
  simp only [enter, this, hd, BitVec.ofNat_toNat, BitVec.setWidth_eq]

/-! SUB. -/

/-- SUB outside a CARRY window, and in a vector form, is the sum with its operand under Sb = 1 (40_integer R308). -/
theorem execSub_eq_r2 {o : R2} {x : Ext} {s : State} (h : s.win.carry = none ∨ o.vec ≠ .scalar) :
    execSub o x s = r2 .neg .neg .sign (fun _ a b => a + b) { o with sb := true } x s := by
  unfold execSub
  rw [if_neg]
  rcases h with h | h
  · simp [h]
  · simp [vbitsVec, h]

/-- A scalar SUB in a CARRY window adds the complement of the plain operand, with the carry (49_modifiers R715). -/
theorem execSub_eq_carry {o : R2} {x : Ext} {s : State} {wd : Window} (h : s.win.carry = some wd) (hv : o.vec = .scalar) :
    execSub o x s = r2M .neg (addCarry (!x.tail.hasConst) o.st) { o with sb := false } x s := by
  unfold execSub
  rw [if_pos]
  simp [h, hv, vbitsVec]

end Sys2Proof.Machine
end

