-- ==== Sys2Proof/Laws/PerInstr.lean ====
section
/-! SUPPORT. The family FitsFetch, over every instruction: what the encoder writes has the instruction's length, and that is
at most 35 bytes (30_encoding R203). -/

set_option Elab.async false

namespace Sys2Proof.Laws

/-- The encoding of an instruction has its length, which no instruction has above 35. -/
def FitsFetch.Statement (i : Instr) : Prop := (encode i).length = i.len ∧ i.len ≤ 35

theorem encTail_length (t : Tail) : (encTail t).length = t.len := by
  rcases t with ⟨w0, w1, w2, regs⟩
  cases w0 <;> cases w1 <;> cases w2 <;> cases regs <;>
    simp [encTail, encPostfix, Tail.len, Machine.toBytes_length]

theorem Tail.len_le (t : Tail) : t.len ≤ 29 := by
  rcases t with ⟨w0, w1, w2, regs⟩
  cases w0 <;> cases w1 <;> cases w2 <;> cases regs <;> simp [Tail.len]

theorem encode_length (i : Instr) : (encode i).length = i.len := by
  unfold encode Instr.len
  cases i.sixth <;> simp [encTail_length, Machine.toBytes_length, Nat.add_assoc, Nat.add_comm 1]

/-- An instruction whose base word and mask byte take at most six bytes. -/
theorem fitsFetch_of_base {i : Instr} (h : i.baseLen + i.sixth.isSome.toNat ≤ 6) : FitsFetch.Statement i :=
  ⟨encode_length i, by
    have := Tail.len_le i.tail
    unfold Instr.len
    omega⟩

theorem FitsFetch.brk (t : Tail) : FitsFetch.Statement (.brk t) :=
  fitsFetch_of_base (Nat.le_of_ble_eq_true rfl)
theorem FitsFetch.trapRa (o : TrapR) (t : Tail) : FitsFetch.Statement (.trapRa o t) :=
  fitsFetch_of_base (Nat.le_of_ble_eq_true rfl)
theorem FitsFetch.trapImm (o : TrapI) (t : Tail) : FitsFetch.Statement (.trapImm o t) :=
  fitsFetch_of_base (Nat.le_of_ble_eq_true rfl)
theorem FitsFetch.add (o : R2) (x : Ext) : FitsFetch.Statement (.add o x) :=
  fitsFetch_of_base (Nat.add_le_add_left (Bool.toNat_le _) 5)
theorem FitsFetch.sub (o : R2) (x : Ext) : FitsFetch.Statement (.sub o x) :=
  fitsFetch_of_base (Nat.add_le_add_left (Bool.toNat_le _) 5)
theorem FitsFetch.rtdReg (o : RtdR) (t : Tail) : FitsFetch.Statement (.rtdReg o t) :=
  fitsFetch_of_base (Nat.le_of_ble_eq_true rfl)
theorem FitsFetch.rtsReg (o : RtdR) (t : Tail) : FitsFetch.Statement (.rtsReg o t) :=
  fitsFetch_of_base (Nat.le_of_ble_eq_true rfl)
theorem FitsFetch.cmp (o : R2) (x : Ext) : FitsFetch.Statement (.cmp o x) :=
  fitsFetch_of_base (Nat.add_le_add_left (Bool.toNat_le _) 5)
theorem FitsFetch.cmpsB (o : R2) (x : Ext) : FitsFetch.Statement (.cmpsB o x) :=
  fitsFetch_of_base (Nat.add_le_add_left (Bool.toNat_le _) 5)
theorem FitsFetch.mul (o : R2) (x : Ext) : FitsFetch.Statement (.mul o x) :=
  fitsFetch_of_base (Nat.add_le_add_left (Bool.toNat_le _) 5)
theorem FitsFetch.mulu (o : R2) (x : Ext) : FitsFetch.Statement (.mulu o x) :=
  fitsFetch_of_base (Nat.add_le_add_left (Bool.toNat_le _) 5)
theorem FitsFetch.mulsu (o : R2) (x : Ext) : FitsFetch.Statement (.mulsu o x) :=
  fitsFetch_of_base (Nat.add_le_add_left (Bool.toNat_le _) 5)
theorem FitsFetch.div (o : R2) (x : Ext) : FitsFetch.Statement (.div o x) :=
  fitsFetch_of_base (Nat.add_le_add_left (Bool.toNat_le _) 5)
theorem FitsFetch.divu (o : R2) (x : Ext) : FitsFetch.Statement (.divu o x) :=
  fitsFetch_of_base (Nat.add_le_add_left (Bool.toNat_le _) 5)
theorem FitsFetch.divsu (o : R2) (x : Ext) : FitsFetch.Statement (.divsu o x) :=
  fitsFetch_of_base (Nat.add_le_add_left (Bool.toNat_le _) 5)
theorem FitsFetch.and (o : R2) (x : Ext) : FitsFetch.Statement (.and o x) :=
  fitsFetch_of_base (Nat.add_le_add_left (Bool.toNat_le _) 5)
theorem FitsFetch.nand (o : R2) (x : Ext) : FitsFetch.Statement (.nand o x) :=
  fitsFetch_of_base (Nat.add_le_add_left (Bool.toNat_le _) 5)
theorem FitsFetch.or (o : R2) (x : Ext) : FitsFetch.Statement (.or o x) :=
  fitsFetch_of_base (Nat.add_le_add_left (Bool.toNat_le _) 5)
theorem FitsFetch.nor (o : R2) (x : Ext) : FitsFetch.Statement (.nor o x) :=
  fitsFetch_of_base (Nat.add_le_add_left (Bool.toNat_le _) 5)
theorem FitsFetch.eor (o : R2) (x : Ext) : FitsFetch.Statement (.eor o x) :=
  fitsFetch_of_base (Nat.add_le_add_left (Bool.toNat_le _) 5)
theorem FitsFetch.enor (o : R2) (x : Ext) : FitsFetch.Statement (.enor o x) :=
  fitsFetch_of_base (Nat.add_le_add_left (Bool.toNat_le _) 5)
theorem FitsFetch.mulh (o : R2) (x : Ext) : FitsFetch.Statement (.mulh o x) :=
  fitsFetch_of_base (Nat.add_le_add_left (Bool.toNat_le _) 5)
theorem FitsFetch.muluh (o : R2) (x : Ext) : FitsFetch.Statement (.muluh o x) :=
  fitsFetch_of_base (Nat.add_le_add_left (Bool.toNat_le _) 5)
theorem FitsFetch.chrndx (o : R2) (x : Ext) : FitsFetch.Statement (.chrndx o x) :=
  fitsFetch_of_base (Nat.add_le_add_left (Bool.toNat_le _) 5)
theorem FitsFetch.chrndxImm (o : R2I) (x : Ext) : FitsFetch.Statement (.chrndxImm o x) :=
  fitsFetch_of_base (Nat.add_le_add_left (Bool.toNat_le _) 5)
theorem FitsFetch.clmul (o : R2) (x : Ext) : FitsFetch.Statement (.clmul o x) :=
  fitsFetch_of_base (Nat.add_le_add_left (Bool.toNat_le _) 5)
theorem FitsFetch.clmulImm (o : R2I) (x : Ext) : FitsFetch.Statement (.clmulImm o x) :=
  fitsFetch_of_base (Nat.add_le_add_left (Bool.toNat_le _) 5)
theorem FitsFetch.mod (o : R2) (x : Ext) : FitsFetch.Statement (.mod o x) :=
  fitsFetch_of_base (Nat.add_le_add_left (Bool.toNat_le _) 5)
theorem FitsFetch.modu (o : R2) (x : Ext) : FitsFetch.Statement (.modu o x) :=
  fitsFetch_of_base (Nat.add_le_add_left (Bool.toNat_le _) 5)
theorem FitsFetch.bmap (o : R2) (x : Ext) : FitsFetch.Statement (.bmap o x) :=
  fitsFetch_of_base (Nat.add_le_add_left (Bool.toNat_le _) 5)
theorem FitsFetch.jmpIdx (o : JmpC) (t : Tail) : FitsFetch.Statement (.jmpIdx o t) :=
  fitsFetch_of_base (Nat.le_of_ble_eq_true rfl)
theorem FitsFetch.jmpIdxInd (o : JmpD) (t : Tail) : FitsFetch.Statement (.jmpIdxInd o t) :=
  fitsFetch_of_base (Nat.le_of_ble_eq_true rfl)
theorem FitsFetch.jsrIdx (o : JmpC) (t : Tail) : FitsFetch.Statement (.jsrIdx o t) :=
  fitsFetch_of_base (Nat.le_of_ble_eq_true rfl)
theorem FitsFetch.jsrIdxInd (o : JmpD) (t : Tail) : FitsFetch.Statement (.jsrIdxInd o t) :=
  fitsFetch_of_base (Nat.le_of_ble_eq_true rfl)
theorem FitsFetch.seq (o : R2) (x : Ext) : FitsFetch.Statement (.seq o x) :=
  fitsFetch_of_base (Nat.add_le_add_left (Bool.toNat_le _) 5)
theorem FitsFetch.sne (o : R2) (x : Ext) : FitsFetch.Statement (.sne o x) :=
  fitsFetch_of_base (Nat.add_le_add_left (Bool.toNat_le _) 5)
theorem FitsFetch.slt (o : R2) (x : Ext) : FitsFetch.Statement (.slt o x) :=
  fitsFetch_of_base (Nat.add_le_add_left (Bool.toNat_le _) 5)
theorem FitsFetch.sge (o : R2) (x : Ext) : FitsFetch.Statement (.sge o x) :=
  fitsFetch_of_base (Nat.add_le_add_left (Bool.toNat_le _) 5)
theorem FitsFetch.sle (o : R2) (x : Ext) : FitsFetch.Statement (.sle o x) :=
  fitsFetch_of_base (Nat.add_le_add_left (Bool.toNat_le _) 5)
theorem FitsFetch.sgt (o : R2) (x : Ext) : FitsFetch.Statement (.sgt o x) :=
  fitsFetch_of_base (Nat.add_le_add_left (Bool.toNat_le _) 5)
theorem FitsFetch.sltu (o : R2) (x : Ext) : FitsFetch.Statement (.sltu o x) :=
  fitsFetch_of_base (Nat.add_le_add_left (Bool.toNat_le _) 5)
theorem FitsFetch.sgeu (o : R2) (x : Ext) : FitsFetch.Statement (.sgeu o x) :=
  fitsFetch_of_base (Nat.add_le_add_left (Bool.toNat_le _) 5)
theorem FitsFetch.sleu (o : R2) (x : Ext) : FitsFetch.Statement (.sleu o x) :=
  fitsFetch_of_base (Nat.add_le_add_left (Bool.toNat_le _) 5)
theorem FitsFetch.sgtu (o : R2) (x : Ext) : FitsFetch.Statement (.sgtu o x) :=
  fitsFetch_of_base (Nat.add_le_add_left (Bool.toNat_le _) 5)
theorem FitsFetch.pred (o : PredOp) (t : Tail) : FitsFetch.Statement (.pred o t) :=
  fitsFetch_of_base (Nat.le_of_ble_eq_true rfl)
theorem FitsFetch.carry (o : CarryOp) (t : Tail) : FitsFetch.Statement (.carry o t) :=
  fitsFetch_of_base (Nat.le_of_ble_eq_true rfl)
theorem FitsFetch.rep (o : RepOp) (t : Tail) : FitsFetch.Statement (.rep o t) :=
  fitsFetch_of_base (Nat.le_of_ble_eq_true rfl)
theorem FitsFetch.atom (o : AtomOp) (t : Tail) : FitsFetch.Statement (.atom o t) :=
  fitsFetch_of_base (Nat.le_of_ble_eq_true rfl)
theorem FitsFetch.round (imm : BitVec 24) (t : Tail) : FitsFetch.Statement (.round imm t) :=
  fitsFetch_of_base (Nat.le_of_ble_eq_true rfl)
theorem FitsFetch.v2bits (o : R2) (x : Ext) : FitsFetch.Statement (.v2bits o x) :=
  fitsFetch_of_base (Nat.add_le_add_left (Bool.toNat_le _) 5)
theorem FitsFetch.dif (w : BitVec 40) (x : Ext) : FitsFetch.Statement (.dif w x) :=
  fitsFetch_of_base (Nat.add_le_add_left (Bool.toNat_le _) 5)
theorem FitsFetch.ptrdif (w : BitVec 40) (x : Ext) : FitsFetch.Statement (.ptrdif w x) :=
  fitsFetch_of_base (Nat.add_le_add_left (Bool.toNat_le _) 5)
theorem FitsFetch.revbitMap (w : BitVec 40) (x : Ext) : FitsFetch.Statement (.revbitMap w x) :=
  fitsFetch_of_base (Nat.add_le_add_left (Bool.toNat_le _) 5)
theorem FitsFetch.bits2v (w : BitVec 40) (x : Ext) : FitsFetch.Statement (.bits2v w x) :=
  fitsFetch_of_base (Nat.add_le_add_left (Bool.toNat_le _) 5)
theorem FitsFetch.vex (w : BitVec 40) (x : Ext) : FitsFetch.Statement (.vex w x) :=
  fitsFetch_of_base (Nat.add_le_add_left (Bool.toNat_le _) 5)
theorem FitsFetch.veins (w : BitVec 40) (x : Ext) : FitsFetch.Statement (.veins w x) :=
  fitsFetch_of_base (Nat.add_le_add_left (Bool.toNat_le _) 5)
theorem FitsFetch.vgndx (w : BitVec 40) (x : Ext) : FitsFetch.Statement (.vgndx w x) :=
  fitsFetch_of_base (Nat.add_le_add_left (Bool.toNat_le _) 5)
theorem FitsFetch.sgeuMap (w : BitVec 40) (x : Ext) : FitsFetch.Statement (.sgeuMap w x) :=
  fitsFetch_of_base (Nat.add_le_add_left (Bool.toNat_le _) 5)
theorem FitsFetch.sgtuMap (w : BitVec 40) (x : Ext) : FitsFetch.Statement (.sgtuMap w x) :=
  fitsFetch_of_base (Nat.add_le_add_left (Bool.toNat_le _) 5)
theorem FitsFetch.min (w : BitVec 40) (x : Ext) : FitsFetch.Statement (.min w x) :=
  fitsFetch_of_base (Nat.add_le_add_left (Bool.toNat_le _) 5)
theorem FitsFetch.max (w : BitVec 40) (x : Ext) : FitsFetch.Statement (.max w x) :=
  fitsFetch_of_base (Nat.add_le_add_left (Bool.toNat_le _) 5)
theorem FitsFetch.bmm (w : BitVec 40) (x : Ext) : FitsFetch.Statement (.bmm w x) :=
  fitsFetch_of_base (Nat.add_le_add_left (Bool.toNat_le _) 5)
theorem FitsFetch.mux (w : BitVec 40) (x : Ext) : FitsFetch.Statement (.mux w x) :=
  fitsFetch_of_base (Nat.add_le_add_left (Bool.toNat_le _) 5)
theorem FitsFetch.aes64ks1i (w : BitVec 40) (x : Ext) : FitsFetch.Statement (.aes64ks1i w x) :=
  fitsFetch_of_base (Nat.add_le_add_left (Bool.toNat_le _) 5)
theorem FitsFetch.aes64ks2 (w : BitVec 40) (x : Ext) : FitsFetch.Statement (.aes64ks2 w x) :=
  fitsFetch_of_base (Nat.add_le_add_left (Bool.toNat_le _) 5)
theorem FitsFetch.sm4ed (o : R2) (x : Ext) : FitsFetch.Statement (.sm4ed o x) :=
  fitsFetch_of_base (Nat.add_le_add_left (Bool.toNat_le _) 5)
theorem FitsFetch.sm4ks (o : R2) (x : Ext) : FitsFetch.Statement (.sm4ks o x) :=
  fitsFetch_of_base (Nat.add_le_add_left (Bool.toNat_le _) 5)
theorem FitsFetch.cntlz (o : R1) (x : Ext) : FitsFetch.Statement (.cntlz o x) :=
  fitsFetch_of_base (Nat.add_le_add_left (Bool.toNat_le _) 5)
theorem FitsFetch.cntlo (o : R1) (x : Ext) : FitsFetch.Statement (.cntlo o x) :=
  fitsFetch_of_base (Nat.add_le_add_left (Bool.toNat_le _) 5)
theorem FitsFetch.cntpop (o : R1) (x : Ext) : FitsFetch.Statement (.cntpop o x) :=
  fitsFetch_of_base (Nat.add_le_add_left (Bool.toNat_le _) 5)
theorem FitsFetch.abs (o : R1) (x : Ext) : FitsFetch.Statement (.abs o x) :=
  fitsFetch_of_base (Nat.add_le_add_left (Bool.toNat_le _) 5)
theorem FitsFetch.sqrt (o : R1) (x : Ext) : FitsFetch.Statement (.sqrt o x) :=
  fitsFetch_of_base (Nat.add_le_add_left (Bool.toNat_le _) 5)
theorem FitsFetch.revbit (o : R1) (x : Ext) : FitsFetch.Statement (.revbit o x) :=
  fitsFetch_of_base (Nat.add_le_add_left (Bool.toNat_le _) 5)
theorem FitsFetch.sm3p0 (o : R1) (x : Ext) : FitsFetch.Statement (.sm3p0 o x) :=
  fitsFetch_of_base (Nat.add_le_add_left (Bool.toNat_le _) 5)
theorem FitsFetch.sm3p1 (o : R1) (x : Ext) : FitsFetch.Statement (.sm3p1 o x) :=
  fitsFetch_of_base (Nat.add_le_add_left (Bool.toNat_le _) 5)
theorem FitsFetch.aes64ds (o : R1) (x : Ext) : FitsFetch.Statement (.aes64ds o x) :=
  fitsFetch_of_base (Nat.add_le_add_left (Bool.toNat_le _) 5)
theorem FitsFetch.aes64dsm (o : R1) (x : Ext) : FitsFetch.Statement (.aes64dsm o x) :=
  fitsFetch_of_base (Nat.add_le_add_left (Bool.toNat_le _) 5)
theorem FitsFetch.aes64es (o : R1) (x : Ext) : FitsFetch.Statement (.aes64es o x) :=
  fitsFetch_of_base (Nat.add_le_add_left (Bool.toNat_le _) 5)
theorem FitsFetch.aes64esm (o : R1) (x : Ext) : FitsFetch.Statement (.aes64esm o x) :=
  fitsFetch_of_base (Nat.add_le_add_left (Bool.toNat_le _) 5)
theorem FitsFetch.aes64im (w : BitVec 40) (x : Ext) : FitsFetch.Statement (.aes64im w x) :=
  fitsFetch_of_base (Nat.add_le_add_left (Bool.toNat_le _) 5)
theorem FitsFetch.sha256sig0 (o : R1) (x : Ext) : FitsFetch.Statement (.sha256sig0 o x) :=
  fitsFetch_of_base (Nat.add_le_add_left (Bool.toNat_le _) 5)
theorem FitsFetch.sha256sig1 (o : R1) (x : Ext) : FitsFetch.Statement (.sha256sig1 o x) :=
  fitsFetch_of_base (Nat.add_le_add_left (Bool.toNat_le _) 5)
theorem FitsFetch.sha256sum0 (o : R1) (x : Ext) : FitsFetch.Statement (.sha256sum0 o x) :=
  fitsFetch_of_base (Nat.add_le_add_left (Bool.toNat_le _) 5)
theorem FitsFetch.sha256sum1 (o : R1) (x : Ext) : FitsFetch.Statement (.sha256sum1 o x) :=
  fitsFetch_of_base (Nat.add_le_add_left (Bool.toNat_le _) 5)
theorem FitsFetch.sha512sig0 (o : R1) (x : Ext) : FitsFetch.Statement (.sha512sig0 o x) :=
  fitsFetch_of_base (Nat.add_le_add_left (Bool.toNat_le _) 5)
theorem FitsFetch.sha512sig1 (o : R1) (x : Ext) : FitsFetch.Statement (.sha512sig1 o x) :=
  fitsFetch_of_base (Nat.add_le_add_left (Bool.toNat_le _) 5)
theorem FitsFetch.sha512sum0 (o : R1) (x : Ext) : FitsFetch.Statement (.sha512sum0 o x) :=
  fitsFetch_of_base (Nat.add_le_add_left (Bool.toNat_le _) 5)
theorem FitsFetch.sha512sum1 (o : R1) (x : Ext) : FitsFetch.Statement (.sha512sum1 o x) :=
  fitsFetch_of_base (Nat.add_le_add_left (Bool.toNat_le _) 5)
theorem FitsFetch.csrrd (o : CsrR) (x : Ext) : FitsFetch.Statement (.csrrd o x) :=
  fitsFetch_of_base (Nat.add_le_add_left (Bool.toNat_le _) 5)
theorem FitsFetch.csrrdImm (o : CsrI) (x : Ext) : FitsFetch.Statement (.csrrdImm o x) :=
  fitsFetch_of_base (Nat.add_le_add_left (Bool.toNat_le _) 5)
theorem FitsFetch.csrwr (o : CsrR) (x : Ext) : FitsFetch.Statement (.csrwr o x) :=
  fitsFetch_of_base (Nat.add_le_add_left (Bool.toNat_le _) 5)
theorem FitsFetch.csrwrImm (o : CsrI) (x : Ext) : FitsFetch.Statement (.csrwrImm o x) :=
  fitsFetch_of_base (Nat.add_le_add_left (Bool.toNat_le _) 5)
theorem FitsFetch.csrrs (o : CsrR) (x : Ext) : FitsFetch.Statement (.csrrs o x) :=
  fitsFetch_of_base (Nat.add_le_add_left (Bool.toNat_le _) 5)
theorem FitsFetch.csrrsImm (o : CsrI) (x : Ext) : FitsFetch.Statement (.csrrsImm o x) :=
  fitsFetch_of_base (Nat.add_le_add_left (Bool.toNat_le _) 5)
theorem FitsFetch.csrrc (o : CsrR) (x : Ext) : FitsFetch.Statement (.csrrc o x) :=
  fitsFetch_of_base (Nat.add_le_add_left (Bool.toNat_le _) 5)
theorem FitsFetch.csrrcImm (o : CsrI) (x : Ext) : FitsFetch.Statement (.csrrcImm o x) :=
  fitsFetch_of_base (Nat.add_le_add_left (Bool.toNat_le _) 5)
theorem FitsFetch.csreor (o : CsrR) (x : Ext) : FitsFetch.Statement (.csreor o x) :=
  fitsFetch_of_base (Nat.add_le_add_left (Bool.toNat_le _) 5)
theorem FitsFetch.csreorImm (o : CsrI) (x : Ext) : FitsFetch.Statement (.csreorImm o x) :=
  fitsFetch_of_base (Nat.add_le_add_left (Bool.toNat_le _) 5)
theorem FitsFetch.cpuid (o : CsrR) (x : Ext) : FitsFetch.Statement (.cpuid o x) :=
  fitsFetch_of_base (Nat.add_le_add_left (Bool.toNat_le _) 5)
theorem FitsFetch.cpuidImm (o : CsrI) (x : Ext) : FitsFetch.Statement (.cpuidImm o x) :=
  fitsFetch_of_base (Nat.add_le_add_left (Bool.toNat_le _) 5)
theorem FitsFetch.getvl (o : GetVl) (x : Ext) : FitsFetch.Statement (.getvl o x) :=
  fitsFetch_of_base (Nat.add_le_add_left (Bool.toNat_le _) 5)
theorem FitsFetch.setvl (o : CsrR) (x : Ext) : FitsFetch.Statement (.setvl o x) :=
  fitsFetch_of_base (Nat.add_le_add_left (Bool.toNat_le _) 5)
theorem FitsFetch.setvlImm (o : CsrI) (x : Ext) : FitsFetch.Statement (.setvlImm o x) :=
  fitsFetch_of_base (Nat.add_le_add_left (Bool.toNat_le _) 5)
theorem FitsFetch.addi (o : RI) (x : Ext) : FitsFetch.Statement (.addi o x) :=
  fitsFetch_of_base (Nat.add_le_add_left (Bool.toNat_le _) 5)
theorem FitsFetch.rtdImm (o : RtdI) (t : Tail) : FitsFetch.Statement (.rtdImm o t) :=
  fitsFetch_of_base (Nat.le_of_ble_eq_true rfl)
theorem FitsFetch.rtsImm (o : RtdI) (t : Tail) : FitsFetch.Statement (.rtsImm o t) :=
  fitsFetch_of_base (Nat.le_of_ble_eq_true rfl)
theorem FitsFetch.rte1 (o : RteOp) (t : Tail) : FitsFetch.Statement (.rte1 o t) :=
  fitsFetch_of_base (Nat.le_of_ble_eq_true rfl)
theorem FitsFetch.rte2 (o : RteOp) (t : Tail) : FitsFetch.Statement (.rte2 o t) :=
  fitsFetch_of_base (Nat.le_of_ble_eq_true rfl)
theorem FitsFetch.cmpi (o : RI) (x : Ext) : FitsFetch.Statement (.cmpi o x) :=
  fitsFetch_of_base (Nat.add_le_add_left (Bool.toNat_le _) 5)
theorem FitsFetch.muli (o : RI) (x : Ext) : FitsFetch.Statement (.muli o x) :=
  fitsFetch_of_base (Nat.add_le_add_left (Bool.toNat_le _) 5)
theorem FitsFetch.mului (o : RI) (x : Ext) : FitsFetch.Statement (.mului o x) :=
  fitsFetch_of_base (Nat.add_le_add_left (Bool.toNat_le _) 5)
theorem FitsFetch.divi (o : RI) (x : Ext) : FitsFetch.Statement (.divi o x) :=
  fitsFetch_of_base (Nat.add_le_add_left (Bool.toNat_le _) 5)
theorem FitsFetch.andi (o : RI) (x : Ext) : FitsFetch.Statement (.andi o x) :=
  fitsFetch_of_base (Nat.add_le_add_left (Bool.toNat_le _) 5)
theorem FitsFetch.nandi (o : RI) (x : Ext) : FitsFetch.Statement (.nandi o x) :=
  fitsFetch_of_base (Nat.add_le_add_left (Bool.toNat_le _) 5)
theorem FitsFetch.ori (o : RI) (x : Ext) : FitsFetch.Statement (.ori o x) :=
  fitsFetch_of_base (Nat.add_le_add_left (Bool.toNat_le _) 5)
theorem FitsFetch.nori (o : RI) (x : Ext) : FitsFetch.Statement (.nori o x) :=
  fitsFetch_of_base (Nat.add_le_add_left (Bool.toNat_le _) 5)
theorem FitsFetch.orf (o : RI) (x : Ext) : FitsFetch.Statement (.orf o x) :=
  fitsFetch_of_base (Nat.add_le_add_left (Bool.toNat_le _) 5)
theorem FitsFetch.eori (o : RI) (x : Ext) : FitsFetch.Statement (.eori o x) :=
  fitsFetch_of_base (Nat.add_le_add_left (Bool.toNat_le _) 5)
theorem FitsFetch.enori (o : RI) (x : Ext) : FitsFetch.Statement (.enori o x) :=
  fitsFetch_of_base (Nat.add_le_add_left (Bool.toNat_le _) 5)
theorem FitsFetch.chk (o : ChkR) (x : Ext) : FitsFetch.Statement (.chk o x) :=
  fitsFetch_of_base (Nat.add_le_add_left (Bool.toNat_le _) 5)
theorem FitsFetch.chki (o : ChkI) (x : Ext) : FitsFetch.Statement (.chki o x) :=
  fitsFetch_of_base (Nat.add_le_add_left (Bool.toNat_le _) 5)
theorem FitsFetch.bmapImm (o : RI) (x : Ext) : FitsFetch.Statement (.bmapImm o x) :=
  fitsFetch_of_base (Nat.add_le_add_left (Bool.toNat_le _) 5)
theorem FitsFetch.fscaleb (o : F2) (x : Ext) : FitsFetch.Statement (.fscaleb o x) :=
  fitsFetch_of_base (Nat.add_le_add_left (Bool.toNat_le _) 5)
theorem FitsFetch.fscalebImm (o : FScI) (x : Ext) : FitsFetch.Statement (.fscalebImm o x) :=
  fitsFetch_of_base (Nat.add_le_add_left (Bool.toNat_le _) 5)
theorem FitsFetch.fadd (o : F2) (x : Ext) : FitsFetch.Statement (.fadd o x) :=
  fitsFetch_of_base (Nat.add_le_add_left (Bool.toNat_le _) 5)
theorem FitsFetch.fsub (o : F2) (x : Ext) : FitsFetch.Statement (.fsub o x) :=
  fitsFetch_of_base (Nat.add_le_add_left (Bool.toNat_le _) 5)
theorem FitsFetch.fcmp (o : F2) (x : Ext) : FitsFetch.Statement (.fcmp o x) :=
  fitsFetch_of_base (Nat.add_le_add_left (Bool.toNat_le _) 5)
theorem FitsFetch.fmul (o : F2) (x : Ext) : FitsFetch.Statement (.fmul o x) :=
  fitsFetch_of_base (Nat.add_le_add_left (Bool.toNat_le _) 5)
theorem FitsFetch.fdiv (o : F2) (x : Ext) : FitsFetch.Statement (.fdiv o x) :=
  fitsFetch_of_base (Nat.add_le_add_left (Bool.toNat_le _) 5)
theorem FitsFetch.fseq (o : F2) (x : Ext) : FitsFetch.Statement (.fseq o x) :=
  fitsFetch_of_base (Nat.add_le_add_left (Bool.toNat_le _) 5)
theorem FitsFetch.fsne (o : F2) (x : Ext) : FitsFetch.Statement (.fsne o x) :=
  fitsFetch_of_base (Nat.add_le_add_left (Bool.toNat_le _) 5)
theorem FitsFetch.fsle (o : F2) (x : Ext) : FitsFetch.Statement (.fsle o x) :=
  fitsFetch_of_base (Nat.add_le_add_left (Bool.toNat_le _) 5)
theorem FitsFetch.fslt (o : F2) (x : Ext) : FitsFetch.Statement (.fslt o x) :=
  fitsFetch_of_base (Nat.add_le_add_left (Bool.toNat_le _) 5)
theorem FitsFetch.fsge (o : F2) (x : Ext) : FitsFetch.Statement (.fsge o x) :=
  fitsFetch_of_base (Nat.add_le_add_left (Bool.toNat_le _) 5)
theorem FitsFetch.fsgt (o : F2) (x : Ext) : FitsFetch.Statement (.fsgt o x) :=
  fitsFetch_of_base (Nat.add_le_add_left (Bool.toNat_le _) 5)
theorem FitsFetch.fmin (w : BitVec 40) (x : Ext) : FitsFetch.Statement (.fmin w x) :=
  fitsFetch_of_base (Nat.add_le_add_left (Bool.toNat_le _) 5)
theorem FitsFetch.fmax (w : BitVec 40) (x : Ext) : FitsFetch.Statement (.fmax w x) :=
  fitsFetch_of_base (Nat.add_le_add_left (Bool.toNat_le _) 5)
theorem FitsFetch.fnxt (w : BitVec 40) (x : Ext) : FitsFetch.Statement (.fnxt w x) :=
  fitsFetch_of_base (Nat.add_le_add_left (Bool.toNat_le _) 5)
theorem FitsFetch.frem (w : BitVec 40) (x : Ext) : FitsFetch.Statement (.frem w x) :=
  fitsFetch_of_base (Nat.add_le_add_left (Bool.toNat_le _) 5)
theorem FitsFetch.ftrunc (o : F1) (x : Ext) : FitsFetch.Statement (.ftrunc o x) :=
  fitsFetch_of_base (Nat.add_le_add_left (Bool.toNat_le _) 5)
theorem FitsFetch.fabs (o : F1) (x : Ext) : FitsFetch.Statement (.fabs o x) :=
  fitsFetch_of_base (Nat.add_le_add_left (Bool.toNat_le _) 5)
theorem FitsFetch.fneg (o : F1) (x : Ext) : FitsFetch.Statement (.fneg o x) :=
  fitsFetch_of_base (Nat.add_le_add_left (Bool.toNat_le _) 5)
theorem FitsFetch.ftoi (w : BitVec 40) (x : Ext) : FitsFetch.Statement (.ftoi w x) :=
  fitsFetch_of_base (Nat.add_le_add_left (Bool.toNat_le _) 5)
theorem FitsFetch.itof (w : BitVec 40) (x : Ext) : FitsFetch.Statement (.itof w x) :=
  fitsFetch_of_base (Nat.add_le_add_left (Bool.toNat_le _) 5)
theorem FitsFetch.fsign (w : BitVec 40) (x : Ext) : FitsFetch.Statement (.fsign w x) :=
  fitsFetch_of_base (Nat.add_le_add_left (Bool.toNat_le _) 5)
theorem FitsFetch.fsig (w : BitVec 40) (x : Ext) : FitsFetch.Statement (.fsig w x) :=
  fitsFetch_of_base (Nat.add_le_add_left (Bool.toNat_le _) 5)
theorem FitsFetch.fsqrt (w : BitVec 40) (x : Ext) : FitsFetch.Statement (.fsqrt w x) :=
  fitsFetch_of_base (Nat.add_le_add_left (Bool.toNat_le _) 5)
theorem FitsFetch.fs2d (w : BitVec 40) (x : Ext) : FitsFetch.Statement (.fs2d w x) :=
  fitsFetch_of_base (Nat.add_le_add_left (Bool.toNat_le _) 5)
theorem FitsFetch.fs2q (w : BitVec 40) (x : Ext) : FitsFetch.Statement (.fs2q w x) :=
  fitsFetch_of_base (Nat.add_le_add_left (Bool.toNat_le _) 5)
theorem FitsFetch.fd2q (w : BitVec 40) (x : Ext) : FitsFetch.Statement (.fd2q w x) :=
  fitsFetch_of_base (Nat.add_le_add_left (Bool.toNat_le _) 5)
theorem FitsFetch.isnan (w : BitVec 40) (x : Ext) : FitsFetch.Statement (.isnan w x) :=
  fitsFetch_of_base (Nat.add_le_add_left (Bool.toNat_le _) 5)
theorem FitsFetch.finite (w : BitVec 40) (x : Ext) : FitsFetch.Statement (.finite w x) :=
  fitsFetch_of_base (Nat.add_le_add_left (Bool.toNat_le _) 5)
theorem FitsFetch.fres (w : BitVec 40) (x : Ext) : FitsFetch.Statement (.fres w x) :=
  fitsFetch_of_base (Nat.add_le_add_left (Bool.toNat_le _) 5)
theorem FitsFetch.fd2s (w : BitVec 40) (x : Ext) : FitsFetch.Statement (.fd2s w x) :=
  fitsFetch_of_base (Nat.add_le_add_left (Bool.toNat_le _) 5)
theorem FitsFetch.fq2s (w : BitVec 40) (x : Ext) : FitsFetch.Statement (.fq2s w x) :=
  fitsFetch_of_base (Nat.add_le_add_left (Bool.toNat_le _) 5)
theorem FitsFetch.fq2d (w : BitVec 40) (x : Ext) : FitsFetch.Statement (.fq2d w x) :=
  fitsFetch_of_base (Nat.add_le_add_left (Bool.toNat_le _) 5)
theorem FitsFetch.fclass (w : BitVec 40) (x : Ext) : FitsFetch.Statement (.fclass w x) :=
  fitsFetch_of_base (Nat.add_le_add_left (Bool.toNat_le _) 5)
theorem FitsFetch.fma (w : BitVec 40) (t : Tail) : FitsFetch.Statement (.fma w t) :=
  fitsFetch_of_base (Nat.le_of_ble_eq_true rfl)
theorem FitsFetch.faddi (o : FI) (x : Ext) : FitsFetch.Statement (.faddi o x) :=
  fitsFetch_of_base (Nat.add_le_add_left (Bool.toNat_le _) 5)
theorem FitsFetch.fcmpi (o : FI) (x : Ext) : FitsFetch.Statement (.fcmpi o x) :=
  fitsFetch_of_base (Nat.add_le_add_left (Bool.toNat_le _) 5)
theorem FitsFetch.fmuli (o : FI) (x : Ext) : FitsFetch.Statement (.fmuli o x) :=
  fitsFetch_of_base (Nat.add_le_add_left (Bool.toNat_le _) 5)
theorem FitsFetch.fdivi (o : FI) (x : Ext) : FitsFetch.Statement (.fdivi o x) :=
  fitsFetch_of_base (Nat.add_le_add_left (Bool.toNat_le _) 5)
theorem FitsFetch.clr (o : BitR) (x : Ext) : FitsFetch.Statement (.clr o x) :=
  fitsFetch_of_base (Nat.add_le_add_left (Bool.toNat_le _) 5)
theorem FitsFetch.clrImm (o : BitI) (x : Ext) : FitsFetch.Statement (.clrImm o x) :=
  fitsFetch_of_base (Nat.add_le_add_left (Bool.toNat_le _) 5)
theorem FitsFetch.set (o : BitR) (x : Ext) : FitsFetch.Statement (.set o x) :=
  fitsFetch_of_base (Nat.add_le_add_left (Bool.toNat_le _) 5)
theorem FitsFetch.setImm (o : BitI) (x : Ext) : FitsFetch.Statement (.setImm o x) :=
  fitsFetch_of_base (Nat.add_le_add_left (Bool.toNat_le _) 5)
theorem FitsFetch.com (o : BitR) (x : Ext) : FitsFetch.Statement (.com o x) :=
  fitsFetch_of_base (Nat.add_le_add_left (Bool.toNat_le _) 5)
theorem FitsFetch.comImm (o : BitI) (x : Ext) : FitsFetch.Statement (.comImm o x) :=
  fitsFetch_of_base (Nat.add_le_add_left (Bool.toNat_le _) 5)
theorem FitsFetch.sbx (o : BitR) (x : Ext) : FitsFetch.Statement (.sbx o x) :=
  fitsFetch_of_base (Nat.add_le_add_left (Bool.toNat_le _) 5)
theorem FitsFetch.sbxImm (o : BitI) (x : Ext) : FitsFetch.Statement (.sbxImm o x) :=
  fitsFetch_of_base (Nat.add_le_add_left (Bool.toNat_le _) 5)
theorem FitsFetch.extu (o : BitR) (x : Ext) : FitsFetch.Statement (.extu o x) :=
  fitsFetch_of_base (Nat.add_le_add_left (Bool.toNat_le _) 5)
theorem FitsFetch.extuImm (o : BitI) (x : Ext) : FitsFetch.Statement (.extuImm o x) :=
  fitsFetch_of_base (Nat.add_le_add_left (Bool.toNat_le _) 5)
theorem FitsFetch.exts (o : BitR) (x : Ext) : FitsFetch.Statement (.exts o x) :=
  fitsFetch_of_base (Nat.add_le_add_left (Bool.toNat_le _) 5)
theorem FitsFetch.extsImm (o : BitI) (x : Ext) : FitsFetch.Statement (.extsImm o x) :=
  fitsFetch_of_base (Nat.add_le_add_left (Bool.toNat_le _) 5)
theorem FitsFetch.dep (o : BitR) (x : Ext) : FitsFetch.Statement (.dep o x) :=
  fitsFetch_of_base (Nat.add_le_add_left (Bool.toNat_le _) 5)
theorem FitsFetch.depImm (o : BitI) (x : Ext) : FitsFetch.Statement (.depImm o x) :=
  fitsFetch_of_base (Nat.add_le_add_left (Bool.toNat_le _) 5)
theorem FitsFetch.bitrr (w : BitVec 40) (x : Ext) : FitsFetch.Statement (.bitrr w x) :=
  fitsFetch_of_base (Nat.add_le_add_left (Bool.toNat_le _) 5)
theorem FitsFetch.asl (o : R2) (x : Ext) : FitsFetch.Statement (.asl o x) :=
  fitsFetch_of_base (Nat.add_le_add_left (Bool.toNat_le _) 5)
theorem FitsFetch.aslImm (o : ShI) (x : Ext) : FitsFetch.Statement (.aslImm o x) :=
  fitsFetch_of_base (Nat.add_le_add_left (Bool.toNat_le _) 5)
theorem FitsFetch.asr (o : R2) (x : Ext) : FitsFetch.Statement (.asr o x) :=
  fitsFetch_of_base (Nat.add_le_add_left (Bool.toNat_le _) 5)
theorem FitsFetch.asrImm (o : ShI) (x : Ext) : FitsFetch.Statement (.asrImm o x) :=
  fitsFetch_of_base (Nat.add_le_add_left (Bool.toNat_le _) 5)
theorem FitsFetch.lsl (o : R2) (x : Ext) : FitsFetch.Statement (.lsl o x) :=
  fitsFetch_of_base (Nat.add_le_add_left (Bool.toNat_le _) 5)
theorem FitsFetch.lslImm (o : ShI) (x : Ext) : FitsFetch.Statement (.lslImm o x) :=
  fitsFetch_of_base (Nat.add_le_add_left (Bool.toNat_le _) 5)
theorem FitsFetch.lsland (o : R2) (x : Ext) : FitsFetch.Statement (.lsland o x) :=
  fitsFetch_of_base (Nat.add_le_add_left (Bool.toNat_le _) 5)
theorem FitsFetch.lslandImm (o : ShI) (x : Ext) : FitsFetch.Statement (.lslandImm o x) :=
  fitsFetch_of_base (Nat.add_le_add_left (Bool.toNat_le _) 5)
theorem FitsFetch.lslor (o : R2) (x : Ext) : FitsFetch.Statement (.lslor o x) :=
  fitsFetch_of_base (Nat.add_le_add_left (Bool.toNat_le _) 5)
theorem FitsFetch.lslorImm (o : ShI) (x : Ext) : FitsFetch.Statement (.lslorImm o x) :=
  fitsFetch_of_base (Nat.add_le_add_left (Bool.toNat_le _) 5)
theorem FitsFetch.lslxor (o : R2) (x : Ext) : FitsFetch.Statement (.lslxor o x) :=
  fitsFetch_of_base (Nat.add_le_add_left (Bool.toNat_le _) 5)
theorem FitsFetch.lslxorImm (o : ShI) (x : Ext) : FitsFetch.Statement (.lslxorImm o x) :=
  fitsFetch_of_base (Nat.add_le_add_left (Bool.toNat_le _) 5)
theorem FitsFetch.lsr (o : R2) (x : Ext) : FitsFetch.Statement (.lsr o x) :=
  fitsFetch_of_base (Nat.add_le_add_left (Bool.toNat_le _) 5)
theorem FitsFetch.lsrImm (o : ShI) (x : Ext) : FitsFetch.Statement (.lsrImm o x) :=
  fitsFetch_of_base (Nat.add_le_add_left (Bool.toNat_le _) 5)
theorem FitsFetch.rol (o : R2) (x : Ext) : FitsFetch.Statement (.rol o x) :=
  fitsFetch_of_base (Nat.add_le_add_left (Bool.toNat_le _) 5)
theorem FitsFetch.rolImm (o : ShI) (x : Ext) : FitsFetch.Statement (.rolImm o x) :=
  fitsFetch_of_base (Nat.add_le_add_left (Bool.toNat_le _) 5)
theorem FitsFetch.ror (o : R2) (x : Ext) : FitsFetch.Statement (.ror o x) :=
  fitsFetch_of_base (Nat.add_le_add_left (Bool.toNat_le _) 5)
theorem FitsFetch.rorImm (o : ShI) (x : Ext) : FitsFetch.Statement (.rorImm o x) :=
  fitsFetch_of_base (Nat.add_le_add_left (Bool.toNat_le _) 5)
theorem FitsFetch.vshlv (o : R2) (x : Ext) : FitsFetch.Statement (.vshlv o x) :=
  fitsFetch_of_base (Nat.add_le_add_left (Bool.toNat_le _) 5)
theorem FitsFetch.vshrv (o : R2) (x : Ext) : FitsFetch.Statement (.vshrv o x) :=
  fitsFetch_of_base (Nat.add_le_add_left (Bool.toNat_le _) 5)
theorem FitsFetch.vshlvi (o : VshI) (x : Ext) : FitsFetch.Statement (.vshlvi o x) :=
  fitsFetch_of_base (Nat.add_le_add_left (Bool.toNat_le _) 5)
theorem FitsFetch.vshrvi (o : VshI) (x : Ext) : FitsFetch.Statement (.vshrvi o x) :=
  fitsFetch_of_base (Nat.add_le_add_left (Bool.toNat_le _) 5)
theorem FitsFetch.load (z : Size) (o : MemD) (x : Ext) : FitsFetch.Statement (.load z o x) :=
  fitsFetch_of_base (Nat.add_le_add_left (Bool.toNat_le _) 5)
theorem FitsFetch.loadX (z : Size) (o : MemX) (x : Ext) : FitsFetch.Statement (.loadX z o x) :=
  fitsFetch_of_base (Nat.add_le_add_left (Bool.toNat_le _) 5)
theorem FitsFetch.loadg (o : MemD) (m : Option (BitVec 8)) (t : Tail) : FitsFetch.Statement (.loadg o m t) :=
  fitsFetch_of_base (Nat.add_le_add_left (Bool.toNat_le _) 5)
theorem FitsFetch.loadgX (o : MemX) (m : Option (BitVec 8)) (t : Tail) : FitsFetch.Statement (.loadgX o m t) :=
  fitsFetch_of_base (Nat.add_le_add_left (Bool.toNat_le _) 5)
theorem FitsFetch.fload (p : Prec) (o : MemD) (x : Ext) : FitsFetch.Statement (.fload p o x) :=
  fitsFetch_of_base (Nat.add_le_add_left (Bool.toNat_le _) 5)
theorem FitsFetch.floadX (p : Prec) (o : MemX) (x : Ext) : FitsFetch.Statement (.floadX p o x) :=
  fitsFetch_of_base (Nat.add_le_add_left (Bool.toNat_le _) 5)
theorem FitsFetch.loadz (z : Size) (o : MemD) (x : Ext) : FitsFetch.Statement (.loadz z o x) :=
  fitsFetch_of_base (Nat.add_le_add_left (Bool.toNat_le _) 5)
theorem FitsFetch.loadzX (z : Size) (o : MemX) (x : Ext) : FitsFetch.Statement (.loadzX z o x) :=
  fitsFetch_of_base (Nat.add_le_add_left (Bool.toNat_le _) 5)
theorem FitsFetch.la (o : MemD) (x : Ext) : FitsFetch.Statement (.la o x) :=
  fitsFetch_of_base (Nat.add_le_add_left (Bool.toNat_le _) 5)
theorem FitsFetch.laX (o : MemX) (x : Ext) : FitsFetch.Statement (.laX o x) :=
  fitsFetch_of_base (Nat.add_le_add_left (Bool.toNat_le _) 5)
theorem FitsFetch.stptrT (o : MemD) (x : Ext) : FitsFetch.Statement (.stptrT o x) :=
  fitsFetch_of_base (Nat.add_le_add_left (Bool.toNat_le _) 5)
theorem FitsFetch.stptrTX (o : MemX) (x : Ext) : FitsFetch.Statement (.stptrTX o x) :=
  fitsFetch_of_base (Nat.add_le_add_left (Bool.toNat_le _) 5)
theorem FitsFetch.stptrO (o : MemD) (x : Ext) : FitsFetch.Statement (.stptrO o x) :=
  fitsFetch_of_base (Nat.add_le_add_left (Bool.toNat_le _) 5)
theorem FitsFetch.stptrOX (o : MemX) (x : Ext) : FitsFetch.Statement (.stptrOX o x) :=
  fitsFetch_of_base (Nat.add_le_add_left (Bool.toNat_le _) 5)
theorem FitsFetch.stptrH (o : MemD) (x : Ext) : FitsFetch.Statement (.stptrH o x) :=
  fitsFetch_of_base (Nat.add_le_add_left (Bool.toNat_le _) 5)
theorem FitsFetch.stptrHX (o : MemX) (x : Ext) : FitsFetch.Statement (.stptrHX o x) :=
  fitsFetch_of_base (Nat.add_le_add_left (Bool.toNat_le _) 5)
theorem FitsFetch.cache (o : MemD) (x : Ext) : FitsFetch.Statement (.cache o x) :=
  fitsFetch_of_base (Nat.add_le_add_left (Bool.toNat_le _) 5)
theorem FitsFetch.cacheX (o : MemX) (x : Ext) : FitsFetch.Statement (.cacheX o x) :=
  fitsFetch_of_base (Nat.add_le_add_left (Bool.toNat_le _) 5)
theorem FitsFetch.store (z : Size) (o : MemD) (x : Ext) : FitsFetch.Statement (.store z o x) :=
  fitsFetch_of_base (Nat.add_le_add_left (Bool.toNat_le _) 5)
theorem FitsFetch.storeX (z : Size) (o : MemX) (x : Ext) : FitsFetch.Statement (.storeX z o x) :=
  fitsFetch_of_base (Nat.add_le_add_left (Bool.toNat_le _) 5)
theorem FitsFetch.storeg (o : MemD) (m : Option (BitVec 8)) (t : Tail) : FitsFetch.Statement (.storeg o m t) :=
  fitsFetch_of_base (Nat.add_le_add_left (Bool.toNat_le _) 5)
theorem FitsFetch.storegX (o : MemX) (m : Option (BitVec 8)) (t : Tail) : FitsFetch.Statement (.storegX o m t) :=
  fitsFetch_of_base (Nat.add_le_add_left (Bool.toNat_le _) 5)
theorem FitsFetch.fstore (p : Prec) (o : MemD) (x : Ext) : FitsFetch.Statement (.fstore p o x) :=
  fitsFetch_of_base (Nat.add_le_add_left (Bool.toNat_le _) 5)
theorem FitsFetch.fstoreX (p : Prec) (o : MemX) (x : Ext) : FitsFetch.Statement (.fstoreX p o x) :=
  fitsFetch_of_base (Nat.add_le_add_left (Bool.toNat_le _) 5)
theorem FitsFetch.jmp (o : JmpA) (t : Tail) : FitsFetch.Statement (.jmp o t) :=
  fitsFetch_of_base (Nat.le_of_ble_eq_true rfl)
theorem FitsFetch.jmpInd (o : JmpB) (t : Tail) : FitsFetch.Statement (.jmpInd o t) :=
  fitsFetch_of_base (Nat.le_of_ble_eq_true rfl)
theorem FitsFetch.jsr (o : JmpA) (t : Tail) : FitsFetch.Statement (.jsr o t) :=
  fitsFetch_of_base (Nat.le_of_ble_eq_true rfl)
theorem FitsFetch.jsrInd (o : JmpB) (t : Tail) : FitsFetch.Statement (.jsrInd o t) :=
  fitsFetch_of_base (Nat.le_of_ble_eq_true rfl)
theorem FitsFetch.braTable (o : TabJ) (t : Tail) : FitsFetch.Statement (.braTable o t) :=
  fitsFetch_of_base (Nat.le_of_ble_eq_true rfl)
theorem FitsFetch.bsrTable (o : TabJ) (t : Tail) : FitsFetch.Statement (.bsrTable o t) :=
  fitsFetch_of_base (Nat.le_of_ble_eq_true rfl)
theorem FitsFetch.cmpxchg (o : Xchg) (x : Ext) : FitsFetch.Statement (.cmpxchg o x) :=
  fitsFetch_of_base (Nat.add_le_add_left (Bool.toNat_le _) 5)
theorem FitsFetch.storePair (o : Pair) (x : Ext) : FitsFetch.Statement (.storePair o x) :=
  fitsFetch_of_base (Nat.add_le_add_left (Bool.toNat_le _) 5)
theorem FitsFetch.ammin (o : AmoR) (x : Ext) : FitsFetch.Statement (.ammin o x) :=
  fitsFetch_of_base (Nat.add_le_add_left (Bool.toNat_le _) 5)
theorem FitsFetch.amadd (o : AmoR) (x : Ext) : FitsFetch.Statement (.amadd o x) :=
  fitsFetch_of_base (Nat.add_le_add_left (Bool.toNat_le _) 5)
theorem FitsFetch.amaddImm (o : AmoI) (x : Ext) : FitsFetch.Statement (.amaddImm o x) :=
  fitsFetch_of_base (Nat.add_le_add_left (Bool.toNat_le _) 5)
theorem FitsFetch.amasl (o : AmoR) (x : Ext) : FitsFetch.Statement (.amasl o x) :=
  fitsFetch_of_base (Nat.add_le_add_left (Bool.toNat_le _) 5)
theorem FitsFetch.amaslImm (o : AmoI) (x : Ext) : FitsFetch.Statement (.amaslImm o x) :=
  fitsFetch_of_base (Nat.add_le_add_left (Bool.toNat_le _) 5)
theorem FitsFetch.amlsr (o : AmoR) (x : Ext) : FitsFetch.Statement (.amlsr o x) :=
  fitsFetch_of_base (Nat.add_le_add_left (Bool.toNat_le _) 5)
theorem FitsFetch.amlsrImm (o : AmoI) (x : Ext) : FitsFetch.Statement (.amlsrImm o x) :=
  fitsFetch_of_base (Nat.add_le_add_left (Bool.toNat_le _) 5)
theorem FitsFetch.amand (o : AmoR) (x : Ext) : FitsFetch.Statement (.amand o x) :=
  fitsFetch_of_base (Nat.add_le_add_left (Bool.toNat_le _) 5)
theorem FitsFetch.amandImm (o : AmoI) (x : Ext) : FitsFetch.Statement (.amandImm o x) :=
  fitsFetch_of_base (Nat.add_le_add_left (Bool.toNat_le _) 5)
theorem FitsFetch.amor (o : AmoR) (x : Ext) : FitsFetch.Statement (.amor o x) :=
  fitsFetch_of_base (Nat.add_le_add_left (Bool.toNat_le _) 5)
theorem FitsFetch.amorImm (o : AmoI) (x : Ext) : FitsFetch.Statement (.amorImm o x) :=
  fitsFetch_of_base (Nat.add_le_add_left (Bool.toNat_le _) 5)
theorem FitsFetch.ameor (o : AmoR) (x : Ext) : FitsFetch.Statement (.ameor o x) :=
  fitsFetch_of_base (Nat.add_le_add_left (Bool.toNat_le _) 5)
theorem FitsFetch.ameorImm (o : AmoI) (x : Ext) : FitsFetch.Statement (.ameorImm o x) :=
  fitsFetch_of_base (Nat.add_le_add_left (Bool.toNat_le _) 5)
theorem FitsFetch.amminu (o : AmoR) (x : Ext) : FitsFetch.Statement (.amminu o x) :=
  fitsFetch_of_base (Nat.add_le_add_left (Bool.toNat_le _) 5)
theorem FitsFetch.amswap (w : BitVec 40) (x : Ext) : FitsFetch.Statement (.amswap w x) :=
  fitsFetch_of_base (Nat.add_le_add_left (Bool.toNat_le _) 5)
theorem FitsFetch.ammax (w : BitVec 40) (x : Ext) : FitsFetch.Statement (.ammax w x) :=
  fitsFetch_of_base (Nat.add_le_add_left (Bool.toNat_le _) 5)
theorem FitsFetch.ammaxu (w : BitVec 40) (x : Ext) : FitsFetch.Statement (.ammaxu w x) :=
  fitsFetch_of_base (Nat.add_le_add_left (Bool.toNat_le _) 5)
theorem FitsFetch.amcas (w : BitVec 40) (x : Ext) : FitsFetch.Statement (.amcas w x) :=
  fitsFetch_of_base (Nat.add_le_add_left (Bool.toNat_le _) 5)
theorem FitsFetch.amswapImm (w : BitVec 40) (x : Ext) : FitsFetch.Statement (.amswapImm w x) :=
  fitsFetch_of_base (Nat.add_le_add_left (Bool.toNat_le _) 5)
theorem FitsFetch.amminImm (w : BitVec 40) (x : Ext) : FitsFetch.Statement (.amminImm w x) :=
  fitsFetch_of_base (Nat.add_le_add_left (Bool.toNat_le _) 5)
theorem FitsFetch.ammaxImm (w : BitVec 40) (x : Ext) : FitsFetch.Statement (.ammaxImm w x) :=
  fitsFetch_of_base (Nat.add_le_add_left (Bool.toNat_le _) 5)
theorem FitsFetch.amminuImm (w : BitVec 40) (x : Ext) : FitsFetch.Statement (.amminuImm w x) :=
  fitsFetch_of_base (Nat.add_le_add_left (Bool.toNat_le _) 5)
theorem FitsFetch.ammaxuImm (w : BitVec 40) (x : Ext) : FitsFetch.Statement (.ammaxuImm w x) :=
  fitsFetch_of_base (Nat.add_le_add_left (Bool.toNat_le _) 5)
theorem FitsFetch.amcasImm (w : BitVec 40) (x : Ext) : FitsFetch.Statement (.amcasImm w x) :=
  fitsFetch_of_base (Nat.add_le_add_left (Bool.toNat_le _) 5)
theorem FitsFetch.bcmp (o : Blk) (x : Ext) : FitsFetch.Statement (.bcmp o x) :=
  fitsFetch_of_base (Nat.add_le_add_left (Bool.toNat_le _) 5)
theorem FitsFetch.bfnd (o : Blk) (x : Ext) : FitsFetch.Statement (.bfnd o x) :=
  fitsFetch_of_base (Nat.add_le_add_left (Bool.toNat_le _) 5)
theorem FitsFetch.bmov (o : Blk) (x : Ext) : FitsFetch.Statement (.bmov o x) :=
  fitsFetch_of_base (Nat.add_le_add_left (Bool.toNat_le _) 5)
theorem FitsFetch.bset (o : BSetOp) (x : Ext) : FitsFetch.Statement (.bset o x) :=
  fitsFetch_of_base (Nat.add_le_add_left (Bool.toNat_le _) 5)
theorem FitsFetch.beq (o : Br) (t : Tail) : FitsFetch.Statement (.beq o t) :=
  fitsFetch_of_base (Nat.le_of_ble_eq_true rfl)
theorem FitsFetch.bne (o : Br) (t : Tail) : FitsFetch.Statement (.bne o t) :=
  fitsFetch_of_base (Nat.le_of_ble_eq_true rfl)
theorem FitsFetch.blt (o : Br) (t : Tail) : FitsFetch.Statement (.blt o t) :=
  fitsFetch_of_base (Nat.le_of_ble_eq_true rfl)
theorem FitsFetch.ble (o : Br) (t : Tail) : FitsFetch.Statement (.ble o t) :=
  fitsFetch_of_base (Nat.le_of_ble_eq_true rfl)
theorem FitsFetch.bge (o : Br) (t : Tail) : FitsFetch.Statement (.bge o t) :=
  fitsFetch_of_base (Nat.le_of_ble_eq_true rfl)
theorem FitsFetch.bgt (o : Br) (t : Tail) : FitsFetch.Statement (.bgt o t) :=
  fitsFetch_of_base (Nat.le_of_ble_eq_true rfl)
theorem FitsFetch.bbc (o : Br) (t : Tail) : FitsFetch.Statement (.bbc o t) :=
  fitsFetch_of_base (Nat.le_of_ble_eq_true rfl)
theorem FitsFetch.bbs (o : Br) (t : Tail) : FitsFetch.Statement (.bbs o t) :=
  fitsFetch_of_base (Nat.le_of_ble_eq_true rfl)
theorem FitsFetch.bbcImm (o : Br) (t : Tail) : FitsFetch.Statement (.bbcImm o t) :=
  fitsFetch_of_base (Nat.le_of_ble_eq_true rfl)
theorem FitsFetch.bbsImm (o : Br) (t : Tail) : FitsFetch.Statement (.bbsImm o t) :=
  fitsFetch_of_base (Nat.le_of_ble_eq_true rfl)
theorem FitsFetch.bltu (o : Br) (t : Tail) : FitsFetch.Statement (.bltu o t) :=
  fitsFetch_of_base (Nat.le_of_ble_eq_true rfl)
theorem FitsFetch.bleu (o : Br) (t : Tail) : FitsFetch.Statement (.bleu o t) :=
  fitsFetch_of_base (Nat.le_of_ble_eq_true rfl)
theorem FitsFetch.bgeu (o : Br) (t : Tail) : FitsFetch.Statement (.bgeu o t) :=
  fitsFetch_of_base (Nat.le_of_ble_eq_true rfl)
theorem FitsFetch.bgtu (o : Br) (t : Tail) : FitsFetch.Statement (.bgtu o t) :=
  fitsFetch_of_base (Nat.le_of_ble_eq_true rfl)
theorem FitsFetch.fbeq (o : Br) (t : Tail) : FitsFetch.Statement (.fbeq o t) :=
  fitsFetch_of_base (Nat.le_of_ble_eq_true rfl)
theorem FitsFetch.fbne (o : Br) (t : Tail) : FitsFetch.Statement (.fbne o t) :=
  fitsFetch_of_base (Nat.le_of_ble_eq_true rfl)
theorem FitsFetch.fbgt (o : Br) (t : Tail) : FitsFetch.Statement (.fbgt o t) :=
  fitsFetch_of_base (Nat.le_of_ble_eq_true rfl)
theorem FitsFetch.fbugt (o : Br) (t : Tail) : FitsFetch.Statement (.fbugt o t) :=
  fitsFetch_of_base (Nat.le_of_ble_eq_true rfl)
theorem FitsFetch.fbge (o : Br) (t : Tail) : FitsFetch.Statement (.fbge o t) :=
  fitsFetch_of_base (Nat.le_of_ble_eq_true rfl)
theorem FitsFetch.fbuge (o : Br) (t : Tail) : FitsFetch.Statement (.fbuge o t) :=
  fitsFetch_of_base (Nat.le_of_ble_eq_true rfl)
theorem FitsFetch.fblt (o : Br) (t : Tail) : FitsFetch.Statement (.fblt o t) :=
  fitsFetch_of_base (Nat.le_of_ble_eq_true rfl)
theorem FitsFetch.fbult (o : Br) (t : Tail) : FitsFetch.Statement (.fbult o t) :=
  fitsFetch_of_base (Nat.le_of_ble_eq_true rfl)
theorem FitsFetch.fble (o : Br) (t : Tail) : FitsFetch.Statement (.fble o t) :=
  fitsFetch_of_base (Nat.le_of_ble_eq_true rfl)
theorem FitsFetch.fbule (o : Br) (t : Tail) : FitsFetch.Statement (.fbule o t) :=
  fitsFetch_of_base (Nat.le_of_ble_eq_true rfl)
theorem FitsFetch.fbgl (o : Br) (t : Tail) : FitsFetch.Statement (.fbgl o t) :=
  fitsFetch_of_base (Nat.le_of_ble_eq_true rfl)
theorem FitsFetch.fbugl (o : Br) (t : Tail) : FitsFetch.Statement (.fbugl o t) :=
  fitsFetch_of_base (Nat.le_of_ble_eq_true rfl)
theorem FitsFetch.fbord (o : Br) (t : Tail) : FitsFetch.Statement (.fbord o t) :=
  fitsFetch_of_base (Nat.le_of_ble_eq_true rfl)
theorem FitsFetch.fbun (o : Br) (t : Tail) : FitsFetch.Statement (.fbun o t) :=
  fitsFetch_of_base (Nat.le_of_ble_eq_true rfl)
theorem FitsFetch.pbcc (o : BrC) (t : Tail) : FitsFetch.Statement (.pbcc o t) :=
  fitsFetch_of_base (Nat.le_of_ble_eq_true rfl)
theorem FitsFetch.dfbcc (o : BrC) (t : Tail) : FitsFetch.Statement (.dfbcc o t) :=
  fitsFetch_of_base (Nat.le_of_ble_eq_true rfl)
theorem FitsFetch.bra (disp : BitVec 29) (t : Tail) : FitsFetch.Statement (.bra disp t) :=
  fitsFetch_of_base (Nat.le_of_ble_eq_true rfl)
theorem FitsFetch.bsr (lr : BitVec 2) (disp : BitVec 29) (t : Tail) : FitsFetch.Statement (.bsr lr disp t) :=
  fitsFetch_of_base (Nat.le_of_ble_eq_true rfl)
theorem FitsFetch.lbeq (o : LBr) (t : Tail) : FitsFetch.Statement (.lbeq o t) :=
  fitsFetch_of_base (Nat.le_of_ble_eq_true rfl)
theorem FitsFetch.lbne (o : LBr) (t : Tail) : FitsFetch.Statement (.lbne o t) :=
  fitsFetch_of_base (Nat.le_of_ble_eq_true rfl)
theorem FitsFetch.lblt (o : LBr) (t : Tail) : FitsFetch.Statement (.lblt o t) :=
  fitsFetch_of_base (Nat.le_of_ble_eq_true rfl)
theorem FitsFetch.lble (o : LBr) (t : Tail) : FitsFetch.Statement (.lble o t) :=
  fitsFetch_of_base (Nat.le_of_ble_eq_true rfl)
theorem FitsFetch.lbge (o : LBr) (t : Tail) : FitsFetch.Statement (.lbge o t) :=
  fitsFetch_of_base (Nat.le_of_ble_eq_true rfl)
theorem FitsFetch.lbgt (o : LBr) (t : Tail) : FitsFetch.Statement (.lbgt o t) :=
  fitsFetch_of_base (Nat.le_of_ble_eq_true rfl)
theorem FitsFetch.lbbc (o : LBr) (t : Tail) : FitsFetch.Statement (.lbbc o t) :=
  fitsFetch_of_base (Nat.le_of_ble_eq_true rfl)
theorem FitsFetch.lbbs (o : LBr) (t : Tail) : FitsFetch.Statement (.lbbs o t) :=
  fitsFetch_of_base (Nat.le_of_ble_eq_true rfl)
theorem FitsFetch.lbbcImm (o : LBr) (t : Tail) : FitsFetch.Statement (.lbbcImm o t) :=
  fitsFetch_of_base (Nat.le_of_ble_eq_true rfl)
theorem FitsFetch.lbbsImm (o : LBr) (t : Tail) : FitsFetch.Statement (.lbbsImm o t) :=
  fitsFetch_of_base (Nat.le_of_ble_eq_true rfl)
theorem FitsFetch.lbltu (o : LBr) (t : Tail) : FitsFetch.Statement (.lbltu o t) :=
  fitsFetch_of_base (Nat.le_of_ble_eq_true rfl)
theorem FitsFetch.lbleu (o : LBr) (t : Tail) : FitsFetch.Statement (.lbleu o t) :=
  fitsFetch_of_base (Nat.le_of_ble_eq_true rfl)
theorem FitsFetch.lbgeu (o : LBr) (t : Tail) : FitsFetch.Statement (.lbgeu o t) :=
  fitsFetch_of_base (Nat.le_of_ble_eq_true rfl)
theorem FitsFetch.lbgtu (o : LBr) (t : Tail) : FitsFetch.Statement (.lbgtu o t) :=
  fitsFetch_of_base (Nat.le_of_ble_eq_true rfl)
theorem FitsFetch.lfbeq (o : LBr) (t : Tail) : FitsFetch.Statement (.lfbeq o t) :=
  fitsFetch_of_base (Nat.le_of_ble_eq_true rfl)
theorem FitsFetch.lfbne (o : LBr) (t : Tail) : FitsFetch.Statement (.lfbne o t) :=
  fitsFetch_of_base (Nat.le_of_ble_eq_true rfl)
theorem FitsFetch.lfbgt (o : LBr) (t : Tail) : FitsFetch.Statement (.lfbgt o t) :=
  fitsFetch_of_base (Nat.le_of_ble_eq_true rfl)
theorem FitsFetch.lfbugt (o : LBr) (t : Tail) : FitsFetch.Statement (.lfbugt o t) :=
  fitsFetch_of_base (Nat.le_of_ble_eq_true rfl)
theorem FitsFetch.lfbge (o : LBr) (t : Tail) : FitsFetch.Statement (.lfbge o t) :=
  fitsFetch_of_base (Nat.le_of_ble_eq_true rfl)
theorem FitsFetch.lfbuge (o : LBr) (t : Tail) : FitsFetch.Statement (.lfbuge o t) :=
  fitsFetch_of_base (Nat.le_of_ble_eq_true rfl)
theorem FitsFetch.lfblt (o : LBr) (t : Tail) : FitsFetch.Statement (.lfblt o t) :=
  fitsFetch_of_base (Nat.le_of_ble_eq_true rfl)
theorem FitsFetch.lfbult (o : LBr) (t : Tail) : FitsFetch.Statement (.lfbult o t) :=
  fitsFetch_of_base (Nat.le_of_ble_eq_true rfl)
theorem FitsFetch.lfble (o : LBr) (t : Tail) : FitsFetch.Statement (.lfble o t) :=
  fitsFetch_of_base (Nat.le_of_ble_eq_true rfl)
theorem FitsFetch.lfbule (o : LBr) (t : Tail) : FitsFetch.Statement (.lfbule o t) :=
  fitsFetch_of_base (Nat.le_of_ble_eq_true rfl)
theorem FitsFetch.lfbgl (o : LBr) (t : Tail) : FitsFetch.Statement (.lfbgl o t) :=
  fitsFetch_of_base (Nat.le_of_ble_eq_true rfl)
theorem FitsFetch.lfbugl (o : LBr) (t : Tail) : FitsFetch.Statement (.lfbugl o t) :=
  fitsFetch_of_base (Nat.le_of_ble_eq_true rfl)
theorem FitsFetch.lfbord (o : LBr) (t : Tail) : FitsFetch.Statement (.lfbord o t) :=
  fitsFetch_of_base (Nat.le_of_ble_eq_true rfl)
theorem FitsFetch.lfbun (o : LBr) (t : Tail) : FitsFetch.Statement (.lfbun o t) :=
  fitsFetch_of_base (Nat.le_of_ble_eq_true rfl)
theorem FitsFetch.lpbcc (o : LBrC) (t : Tail) : FitsFetch.Statement (.lpbcc o t) :=
  fitsFetch_of_base (Nat.le_of_ble_eq_true rfl)
theorem FitsFetch.ldfbcc (o : LBrC) (t : Tail) : FitsFetch.Statement (.ldfbcc o t) :=
  fitsFetch_of_base (Nat.le_of_ble_eq_true rfl)
theorem FitsFetch.lbra (disp : BitVec 37) (t : Tail) : FitsFetch.Statement (.lbra disp t) :=
  fitsFetch_of_base (Nat.le_of_ble_eq_true rfl)
theorem FitsFetch.lbsr (lr : BitVec 2) (disp : BitVec 37) (t : Tail) : FitsFetch.Statement (.lbsr lr disp t) :=
  fitsFetch_of_base (Nat.le_of_ble_eq_true rfl)
theorem FitsFetch.dbcc (o : BrC) (t : Tail) : FitsFetch.Statement (.dbcc o t) :=
  fitsFetch_of_base (Nat.le_of_ble_eq_true rfl)
theorem FitsFetch.dbccFloat (o : BrC) (t : Tail) : FitsFetch.Statement (.dbccFloat o t) :=
  fitsFetch_of_base (Nat.le_of_ble_eq_true rfl)
theorem FitsFetch.dbccPosit (o : BrC) (t : Tail) : FitsFetch.Statement (.dbccPosit o t) :=
  fitsFetch_of_base (Nat.le_of_ble_eq_true rfl)
theorem FitsFetch.dbccDecimal (o : BrC) (t : Tail) : FitsFetch.Statement (.dbccDecimal o t) :=
  fitsFetch_of_base (Nat.le_of_ble_eq_true rfl)
theorem FitsFetch.pfx0 (imm : BitVec 32) : FitsFetch.Statement (.pfx0 imm) :=
  fitsFetch_of_base (Nat.le_of_ble_eq_true rfl)
theorem FitsFetch.pfx1 (imm : BitVec 32) : FitsFetch.Statement (.pfx1 imm) :=
  fitsFetch_of_base (Nat.le_of_ble_eq_true rfl)
theorem FitsFetch.pfx2 (imm : BitVec 32) : FitsFetch.Statement (.pfx2 imm) :=
  fitsFetch_of_base (Nat.le_of_ble_eq_true rfl)
theorem FitsFetch.regs (list : BitVec 64) : FitsFetch.Statement (.regs list) :=
  ⟨encode_length _, by simp [Instr.len, Instr.baseLen, Instr.sixth, Instr.tail, Tail.len, Tail.empty]⟩
theorem FitsFetch.nop (t : Tail) : FitsFetch.Statement (.nop t) :=
  fitsFetch_of_base (Nat.le_of_ble_eq_true rfl)
theorem FitsFetch.vaddVV (o : R2) (x : Ext) : FitsFetch.Statement (.vaddVV o x) :=
  fitsFetch_of_base (Nat.add_le_add_left (Bool.toNat_le _) 5)
theorem FitsFetch.vaddVS (o : R2) (x : Ext) : FitsFetch.Statement (.vaddVS o x) :=
  fitsFetch_of_base (Nat.add_le_add_left (Bool.toNat_le _) 5)
theorem FitsFetch.vaddImm (o : RI) (x : Ext) : FitsFetch.Statement (.vaddImm o x) :=
  fitsFetch_of_base (Nat.add_le_add_left (Bool.toNat_le _) 5)
theorem FitsFetch.vandVV (o : R2) (x : Ext) : FitsFetch.Statement (.vandVV o x) :=
  fitsFetch_of_base (Nat.add_le_add_left (Bool.toNat_le _) 5)
theorem FitsFetch.vandVS (o : R2) (x : Ext) : FitsFetch.Statement (.vandVS o x) :=
  fitsFetch_of_base (Nat.add_le_add_left (Bool.toNat_le _) 5)
theorem FitsFetch.vandImm (o : RI) (x : Ext) : FitsFetch.Statement (.vandImm o x) :=
  fitsFetch_of_base (Nat.add_le_add_left (Bool.toNat_le _) 5)

end Sys2Proof.Laws
end

