-- ==== Sys2Proof/Tests/Slice0.lean ====
section
/-! SUPPORT. Tests: an ill-formed instruction for each check of WellFormed; for every row of the opcode table a word
written out from the spec's field layout and the instruction it decodes to; worked examples of 95_test_vectors, one
instruction each; and, for every statement with hypotheses, a state and operands that meet them (`witness_<Name>`). -/

open Sys2Proof Sys2Proof.Machine

set_option Elab.async false
set_option maxRecDepth 100000

/-! What is not well formed. -/

/-- A scalar R2 instruction r3, r4, r5 of size o. -/
def testR2 : R2 := ⟨3, false, 4, false, 5, false, false, .scalar, .o⟩
/-- A scalar R1 instruction r3, r4 of size o. -/
def testR1 : R1 := ⟨3, false, 4, false, .scalar, .o⟩
/-- A scalar RI instruction r3, r4, #5 of size o. -/
def testRI : RI := ⟨3, false, 4, false, 5, false, false, .o⟩
/-- A floating-point register instruction r3, r4, r5. -/
def testF2 : F2 := ⟨3, false, 4, false, 5, false, .scalar, .ne, .q⟩
/-- A load or store of r3 at 8(r4). -/
def testD : MemD := ⟨3, false, 4, false, false, 0, 8⟩
/-- A load or store of r3 at (r4, r5). -/
def testX : MemX := ⟨3, false, 4, false, 5, false, .scalar, 0, 0⟩
/-- An atomic operation r3, r5, [r4]. -/
def testAmo : AmoR := ⟨3, false, 4, false, 5, false, false, false, .o⟩
/-- A block instruction [r4]+, [r5]+ of size o. -/
def testBlk : Blk := ⟨4, false, 5, false, 1, 1, 0, 0, false, false, .o⟩
/-- A constant postfix of 32 bits. -/
def testConst (c : BitVec 32) : Ext := ⟨none, ⟨some c, none, none, none⟩⟩

/-- Vector registers are v0 to v31; an Rb that a constant replaces is not read. -/
theorem test_wf_vector_registers :
    (Instr.vaddVV { testR2 with vec := .vv } Ext.empty).wf = true ∧
    (Instr.vaddVV { testR2 with vec := .vv, rt := 32 } Ext.empty).wf = false ∧
    (Instr.vaddVV { testR2 with vec := .vv, ra := 40 } Ext.empty).wf = false ∧
    (Instr.vaddVV { testR2 with vec := .vv, rb := 32 } Ext.empty).wf = false ∧
    (Instr.vaddVV { testR2 with vec := .vv, rb := 32 } (testConst 1)).wf = true ∧
    (Instr.vaddVS { testR2 with vec := .vs, rb := 63 } Ext.empty).wf = true ∧
    (Instr.abs { testR1 with vec := .vs, ra := 32 } Ext.empty).wf = false ∧
    (Instr.cmpi { testRI with vec := true, rt := 32 } Ext.empty).wf = false ∧
    (Instr.fmul { testF2 with vec := .vv, rb := 32 } Ext.empty).wf = false ∧
    (Instr.fabs ⟨32, false, 4, false, .vs, .q⟩ Ext.empty).wf = false ∧
    (Instr.faddi ⟨32, false, 4, false, 0, true, .q⟩ Ext.empty).wf = false ∧
    (Instr.fscalebImm ⟨3, false, 33, false, 0, true, .q⟩ Ext.empty).wf = false ∧
    (Instr.clr ⟨3, false, 4, false, 5, false, 32, .vv⟩ Ext.empty).wf = false ∧
    (Instr.clrImm ⟨3, false, 32, false, 0, 0, true⟩ Ext.empty).wf = false ∧
    (Instr.chk ⟨4, false, 5, false, 32, 0, .vv, .o⟩ Ext.empty).wf = false ∧
    (Instr.chki ⟨4, false, 32, false, 0, 0, .vv, .o⟩ Ext.empty).wf = false ∧
    (Instr.aslImm ⟨32, false, 4, false, 1, true, .o⟩ Ext.empty).wf = false ∧
    (Instr.vshlvi ⟨3, false, 32, false, 1, .o⟩ Ext.empty).wf = false ∧
    (Instr.clmulImm ⟨3, false, 32, false, 1, true, .o⟩ Ext.empty).wf = false := by decide

/-- Vector forms have the V bits their row says, and rows without a vector form have none. -/
theorem test_wf_vector_bits :
    (Instr.add { testR2 with vec := .vs } Ext.empty).wf = false ∧
    (Instr.vaddVV testR2 Ext.empty).wf = false ∧
    (Instr.vaddVS testR2 Ext.empty).wf = false ∧
    (Instr.vshlv testR2 Ext.empty).wf = false ∧
    (Instr.v2bits testR2 Ext.empty).wf = false ∧
    (Instr.v2bits { testR2 with vec := .vs, ra := 32 } Ext.empty).wf = false ∧
    (Instr.addi { testRI with vec := true } Ext.empty).wf = false ∧
    (Instr.la { testD with vd := true } Ext.empty).wf = false ∧
    (Instr.laX { testX with vec := .data } Ext.empty).wf = false := by decide

/-- Bits that choose between two rows, and bits a row fixes. -/
theorem test_wf_fixed_bits :
    (Instr.add { testR2 with sb := true } Ext.empty).wf = false ∧
    (Instr.add { testR2 with sw := true } Ext.empty).wf = false ∧
    (Instr.sub testR2 Ext.empty).wf = false ∧
    (Instr.and { testR2 with st := true } Ext.empty).wf = false ∧
    (Instr.nand testR2 Ext.empty).wf = false ∧
    (Instr.slt { testR2 with st := true } Ext.empty).wf = false ∧
    (Instr.sge testR2 Ext.empty).wf = false ∧
    (Instr.seq { testR2 with sw := true } Ext.empty).wf = false ∧
    (Instr.sne { testR2 with sw := true, st := true } Ext.empty).wf = false ∧
    (Instr.sm4ed { testR2 with sw := true } Ext.empty).wf = false ∧
    (Instr.muli { testRI with sw := true } Ext.empty).wf = false ∧
    (Instr.cntlz { testR1 with sa := true } Ext.empty).wf = false ∧
    (Instr.cntlo testR1 Ext.empty).wf = false ∧
    (Instr.fadd { testF2 with sb := true } Ext.empty).wf = false ∧
    (Instr.fsub testF2 Ext.empty).wf = false ∧
    (Instr.fcmp { testF2 with rm := .tz } Ext.empty).wf = false ∧
    (Instr.fseq { testF2 with st := true } Ext.empty).wf = false := by decide

/-- The sizes an instruction takes. -/
theorem test_wf_sizes :
    (Instr.mul { testR2 with size := .h } Ext.empty).wf = false ∧
    (Instr.cmpsB testR2 Ext.empty).wf = false ∧
    (Instr.chrndx testR2 Ext.empty).wf = false ∧
    (Instr.chrndxImm ⟨3, false, 4, false, 0, false, .w⟩ Ext.empty).wf = false ∧
    (Instr.sqrt { testR1 with size := .h } Ext.empty).wf = false ∧
    (Instr.sha256sig0 { testR1 with size := .w } Ext.empty).wf = false ∧
    (Instr.sha512sig0 { testR1 with size := .t } Ext.empty).wf = false ∧
    (Instr.amadd { testAmo with size := .b } Ext.empty).wf = false ∧
    (Instr.cmpxchg ⟨3, false, 4, false, 5, false, 6, false, .w⟩ Ext.empty).wf = false := by decide

/-- Rt = r0 chooses between a jump and a call, between RTS and RTD, and between BRK and TRAP. -/
theorem test_wf_r0_as_target :
    (Instr.jmp ⟨1, 4, 0, 0⟩ Tail.empty).wf = false ∧ (Instr.jsr ⟨0, 4, 0, 0⟩ Tail.empty).wf = false ∧
    (Instr.braTable ⟨1, true, 4, 16, .t⟩ Tail.empty).wf = false ∧
    (Instr.bsrTable ⟨0, true, 4, 16, .t⟩ Tail.empty).wf = false ∧
    (Instr.rtdReg ⟨0, 0, false, 4, false, 5, false, .o⟩ Tail.empty).wf = false ∧
    (Instr.rtsReg ⟨0, 1, false, 4, false, 5, false, .o⟩ Tail.empty).wf = false ∧
    (Instr.rtsImm ⟨0, 0, true, 4, false, 5, .o⟩ Tail.empty).wf = false ∧
    (Instr.trapRa ⟨0, 0, false, 0⟩ Tail.empty).wf = false := by decide

/-- Reserved codes of memory, atomic, block, branch, modifier and CSR words, and the words of map-only rows. -/
theorem test_wf_reserved_codes :
    (Instr.load .o { testD with vd := true, rt := 32 } Ext.empty).wf = false ∧
    (Instr.loadX .o { testX with vec := .data, u2 := 1 } Ext.empty).wf = false ∧
    (Instr.loadX .o { testX with vec := .gather, rc := 32 } Ext.empty).wf = false ∧
    (Instr.loadg { testD with rt := 16 } none Tail.empty).wf = false ∧
    (Instr.storegX { testX with rt := 16 } none Tail.empty).wf = false ∧
    (Instr.bcmp { testBlk with ai := 3 } Ext.empty).wf = false ∧
    (Instr.bmov { testBlk with bi := 3 } Ext.empty).wf = false ∧
    (Instr.bfnd testBlk Ext.empty).wf = false ∧ (Instr.bfnd { testBlk with ai := 0, ca := 1 } Ext.empty).wf = false ∧
    (Instr.bset ⟨4, false, 5, false, 6, 0, false, false, .o⟩ Ext.empty).wf = false ∧
    (Instr.bset ⟨4, false, 5, false, 10, 0, false, false, .o⟩ Ext.empty).wf = false ∧
    (Instr.pbcc ⟨14, 4, 5, 0⟩ Tail.empty).wf = false ∧ (Instr.dfbcc ⟨15, 4, 5, 0⟩ Tail.empty).wf = false ∧
    (Instr.atom ⟨0xC000, false, 0, false, 0⟩ Tail.empty).wf = false ∧
    (Instr.round 0xA00000 Tail.empty).wf = false ∧ (Instr.round 6 Tail.empty).wf = false ∧
    (Instr.csrrd ⟨3, false, 0, false, 0x50, false⟩ Ext.empty).wf = false ∧
    (Instr.setvl ⟨3, false, 4, false, 0x51, false⟩ Ext.empty).wf = false ∧
    (Instr.min 0xC400000002 Ext.empty).wf = false ∧ (Instr.min 0xC000000102 Ext.empty).wf = false ∧
    (Instr.min 0xC000000002 Ext.empty).wf = true ∧ (Instr.fma 0x0C Tail.empty).wf = false := by decide

/-! Every row of the opcode table: a word put together from the fields of the spec's encoding, and what it decodes to. -/

theorem test_decode_TRAP_40_0 : ∀ p ∈ ([
    (0x0, .brk Tail.empty),
    (0xA64B440600, .trapRa ⟨3, 4, true, 0x5396⟩ Tail.empty),
    (0xA6CB4B0620, .trapImm ⟨3, 0x196, 0x5396⟩ Tail.empty)] : List (Nat × Instr)), decodeTableWord 40 p.1 = some p.2 := by decide

theorem test_decode_R2_40_0 : ∀ p ∈ ([
    (0x1002C40662, .add ⟨3, false, 4, true, 5, false, false, .scalar, .o⟩ Ext.empty),
    (0x1022C40662, .sub ⟨3, false, 4, true, 5, true, false, .scalar, .o⟩ Ext.empty),
    (0x1282C40662, .rtdReg ⟨0x2, 3, false, 4, true, 5, false, .o⟩ Tail.empty),
    (0x1282C40062, .rtsReg ⟨0x2, 0, false, 4, true, 5, false, .o⟩ Tail.empty),
    (0x1482C40662, .cmp ⟨3, false, 4, true, 5, false, true, .scalar, .o⟩ Ext.empty),
    (0x1602C40602, .cmpsB ⟨3, false, 4, true, 5, false, false, .scalar, .b⟩ Ext.empty),
    (0x1802C40662, .mul ⟨3, false, 4, true, 5, false, false, .scalar, .o⟩ Ext.empty),
    (0x1882C40662, .mulu ⟨3, false, 4, true, 5, false, false, .scalar, .o⟩ Ext.empty),
    (0x1A82C40662, .mulsu ⟨3, false, 4, true, 5, false, false, .scalar, .o⟩ Ext.empty),
    (0x1C02C40662, .div ⟨3, false, 4, true, 5, false, false, .scalar, .o⟩ Ext.empty),
    (0x1C82C40662, .divu ⟨3, false, 4, true, 5, false, false, .scalar, .o⟩ Ext.empty),
    (0x1E02C40662, .divsu ⟨3, false, 4, true, 5, false, false, .scalar, .o⟩ Ext.empty)] : List (Nat × Instr)), decodeTableWord 40 p.1 = some p.2 := by decide

theorem test_decode_R2_40_1 : ∀ p ∈ ([
    (0x2002C40662, .and ⟨3, false, 4, true, 5, false, false, .scalar, .o⟩ Ext.empty),
    (0x2002C48662, .nand ⟨3, true, 4, true, 5, false, false, .scalar, .o⟩ Ext.empty),
    (0x2402C40662, .or ⟨3, false, 4, true, 5, false, false, .scalar, .o⟩ Ext.empty),
    (0x2402C48662, .nor ⟨3, true, 4, true, 5, false, false, .scalar, .o⟩ Ext.empty),
    (0x2802C40662, .eor ⟨3, false, 4, true, 5, false, false, .scalar, .o⟩ Ext.empty),
    (0x2802C48662, .enor ⟨3, true, 4, true, 5, false, false, .scalar, .o⟩ Ext.empty),
    (0x3002C40662, .mulh ⟨3, false, 4, true, 5, false, false, .scalar, .o⟩ Ext.empty),
    (0x3082C40662, .muluh ⟨3, false, 4, true, 5, false, false, .scalar, .o⟩ Ext.empty),
    (0x3402C40642, .chrndx ⟨3, false, 4, true, 5, false, false, .scalar, .t⟩ Ext.empty),
    (0x364B440642, .chrndxImm ⟨3, false, 4, true, 0x96, false, .t⟩ Ext.empty),
    (0x3802C40662, .clmul ⟨3, false, 4, true, 5, false, false, .scalar, .o⟩ Ext.empty),
    (0x38CB440662, .clmulImm ⟨3, false, 4, true, 0x96, false, .o⟩ Ext.empty)] : List (Nat × Instr)), decodeTableWord 40 p.1 = some p.2 := by decide

theorem test_decode_R2_40_2 : ∀ p ∈ ([
    (0x3C02C40662, .mod ⟨3, false, 4, true, 5, false, false, .scalar, .o⟩ Ext.empty),
    (0x3C82C40662, .modu ⟨3, false, 4, true, 5, false, false, .scalar, .o⟩ Ext.empty),
    (0x4C02C40662, .bmap ⟨3, false, 4, true, 5, false, false, .scalar, .o⟩ Ext.empty),
    (0x6002840062, .jmpIdx ⟨0, 4, 5, false, .o⟩ Tail.empty),
    (0x6082848062, .jmpIdxInd ⟨0, true, 4, 5, false, .o⟩ Tail.empty),
    (0x6002840662, .jsrIdx ⟨3, 4, 5, false, .o⟩ Tail.empty),
    (0x6082848662, .jsrIdxInd ⟨3, true, 4, 5, false, .o⟩ Tail.empty),
    (0x6802C40662, .seq ⟨3, false, 4, true, 5, false, false, .scalar, .o⟩ Ext.empty),
    (0x6802C48662, .sne ⟨3, true, 4, true, 5, false, false, .scalar, .o⟩ Ext.empty),
    (0x6C82C40662, .slt ⟨3, false, 4, true, 5, false, true, .scalar, .o⟩ Ext.empty),
    (0x6C82C48662, .sge ⟨3, true, 4, true, 5, false, true, .scalar, .o⟩ Ext.empty),
    (0x7082C40662, .sle ⟨3, false, 4, true, 5, false, true, .scalar, .o⟩ Ext.empty)] : List (Nat × Instr)), decodeTableWord 40 p.1 = some p.2 := by decide

theorem test_decode_R2_40_3 : ∀ p ∈ ([
    (0x7082C48662, .sgt ⟨3, true, 4, true, 5, false, true, .scalar, .o⟩ Ext.empty),
    (0x7482C40662, .sltu ⟨3, false, 4, true, 5, false, true, .scalar, .o⟩ Ext.empty),
    (0x7482C48662, .sgeu ⟨3, true, 4, true, 5, false, true, .scalar, .o⟩ Ext.empty),
    (0x7882C40662, .sleu ⟨3, false, 4, true, 5, false, true, .scalar, .o⟩ Ext.empty),
    (0x7882C48662, .sgtu ⟨3, true, 4, true, 5, false, true, .scalar, .o⟩ Ext.empty),
    (0xA042C40662, .v2bits ⟨3, false, 4, true, 5, false, false, .vs, .o⟩ Ext.empty),
    (0x4000000002, .dif 0x4000000002 Ext.empty),
    (0x4400000002, .ptrdif 0x4400000002 Ext.empty),
    (0x4800000002, .revbitMap 0x4800000002 Ext.empty),
    (0xA400000002, .bits2v 0xA400000002 Ext.empty),
    (0xA800000002, .vex 0xA800000002 Ext.empty),
    (0xAC00000002, .veins 0xAC00000002 Ext.empty)] : List (Nat × Instr)), decodeTableWord 40 p.1 = some p.2 := by decide

theorem test_decode_R2_40_4 : ∀ p ∈ ([
    (0xB000000002, .vgndx 0xB000000002 Ext.empty),
    (0xB800000002, .sgeuMap 0xB800000002 Ext.empty),
    (0xBC00000002, .sgtuMap 0xBC00000002 Ext.empty),
    (0xC000000002, .min 0xC000000002 Ext.empty),
    (0xC400000002, .max 0xC400000002 Ext.empty),
    (0xC800000002, .bmm 0xC800000002 Ext.empty),
    (0xCC00000002, .mux 0xCC00000002 Ext.empty),
    (0xE000000002, .aes64ks1i 0xE000000002 Ext.empty),
    (0xE400000002, .aes64ks2 0xE400000002 Ext.empty),
    (0xF002C40662, .sm4ed ⟨3, false, 4, true, 5, false, false, .scalar, .o⟩ Ext.empty),
    (0xF402C40662, .sm4ks ⟨3, false, 4, true, 5, false, false, .scalar, .o⟩ Ext.empty),
    (0xF282C40662, .sm4ed ⟨3, false, 4, true, 5, false, false, .scalar, .o⟩ Ext.empty),
    (0x1102C40662, .vaddVV ⟨3, false, 4, true, 5, false, false, .vv, .o⟩ Ext.empty)] : List (Nat × Instr)), decodeTableWord 40 p.1 = some p.2 := by decide

theorem test_decode_R2_40_5 : ∀ p ∈ ([
    (0x1042C40662, .vaddVS ⟨3, false, 4, true, 5, false, false, .vs, .o⟩ Ext.empty),
    (0x2102C40662, .vandVV ⟨3, false, 4, true, 5, false, false, .vv, .o⟩ Ext.empty),
    (0x2042C40662, .vandVS ⟨3, false, 4, true, 5, false, false, .vs, .o⟩ Ext.empty)] : List (Nat × Instr)), decodeTableWord 40 p.1 = some p.2 := by decide

theorem test_decode_MOD_40_0 : ∀ p ∈ ([
    (0x81B2C51662, .pred ⟨0xB2C5, 5, 0x13⟩ Tail.empty),
    (0x84B2C50502, .carry ⟨0xB2C5, 5⟩ Tail.empty),
    (0x885A3CD802, .rep ⟨0x5A3C, true, 0x5, 0x4⟩ Tail.empty),
    (0x8C26490662, .atom ⟨0x2649, false, 3, false, 0x3⟩ Tail.empty),
    (0x9129C05402, .round 0x29C054 Tail.empty)] : List (Nat × Instr)), decodeTableWord 40 p.1 = some p.2 := by decide

theorem test_decode_R1_40_0 : ∀ p ∈ ([
    (0x400040662, .cntlz ⟨3, false, 4, false, .scalar, .o⟩ Ext.empty),
    (0x400440662, .cntlo ⟨3, false, 4, true, .scalar, .o⟩ Ext.empty),
    (0x401440662, .cntpop ⟨3, false, 4, true, .scalar, .o⟩ Ext.empty),
    (0x401C40662, .abs ⟨3, false, 4, true, .scalar, .o⟩ Ext.empty),
    (0x402440662, .sqrt ⟨3, false, 4, true, .scalar, .o⟩ Ext.empty),
    (0x402C40662, .revbit ⟨3, false, 4, true, .scalar, .o⟩ Ext.empty),
    (0x407440662, .sm3p0 ⟨3, false, 4, true, .scalar, .o⟩ Ext.empty),
    (0x407C40662, .sm3p1 ⟨3, false, 4, true, .scalar, .o⟩ Ext.empty),
    (0x409440662, .aes64ds ⟨3, false, 4, true, .scalar, .o⟩ Ext.empty),
    (0x409C40662, .aes64dsm ⟨3, false, 4, true, .scalar, .o⟩ Ext.empty),
    (0x40A440662, .aes64es ⟨3, false, 4, true, .scalar, .o⟩ Ext.empty),
    (0x40AC40662, .aes64esm ⟨3, false, 4, true, .scalar, .o⟩ Ext.empty)] : List (Nat × Instr)), decodeTableWord 40 p.1 = some p.2 := by decide

theorem test_decode_R1_40_1 : ∀ p ∈ ([
    (0x40B000002, .aes64im 0x40B000002 Ext.empty),
    (0x40C440662, .sha256sig0 ⟨3, false, 4, true, .scalar, .o⟩ Ext.empty),
    (0x40CC40662, .sha256sig1 ⟨3, false, 4, true, .scalar, .o⟩ Ext.empty),
    (0x40D440662, .sha256sum0 ⟨3, false, 4, true, .scalar, .o⟩ Ext.empty),
    (0x40DC40662, .sha256sum1 ⟨3, false, 4, true, .scalar, .o⟩ Ext.empty),
    (0x40E440662, .sha512sig0 ⟨3, false, 4, true, .scalar, .o⟩ Ext.empty),
    (0x40EC40662, .sha512sig1 ⟨3, false, 4, true, .scalar, .o⟩ Ext.empty),
    (0x40F440662, .sha512sum0 ⟨3, false, 4, true, .scalar, .o⟩ Ext.empty),
    (0x40FC40662, .sha512sum1 ⟨3, false, 4, true, .scalar, .o⟩ Ext.empty)] : List (Nat × Instr)), decodeTableWord 40 p.1 = some p.2 := by decide

theorem test_decode_CSR_40_0 : ∀ p ∈ ([
    (0x3185C40603, .csrrd ⟨3, false, 4, true, 0x310B, true⟩ Ext.empty),
    (0xB185D50603, .csrrdImm ⟨3, false, 0x55, 0x310B, true⟩ Ext.empty),
    (0x3185C40623, .csrwr ⟨3, false, 4, true, 0x310B, true⟩ Ext.empty),
    (0xB185D50623, .csrwrImm ⟨3, false, 0x55, 0x310B, true⟩ Ext.empty),
    (0x3185C40643, .csrrs ⟨3, false, 4, true, 0x310B, true⟩ Ext.empty),
    (0xB185D50643, .csrrsImm ⟨3, false, 0x55, 0x310B, true⟩ Ext.empty),
    (0x3185C40663, .csrrc ⟨3, false, 4, true, 0x310B, true⟩ Ext.empty),
    (0xB185D50663, .csrrcImm ⟨3, false, 0x55, 0x310B, true⟩ Ext.empty),
    (0x3185C40683, .csreor ⟨3, false, 4, true, 0x310B, true⟩ Ext.empty),
    (0xB185D50683, .csreorImm ⟨3, false, 0x55, 0x310B, true⟩ Ext.empty),
    (0x3185C406E3, .cpuid ⟨3, false, 4, true, 0x310B, true⟩ Ext.empty),
    (0xB185D506E3, .cpuidImm ⟨3, false, 0x55, 0x310B, true⟩ Ext.empty)] : List (Nat × Instr)), decodeTableWord 40 p.1 = some p.2 := by decide

theorem test_decode_CSR_40_1 : ∀ p ∈ ([
    (0x28000603, .getvl ⟨3, false, false⟩ Ext.empty),
    (0x28440623, .setvl ⟨3, false, 4, true, 0x50, false⟩ Ext.empty),
    (0x8028550623, .setvlImm ⟨3, false, 0x55, 0x50, false⟩ Ext.empty)] : List (Nat × Instr)), decodeTableWord 40 p.1 = some p.2 := by decide

theorem test_decode_RI_40_0 : ∀ p ∈ ([
    (0xA64B440664, .addi ⟨3, false, 4, true, 0x5396, false, false, .o⟩ Ext.empty),
    (0xA6C9440664, .rtdImm ⟨0x2, 3, false, 4, true, 0x539, .o⟩ Tail.empty),
    (0xA6C9440064, .rtsImm ⟨0x2, 0, false, 4, true, 0x539, .o⟩ Tail.empty),
    (0xA6CA440664, .rte1 ⟨3, false, 4, true, 0x9, 0x53, .o⟩ Tail.empty),
    (0xA6CC440664, .rte2 ⟨3, false, 4, true, 0x9, 0x53, .o⟩ Tail.empty),
    (0xA6CB440665, .cmpi ⟨3, false, 4, true, 0x5396, false, true, .o⟩ Ext.empty),
    (0xA64B440666, .muli ⟨3, false, 4, true, 0x5396, false, false, .o⟩ Ext.empty),
    (0xA6CB440666, .mului ⟨3, false, 4, true, 0x5396, false, false, .o⟩ Ext.empty),
    (0xA6CB440667, .divi ⟨3, false, 4, true, 0x5396, false, true, .o⟩ Ext.empty),
    (0xA64B440668, .andi ⟨3, false, 4, true, 0x5396, false, false, .o⟩ Ext.empty),
    (0xA64B448668, .nandi ⟨3, true, 4, true, 0x5396, false, false, .o⟩ Ext.empty),
    (0xA64B440669, .ori ⟨3, false, 4, true, 0x5396, false, false, .o⟩ Ext.empty)] : List (Nat × Instr)), decodeTableWord 40 p.1 = some p.2 := by decide

theorem test_decode_RI_40_1 : ∀ p ∈ ([
    (0xA64B448669, .nori ⟨3, true, 4, true, 0x5396, false, false, .o⟩ Ext.empty),
    (0xA6CB440669, .orf ⟨3, false, 4, true, 0x5396, false, false, .h⟩ Ext.empty),
    (0xA6CB44066A, .eori ⟨3, false, 4, true, 0x5396, false, true, .o⟩ Ext.empty),
    (0xA6CB44866A, .enori ⟨3, true, 4, true, 0x5396, false, true, .o⟩ Ext.empty),
    (0x440673, .bmapImm ⟨3, false, 4, true, 0x0, false, false, .o⟩ Ext.empty),
    (0xA74B440664, .vaddImm ⟨3, false, 4, true, 0x5396, true, false, .o⟩ Ext.empty),
    (0xA74B440668, .vandImm ⟨3, false, 4, true, 0x5396, true, false, .o⟩ Ext.empty)] : List (Nat × Instr)), decodeTableWord 40 p.1 = some p.2 := by decide

theorem test_decode_CHK_40_0 : ∀ p ∈ ([
    (0x602C40A6B, .chk ⟨4, true, 5, false, 6, 0x5, .scalar, .o⟩ Ext.empty),
    (0xA682C49A6B, .chki ⟨4, true, 5, false, 0x539, 0x5, .scalar, .o⟩ Ext.empty)] : List (Nat × Instr)), decodeTableWord 40 p.1 = some p.2 := by decide

theorem test_decode_FLT2_40_0 : ∀ p ∈ ([
    (0x2C4068C, .fscaleb ⟨3, false, 4, true, 5, false, .scalar, .ne, .q⟩ Ext.empty),
    (0x14B44068C, .fscalebImm ⟨3, false, 4, true, 0x96, false, .q⟩ Ext.empty),
    (0x2202C4068C, .fadd ⟨3, false, 4, true, 5, false, .scalar, .up, .q⟩ Ext.empty),
    (0x2222C4068C, .fsub ⟨3, false, 4, true, 5, true, .scalar, .up, .q⟩ Ext.empty),
    (0x2802C4068C, .fcmp ⟨3, false, 4, true, 5, false, .scalar, .ne, .q⟩ Ext.empty),
    (0x3202C4068C, .fmul ⟨3, false, 4, true, 5, false, .scalar, .up, .q⟩ Ext.empty),
    (0x3A02C4068C, .fdiv ⟨3, false, 4, true, 5, false, .scalar, .up, .q⟩ Ext.empty),
    (0x4002C4068C, .fseq ⟨3, false, 4, true, 5, false, .scalar, .ne, .q⟩ Ext.empty),
    (0x4002C4868C, .fsne ⟨3, true, 4, true, 5, false, .scalar, .ne, .q⟩ Ext.empty),
    (0x4202C4068C, .fsle ⟨3, false, 4, true, 5, false, .scalar, .ne, .q⟩ Ext.empty),
    (0x4302C4068C, .fslt ⟨3, false, 4, true, 5, false, .scalar, .ne, .q⟩ Ext.empty),
    (0x4402C4068C, .fsge ⟨3, false, 4, true, 5, false, .scalar, .ne, .q⟩ Ext.empty)] : List (Nat × Instr)), decodeTableWord 40 p.1 = some p.2 := by decide

theorem test_decode_FLT2_40_1 : ∀ p ∈ ([
    (0x4502C4068C, .fsgt ⟨3, false, 4, true, 5, false, .scalar, .ne, .q⟩ Ext.empty),
    (0x100000000C, .fmin 0x100000000C Ext.empty),
    (0x180000000C, .fmax 0x180000000C Ext.empty),
    (0x700000000C, .fnxt 0x700000000C Ext.empty),
    (0x780000000C, .frem 0x780000000C Ext.empty)] : List (Nat × Instr)), decodeTableWord 40 p.1 = some p.2 := by decide

theorem test_decode_FLT1_40_0 : ∀ p ∈ ([
    (0x80AC4068C, .ftrunc ⟨3, false, 4, true, .scalar, .q⟩ Ext.empty),
    (0x81044068C, .fabs ⟨3, false, 4, true, .scalar, .q⟩ Ext.empty),
    (0x81144068C, .fneg ⟨3, false, 4, true, .scalar, .q⟩ Ext.empty),
    (0x80100000C, .ftoi 0x80100000C Ext.empty),
    (0x80180000C, .itof 0x80180000C Ext.empty),
    (0x80300000C, .fsign 0x80300000C Ext.empty),
    (0x80380000C, .fsig 0x80380000C Ext.empty),
    (0x80400000C, .fsqrt 0x80400000C Ext.empty),
    (0x80480000C, .fs2d 0x80480000C Ext.empty),
    (0x80500000C, .fs2q 0x80500000C Ext.empty),
    (0x80580000C, .fd2q 0x80580000C Ext.empty),
    (0x80700000C, .isnan 0x80700000C Ext.empty)] : List (Nat × Instr)), decodeTableWord 40 p.1 = some p.2 := by decide

theorem test_decode_FLT1_40_1 : ∀ p ∈ ([
    (0x80780000C, .finite 0x80780000C Ext.empty),
    (0x80B80000C, .fres 0x80B80000C Ext.empty),
    (0x80C80000C, .fd2s 0x80C80000C Ext.empty),
    (0x80D00000C, .fq2s 0x80D00000C Ext.empty),
    (0x80D80000C, .fq2d 0x80D80000C Ext.empty),
    (0x80F00000C, .fclass 0x80F00000C Ext.empty)] : List (Nat × Instr)), decodeTableWord 40 p.1 = some p.2 := by decide

theorem test_decode_none_40_0 : ∀ p ∈ ([
    (0xF, .fma 0xF Tail.empty)] : List (Nat × Instr)), decodeTableWord 40 p.1 = some p.2 := by decide

theorem test_decode_FLTI_40_0 : ∀ p ∈ ([
    (0xA6D2C40694, .faddi ⟨3, false, 4, true, 0xA7A5, false, .q⟩ Ext.empty),
    (0xA6D2C48695, .fcmpi ⟨3, true, 4, true, 0xA7A5, false, .q⟩ Ext.empty),
    (0xA6D2C40696, .fmuli ⟨3, false, 4, true, 0xA7A5, false, .q⟩ Ext.empty),
    (0xA6D2C48697, .fdivi ⟨3, true, 4, true, 0xA7A5, false, .q⟩ Ext.empty)] : List (Nat × Instr)), decodeTableWord 40 p.1 = some p.2 := by decide

theorem test_decode_BITF_40_0 : ∀ p ∈ ([
    (0x602C4060D, .clr ⟨3, false, 4, true, 5, false, 6, .scalar⟩ Ext.empty),
    (0x9452C4060D, .clrImm ⟨3, false, 4, true, 0x25, 0x51, false⟩ Ext.empty),
    (0x602C4062D, .set ⟨3, false, 4, true, 5, false, 6, .scalar⟩ Ext.empty),
    (0x9452C4062D, .setImm ⟨3, false, 4, true, 0x25, 0x51, false⟩ Ext.empty),
    (0x602C4064D, .com ⟨3, false, 4, true, 5, false, 6, .scalar⟩ Ext.empty),
    (0x9452C4064D, .comImm ⟨3, false, 4, true, 0x25, 0x51, false⟩ Ext.empty),
    (0x602C4066D, .sbx ⟨3, false, 4, true, 5, false, 6, .scalar⟩ Ext.empty),
    (0x9452C4066D, .sbxImm ⟨3, false, 4, true, 0x25, 0x51, false⟩ Ext.empty),
    (0x602C4068D, .extu ⟨3, false, 4, true, 5, false, 6, .scalar⟩ Ext.empty),
    (0x9452C4068D, .extuImm ⟨3, false, 4, true, 0x25, 0x51, false⟩ Ext.empty),
    (0x602C406AD, .exts ⟨3, false, 4, true, 5, false, 6, .scalar⟩ Ext.empty),
    (0x9452C406AD, .extsImm ⟨3, false, 4, true, 0x25, 0x51, false⟩ Ext.empty)] : List (Nat × Instr)), decodeTableWord 40 p.1 = some p.2 := by decide

theorem test_decode_BITF_40_1 : ∀ p ∈ ([
    (0x602C406CD, .dep ⟨3, false, 4, true, 5, false, 6, .scalar⟩ Ext.empty),
    (0x9452C406CD, .depImm ⟨3, false, 4, true, 0x25, 0x51, false⟩ Ext.empty),
    (0xED, .bitrr 0xED Ext.empty)] : List (Nat × Instr)), decodeTableWord 40 p.1 = some p.2 := by decide

theorem test_decode_SHIFT_40_0 : ∀ p ∈ ([
    (0x2C4066E, .asl ⟨3, false, 4, true, 5, false, false, .scalar, .o⟩ Ext.empty),
    (0x402AC4066E, .aslImm ⟨3, false, 4, true, 0x55, false, .o⟩ Ext.empty),
    (0x802C4066E, .asr ⟨3, false, 4, true, 5, false, false, .scalar, .o⟩ Ext.empty),
    (0x482AC4066E, .asrImm ⟨3, false, 4, true, 0x55, false, .o⟩ Ext.empty),
    (0x1002C4066E, .lsl ⟨3, false, 4, true, 5, false, false, .scalar, .o⟩ Ext.empty),
    (0x502AC4066E, .lslImm ⟨3, false, 4, true, 0x55, false, .o⟩ Ext.empty),
    (0x1202C4066E, .lsland ⟨3, false, 4, true, 5, false, false, .scalar, .o⟩ Ext.empty),
    (0x522AC4066E, .lslandImm ⟨3, false, 4, true, 0x55, false, .o⟩ Ext.empty),
    (0x1402C4066E, .lslor ⟨3, false, 4, true, 5, false, false, .scalar, .o⟩ Ext.empty),
    (0x542AC4066E, .lslorImm ⟨3, false, 4, true, 0x55, false, .o⟩ Ext.empty),
    (0x1602C4066E, .lslxor ⟨3, false, 4, true, 5, false, false, .scalar, .o⟩ Ext.empty),
    (0x562AC4066E, .lslxorImm ⟨3, false, 4, true, 0x55, false, .o⟩ Ext.empty)] : List (Nat × Instr)), decodeTableWord 40 p.1 = some p.2 := by decide

theorem test_decode_SHIFT_40_1 : ∀ p ∈ ([
    (0x1802C4066E, .lsr ⟨3, false, 4, true, 5, false, false, .scalar, .o⟩ Ext.empty),
    (0x582AC4066E, .lsrImm ⟨3, false, 4, true, 0x55, false, .o⟩ Ext.empty),
    (0x2002C4066E, .rol ⟨3, false, 4, true, 5, false, false, .scalar, .o⟩ Ext.empty),
    (0x602AC4066E, .rolImm ⟨3, false, 4, true, 0x55, false, .o⟩ Ext.empty),
    (0x2802C4066E, .ror ⟨3, false, 4, true, 5, false, false, .scalar, .o⟩ Ext.empty),
    (0x682AC4066E, .rorImm ⟨3, false, 4, true, 0x55, false, .o⟩ Ext.empty),
    (0x8042C4066E, .vshlv ⟨3, false, 4, true, 5, false, false, .vs, .o⟩ Ext.empty),
    (0x8842C4066E, .vshrv ⟨3, false, 4, true, 5, false, false, .vs, .o⟩ Ext.empty),
    (0xC06AC4066E, .vshlvi ⟨3, false, 4, true, 0x55, .o⟩ Ext.empty),
    (0xC86AC4066E, .vshrvi ⟨3, false, 4, true, 0x55, .o⟩ Ext.empty)] : List (Nat × Instr)), decodeTableWord 40 p.1 = some p.2 := by decide

theorem test_decode_MEMD_40_0 : ∀ p ∈ ([
    (0x5502836A70, .load .o ⟨3, false, 5, false, false, 0x2, 0x1535⟩ Ext.empty),
    (0x55028A6AD0, .loadg ⟨10, false, 5, false, false, 0x2, 0x1535⟩ none Tail.empty),
    (0xD502836A70, .fload .d ⟨3, false, 5, false, false, 0x2, 0x1535⟩ Ext.empty),
    (0x5502836A71, .loadz .o ⟨3, false, 5, false, false, 0x2, 0x1535⟩ Ext.empty),
    (0xD502836A11, .la ⟨3, false, 5, false, false, 0x2, 0x1535⟩ Ext.empty),
    (0xD502C46A51, .stptrT ⟨4, true, 5, false, false, 0x2, 0x1535⟩ Ext.empty),
    (0xD502C46A71, .stptrO ⟨4, true, 5, false, false, 0x2, 0x1535⟩ Ext.empty),
    (0xD502C46A91, .stptrH ⟨4, true, 5, false, false, 0x2, 0x1535⟩ Ext.empty),
    (0xD502846AB1, .cache ⟨4, false, 5, false, false, 0x2, 0x1535⟩ Ext.empty),
    (0x5502C46A72, .store .o ⟨4, true, 5, false, false, 0x2, 0x1535⟩ Ext.empty),
    (0x55028A6AD2, .storeg ⟨10, false, 5, false, false, 0x2, 0x1535⟩ none Tail.empty),
    (0xD502C46A72, .fstore .d ⟨4, true, 5, false, false, 0x2, 0x1535⟩ Ext.empty)] : List (Nat × Instr)), decodeTableWord 40 p.1 = some p.2 := by decide

theorem test_decode_MEMX_40_0 : ∀ p ∈ ([
    (0x6828366F0, .loadX .o ⟨3, false, 5, false, 6, true, .scalar, 0x1, 0x2⟩ Ext.empty),
    (0x6828A6CF0, .loadgX ⟨10, false, 5, false, 6, true, .scalar, 0x1, 0x2⟩ none Tail.empty),
    (0x86828366F0, .floadX .d ⟨3, false, 5, false, 6, true, .scalar, 0x1, 0x2⟩ Ext.empty),
    (0x6828366F1, .loadzX .o ⟨3, false, 5, false, 6, true, .scalar, 0x1, 0x2⟩ Ext.empty),
    (0x86828360F1, .laX ⟨3, false, 5, false, 6, true, .scalar, 0x1, 0x2⟩ Ext.empty),
    (0x8682C464F1, .stptrTX ⟨4, true, 5, false, 6, true, .scalar, 0x1, 0x2⟩ Ext.empty),
    (0x8682C466F1, .stptrOX ⟨4, true, 5, false, 6, true, .scalar, 0x1, 0x2⟩ Ext.empty),
    (0x8682C468F1, .stptrHX ⟨4, true, 5, false, 6, true, .scalar, 0x1, 0x2⟩ Ext.empty),
    (0x8682846AF1, .cacheX ⟨4, false, 5, false, 6, true, .scalar, 0x1, 0x2⟩ Ext.empty),
    (0x682C466F2, .storeX .o ⟨4, true, 5, false, 6, true, .scalar, 0x1, 0x2⟩ Ext.empty),
    (0x6828A6CF2, .storegX ⟨10, false, 5, false, 6, true, .scalar, 0x1, 0x2⟩ none Tail.empty),
    (0x8682C466F2, .fstoreX .d ⟨4, true, 5, false, 6, true, .scalar, 0x1, 0x2⟩ Ext.empty)] : List (Nat × Instr)), decodeTableWord 40 p.1 = some p.2 := by decide

theorem test_decode_JSR_40_0 : ∀ p ∈ ([
    (0xA64B040078, .jmp ⟨0, 4, 0x5396, 0x3⟩ Tail.empty),
    (0xA6CB048078, .jmpInd ⟨0, true, 4, 0x5396, .o⟩ Tail.empty),
    (0xA64B040678, .jsr ⟨3, 4, 0x5396, 0x3⟩ Tail.empty),
    (0xA6CB048678, .jsrInd ⟨3, true, 4, 0x5396, .o⟩ Tail.empty),
    (0x8AC48078, .braTable ⟨0, true, 4, 0x15, .o⟩ Tail.empty),
    (0x8AC48678, .bsrTable ⟨3, true, 4, 0x15, .o⟩ Tail.empty)] : List (Nat × Instr)), decodeTableWord 40 p.1 = some p.2 := by decide

theorem test_decode_CMPXCHG_40_0 : ∀ p ∈ ([
    (0x682C40679, .cmpxchg ⟨3, false, 4, true, 5, false, 6, true, .o⟩ Ext.empty),
    (0x8682C46A79, .storePair ⟨4, true, 5, false, 6, true, 0x35, .o⟩ Ext.empty)] : List (Nat × Instr)), decodeTableWord 40 p.1 = some p.2 := by decide

theorem test_decode_AMO_40_0 : ∀ p ∈ ([
    (0x1402C4067A, .ammin ⟨3, false, 4, true, 5, false, true, false, .o⟩ Ext.empty),
    (0x2402C4067A, .amadd ⟨3, false, 4, true, 5, false, true, false, .o⟩ Ext.empty),
    (0xA44B44067A, .amaddImm ⟨3, false, 4, true, 0x96, true, false, .o⟩ Ext.empty),
    (0x3402C4067A, .amasl ⟨3, false, 4, true, 5, false, true, false, .o⟩ Ext.empty),
    (0xB44B44067A, .amaslImm ⟨3, false, 4, true, 0x96, true, false, .o⟩ Ext.empty),
    (0x3C02C4067A, .amlsr ⟨3, false, 4, true, 5, false, true, false, .o⟩ Ext.empty),
    (0xBC4B44067A, .amlsrImm ⟨3, false, 4, true, 0x96, true, false, .o⟩ Ext.empty),
    (0x4402C4067A, .amand ⟨3, false, 4, true, 5, false, true, false, .o⟩ Ext.empty),
    (0xC44B44067A, .amandImm ⟨3, false, 4, true, 0x96, true, false, .o⟩ Ext.empty),
    (0x4C02C4067A, .amor ⟨3, false, 4, true, 5, false, true, false, .o⟩ Ext.empty),
    (0xCC4B44067A, .amorImm ⟨3, false, 4, true, 0x96, true, false, .o⟩ Ext.empty),
    (0x5402C4067A, .ameor ⟨3, false, 4, true, 5, false, true, false, .o⟩ Ext.empty)] : List (Nat × Instr)), decodeTableWord 40 p.1 = some p.2 := by decide

theorem test_decode_AMO_40_1 : ∀ p ∈ ([
    (0xD44B44067A, .ameorImm ⟨3, false, 4, true, 0x96, true, false, .o⟩ Ext.empty),
    (0x6402C4067A, .amminu ⟨3, false, 4, true, 5, false, true, false, .o⟩ Ext.empty),
    (0x1A, .amswap 0x1A Ext.empty),
    (0x180000001A, .ammax 0x180000001A Ext.empty),
    (0x680000001A, .ammaxu 0x680000001A Ext.empty),
    (0x780000001A, .amcas 0x780000001A Ext.empty),
    (0x800000001A, .amswapImm 0x800000001A Ext.empty),
    (0x900000001A, .amminImm 0x900000001A Ext.empty),
    (0x980000001A, .ammaxImm 0x980000001A Ext.empty),
    (0xE00000001A, .amminuImm 0xE00000001A Ext.empty),
    (0xE80000001A, .ammaxuImm 0xE80000001A Ext.empty),
    (0xF80000001A, .amcasImm 0xF80000001A Ext.empty)] : List (Nat × Instr)), decodeTableWord 40 p.1 = some p.2 := by decide

theorem test_decode_BLOCK_40_0 : ∀ p ∈ ([
    (0x282C44C7A, .bcmp ⟨4, true, 5, false, 0x1, 0x2, 0x2, 0x1, false, false, .o⟩ Ext.empty),
    (0xA82C4047A, .bfnd ⟨4, true, 5, false, 0, 0x2, 0, 0x1, false, false, .o⟩ Ext.empty),
    (0x1282C44C7A, .bmov ⟨4, true, 5, false, 0x1, 0x2, 0x2, 0x1, false, false, .o⟩ Ext.empty),
    (0x1C82C4167A, .bset ⟨4, true, 5, false, 0xB, 0x2, false, false, .o⟩ Ext.empty)] : List (Nat × Instr)), decodeTableWord 40 p.1 = some p.2 := by decide

theorem test_decode_B_40_0 : ∀ p ∈ ([
    (0xD2E182881B, .beq ⟨4, 5, 0x1A5C3⟩ Tail.empty),
    (0xD2E182883B, .bne ⟨4, 5, 0x1A5C3⟩ Tail.empty),
    (0xD2E182885B, .blt ⟨4, 5, 0x1A5C3⟩ Tail.empty),
    (0xD2E182887B, .ble ⟨4, 5, 0x1A5C3⟩ Tail.empty),
    (0xD2E182889B, .bge ⟨4, 5, 0x1A5C3⟩ Tail.empty),
    (0xD2E18288BB, .bgt ⟨4, 5, 0x1A5C3⟩ Tail.empty),
    (0xD2E18288DB, .bbc ⟨4, 5, 0x1A5C3⟩ Tail.empty),
    (0xD2E18288FB, .bbs ⟨4, 5, 0x1A5C3⟩ Tail.empty),
    (0xD2E194891B, .bbcImm ⟨4, 41, 0x1A5C3⟩ Tail.empty),
    (0xD2E194893B, .bbsImm ⟨4, 41, 0x1A5C3⟩ Tail.empty),
    (0xD2E182895B, .bltu ⟨4, 5, 0x1A5C3⟩ Tail.empty),
    (0xD2E182897B, .bleu ⟨4, 5, 0x1A5C3⟩ Tail.empty)] : List (Nat × Instr)), decodeTableWord 40 p.1 = some p.2 := by decide

theorem test_decode_B_40_1 : ∀ p ∈ ([
    (0xD2E182899B, .bgeu ⟨4, 5, 0x1A5C3⟩ Tail.empty),
    (0xD2E18289BB, .bgtu ⟨4, 5, 0x1A5C3⟩ Tail.empty),
    (0xD2E1C2881B, .fbeq ⟨4, 5, 0x1A5C3⟩ Tail.empty),
    (0xD2E1C2883B, .fbne ⟨4, 5, 0x1A5C3⟩ Tail.empty),
    (0xD2E1C2885B, .fbgt ⟨4, 5, 0x1A5C3⟩ Tail.empty),
    (0xD2E1C2887B, .fbugt ⟨4, 5, 0x1A5C3⟩ Tail.empty),
    (0xD2E1C2889B, .fbge ⟨4, 5, 0x1A5C3⟩ Tail.empty),
    (0xD2E1C288BB, .fbuge ⟨4, 5, 0x1A5C3⟩ Tail.empty),
    (0xD2E1C288DB, .fblt ⟨4, 5, 0x1A5C3⟩ Tail.empty),
    (0xD2E1C288FB, .fbult ⟨4, 5, 0x1A5C3⟩ Tail.empty),
    (0xD2E1C2891B, .fble ⟨4, 5, 0x1A5C3⟩ Tail.empty),
    (0xD2E1C2893B, .fbule ⟨4, 5, 0x1A5C3⟩ Tail.empty)] : List (Nat × Instr)), decodeTableWord 40 p.1 = some p.2 := by decide

theorem test_decode_B_40_2 : ∀ p ∈ ([
    (0xD2E1C2895B, .fbgl ⟨4, 5, 0x1A5C3⟩ Tail.empty),
    (0xD2E1C2897B, .fbugl ⟨4, 5, 0x1A5C3⟩ Tail.empty),
    (0xD2E1C2899B, .fbord ⟨4, 5, 0x1A5C3⟩ Tail.empty),
    (0xD2E1C289BB, .fbun ⟨4, 5, 0x1A5C3⟩ Tail.empty),
    (0xD2E1A2887B, .pbcc ⟨0x3, 4, 5, 0x1A5C3⟩ Tail.empty),
    (0xD2E1E2887B, .dfbcc ⟨0x3, 4, 5, 0x1A5C3⟩ Tail.empty),
    (0xD2E182887D, .dbcc ⟨0x3, 4, 5, 0x1A5C3⟩ Tail.empty),
    (0xD2E1C2887D, .dbccFloat ⟨0x3, 4, 5, 0x1A5C3⟩ Tail.empty),
    (0xD2E1A2887D, .dbccPosit ⟨0x3, 4, 5, 0x1A5C3⟩ Tail.empty),
    (0xD2E1E2887D, .dbccDecimal ⟨0x3, 4, 5, 0x1A5C3⟩ Tail.empty)] : List (Nat × Instr)), decodeTableWord 40 p.1 = some p.2 := by decide

theorem test_decode_BL2_40_0 : ∀ p ∈ ([
    (0xD2E1D299DB, .bra 0x14A7A5C3 Tail.empty),
    (0xD2E1D29DFB, .bsr 2 0x14A7A5C3 Tail.empty)] : List (Nat × Instr)), decodeTableWord 40 p.1 = some p.2 := by decide

theorem test_decode_LB_48_0 : ∀ p ∈ ([
    (0x91A2D382881C, .lbeq ⟨4, 5, 0x12345A7⟩ Tail.empty),
    (0x91A2D382883C, .lbne ⟨4, 5, 0x12345A7⟩ Tail.empty),
    (0x91A2D382885C, .lblt ⟨4, 5, 0x12345A7⟩ Tail.empty),
    (0x91A2D382887C, .lble ⟨4, 5, 0x12345A7⟩ Tail.empty),
    (0x91A2D382889C, .lbge ⟨4, 5, 0x12345A7⟩ Tail.empty),
    (0x91A2D38288BC, .lbgt ⟨4, 5, 0x12345A7⟩ Tail.empty),
    (0x91A2D38288DC, .lbbc ⟨4, 5, 0x12345A7⟩ Tail.empty),
    (0x91A2D38288FC, .lbbs ⟨4, 5, 0x12345A7⟩ Tail.empty),
    (0x91A2D394891C, .lbbcImm ⟨4, 41, 0x12345A7⟩ Tail.empty),
    (0x91A2D394893C, .lbbsImm ⟨4, 41, 0x12345A7⟩ Tail.empty),
    (0x91A2D382895C, .lbltu ⟨4, 5, 0x12345A7⟩ Tail.empty),
    (0x91A2D382897C, .lbleu ⟨4, 5, 0x12345A7⟩ Tail.empty)] : List (Nat × Instr)), decodeTableWord 48 p.1 = some p.2 := by decide

theorem test_decode_LB_48_1 : ∀ p ∈ ([
    (0x91A2D382899C, .lbgeu ⟨4, 5, 0x12345A7⟩ Tail.empty),
    (0x91A2D38289BC, .lbgtu ⟨4, 5, 0x12345A7⟩ Tail.empty),
    (0x91A2D3C2881C, .lfbeq ⟨4, 5, 0x12345A7⟩ Tail.empty),
    (0x91A2D3C2883C, .lfbne ⟨4, 5, 0x12345A7⟩ Tail.empty),
    (0x91A2D3C2885C, .lfbgt ⟨4, 5, 0x12345A7⟩ Tail.empty),
    (0x91A2D3C2887C, .lfbugt ⟨4, 5, 0x12345A7⟩ Tail.empty),
    (0x91A2D3C2889C, .lfbge ⟨4, 5, 0x12345A7⟩ Tail.empty),
    (0x91A2D3C288BC, .lfbuge ⟨4, 5, 0x12345A7⟩ Tail.empty),
    (0x91A2D3C288DC, .lfblt ⟨4, 5, 0x12345A7⟩ Tail.empty),
    (0x91A2D3C288FC, .lfbult ⟨4, 5, 0x12345A7⟩ Tail.empty),
    (0x91A2D3C2891C, .lfble ⟨4, 5, 0x12345A7⟩ Tail.empty),
    (0x91A2D3C2893C, .lfbule ⟨4, 5, 0x12345A7⟩ Tail.empty)] : List (Nat × Instr)), decodeTableWord 48 p.1 = some p.2 := by decide

theorem test_decode_LB_48_2 : ∀ p ∈ ([
    (0x91A2D3C2895C, .lfbgl ⟨4, 5, 0x12345A7⟩ Tail.empty),
    (0x91A2D3C2897C, .lfbugl ⟨4, 5, 0x12345A7⟩ Tail.empty),
    (0x91A2D3C2899C, .lfbord ⟨4, 5, 0x12345A7⟩ Tail.empty),
    (0x91A2D3C289BC, .lfbun ⟨4, 5, 0x12345A7⟩ Tail.empty),
    (0x91A2D3A2887C, .lpbcc ⟨0x3, 4, 5, 0x12345A7⟩ Tail.empty),
    (0x91A2D3E2887C, .ldfbcc ⟨0x3, 4, 5, 0x12345A7⟩ Tail.empty)] : List (Nat × Instr)), decodeTableWord 48 p.1 = some p.2 := by decide

theorem test_decode_LBL2_48_0 : ∀ p ∈ ([
    (0x91A2D3D299DC, .lbra 0x14A72345A7 Tail.empty),
    (0x91A2D3D29DFC, .lbsr 2 0x14A72345A7 Tail.empty)] : List (Nat × Instr)), decodeTableWord 48 p.1 = some p.2 := by decide

theorem test_decode_PFX_40_0 : ∀ p ∈ ([
    (0xDEADBEEF1F, .pfx0 0xDEADBEEF),
    (0xCAFEBABE3F, .pfx1 0xCAFEBABE),
    (0x123456785F, .pfx2 0x12345678)] : List (Nat × Instr)), decodeTableWord 40 p.1 = some p.2 := by decide

theorem test_decode_REGS_72_0 : ∀ p ∈ ([
    (0x8123456789ABCDEFBF, .regs 0x8123456789ABCDEF)] : List (Nat × Instr)), decodeTableWord 72 p.1 = some p.2 := by decide

theorem test_decode_NOP_40_0 : ∀ p ∈ ([
    (0xFF, .nop Tail.empty)] : List (Nat × Instr)), decodeTableWord 40 p.1 = some p.2 := by decide
/-! Worked examples of 95_test_vectors: one instruction on a small state; expected values are the spec's. -/

/-- The state after reset with the given registers, at address 0x1000. -/
def testState (rs : List (Reg × Word)) : State :=
  { rs.foldl (fun s r => s.setReg r.1 r.2) State.reset with pc := 0x1000 }

/-- Eight-byte values in memory, and all of vector mask 0. -/
def testMem (s : State) (ms : List (Addr × Nat)) : State :=
  { s.setReg 32 (BitVec.allOnes 128) with mem := ms.foldl (fun m a => Memory.writeList a.1.toNat (toBytes 8 a.2) m) s.mem }

/-- The state after the instruction of a word, where it completes. -/
noncomputable def testRun (w : Nat) (s : State) : Option State :=
  match decodeTableWord 40 w with
  | some i => match exec i s with
    | .next t => some t
    | _ => none
  | none => none

/-- What r3 holds after a word was executed with r4 and r5 as given. -/
noncomputable def testR3 (w : Nat) (a b : Word) : Option Word := (testRun w (testState [(4, a), (5, b)])).map (·.reg 3)

/-- I1 to I27: sums, logic, compares. -/
theorem test_run_integer : ∀ e ∈ ([
    (0x1002840662, 7, 9, 16), (0x1020040662, 7, 9, 6), (0x1002840602, 0x7F, 1, -128), (0x1002840602, 0x1FF, 1, 0),
    (0x1002840682, -1, 1, 0), (0x1002840662, 0x7FFFFFFFFFFFFFFF, 1, -0x8000000000000000),
    (0x0032040664, 1, 0, 101), (0x7E7F840664, 0, 0, 16383), (0x8000040664, 0, 0, -16384),
    (0x1022840662, 7, 9, -2), (0x007F840668, 0x1234, 0, 0x34), (0x2002848662, 0xFF, 0xFF, -256),
    (0x0869000669, 0, 0, 1234), (0x2802840662, 0xFF, 0x0F, 0xF0), (0x1402840662, 5, 9, 0x0C4E),
    (0x0005040665, 10, 0, 0x1859), (0x1402840662, 0xFFFFFFFFFFFFFFFF, 1, 0x308E),
    (0x1402840662, 1, 200, 0x0C4E), (0x1602840602, 0x80, 1, 0x0E)] : List (Nat × Word × Word × Word)),
    testR3 e.1 e.2.1 e.2.2.1 = some e.2.2.2 := by decide +kernel

/-- I22 to I42: products, quotients, counts, sets. -/
theorem test_run_integer_more : ∀ e ∈ ([
    (0x1802840662, 6, 7, 42), (0x0005040666, -1, 0, -10), (0x3002840662, 0x4000000000000000, 4, 1),
    (0x3082840662, 0xFFFFFFFFFFFFFFFF, 2, 1), (0x1C02840662, -7, 2, -3), (0x1C02840662, 10005, 27, 370),
    (0x1C02840662, 0x8000000000000000, -1, -0x8000000000000000), (0x1C82840662, 0xFFFFFFFFFFFFFFFF, 2, 0x7FFFFFFFFFFFFFFF),
    (0x3C02840662, -7, 2, -1), (0x3C82840662, 10005, 27, 15), (0x0401840662, -5, 0, 5), (0x0400040662, 1, 0, 63),
    (0x0400040662, 0, 0, 64), (0x0401040662, 0xF0F0, 0, 8), (0x0402840662, 1, 0, -0x8000000000000000),
    (0x0402040662, 17, 0, 4), (0x3802840662, 3, 3, 5), (0x6802840662, 5, 5, 1), (0x6C02840662, -1, 0, 1),
    (0x7402840662, -1, 0, 0), (0x3600040602, 0x636261, 0, 3)] : List (Nat × Word × Word × Word)),
    testR3 e.1 e.2.1 e.2.2.1 = some e.2.2.2 := by decide +kernel

/-- BF1 to BF7, S1 to S10: bit fields and shifts. -/
theorem test_run_fields_and_shifts : ∀ e ∈ ([
    (0x83C404060D, 0xFFFF, 0x00FF), (0x83C404062D, 0, 0xFF00), (0x83C404064D, 0x0F0F, 0xF00F),
    (0x83C404066D, 0x01FF, 0xFFFF), (0x83C404068D, 0xABCD, 0xAB), (0x83C40406AD, 0xABCD, -85),
    (0x400204066E, 0x0F, 0xF0), (0x480204066E, 0xFFFFFFFFFFFFFF00, -16), (0x580204066E, 0xF0, 0x0F),
    (0x580204066E, -1, 0x0FFFFFFFFFFFFFFF), (0x600204066E, 0xF000000000000001, 0x1F),
    (0x680204066E, 0x1F, -0x0FFFFFFFFFFFFFFF), (0x400484060E, 0xFF, 0), (0x480484060E, 0x80, -1),
    (0x503204068E, 1, 0x10000000000000000000000000)] : List (Nat × Word × Word)),
    testR3 e.1 e.2.1 0 = some e.2.2 := by decide +kernel

/-- F1 to F13: floating point in quad precision. -/
theorem test_run_float : ∀ e ∈ ([
    (0x200284068C, 0x3FFF, 0x4000, 0x40008), (0x202284068C, 0x3FFF, 0x4000, 0xBFFF0), (0x300284068C, 0x4000, 0x3FFE, 0x3FFF0),
    (0x380284068C, 0x3FFF, 0x4000, 0x3FFE0), (0x380284068C, 0x3FFF, 0, 0x7FFF0), (0x081004068C, 0xBFFF, 0, 0x3FFF0),
    (0x081104068C, 0x3FFF, 0, 0xBFFF0), (0x3C00040694, 0x4000, 0, 0x40008)] : List (Nat × Word × Word × Word)),
    testR3 e.1 (e.2.1 <<< 112) (e.2.2.1 <<< 112) =
      some (e.2.2.2 <<< 108) := by decide +kernel

/-- X5 to X11: the SHA functions. -/
theorem test_run_sha : ∀ e ∈ ([
    (0x040C040642, 0x12345678, -0x18031912), (0x040C040642, 0x80000000, 0x11002000),
    (0x040C840642, 0x12345678, -0x5E0879B7), (0x040D040642, 0x12345678, 0x66146474),
    (0x040D840642, 0x12345678, 0x3561ABDA), (0x040E840662, 1, 0x0000200000000008)] : List (Nat × Word × Word)),
    testR3 e.1 e.2.1 0 = some e.2.2 := by decide +kernel

/-- BR1 to BR19: where a branch at 0x1000 goes. -/
theorem test_run_branches : ∀ e ∈ ([
    (0x001402881B, 5, 5, 0x1028), (0x001402881B, 5, 6, 0x1005), (0xFFFB02881B, 5, 5, 0x0FF6), (0x7FFF82881B, 5, 5, 0x10FFF),
    (0x800002881B, 5, 5, 0xFFFFFFFFFFFF1000), (0x001402885B, -1, 0, 0x1028), (0x001402895B, 1, -1, 0x1028),
    (0x001402885B, 1, -1, 0x1005), (0x001401891B, 0xF7, 0, 0x1028), (0x001401891B, 8, 0, 0x1005),
    (0x00140288FB, 1, 300, 0x1005), (0x01F40001DB, 0, 0, 0x13E8), (0xFFFDFFF9DB, 0, 0, 0x0FFB),
    (0x08000002881C, 5, 5, 0x101000), (0x08000002881C, 5, 6, 0x1006)] : List (Nat × Word × Word × Addr)),
    (testRun e.1 (testState [(4, e.2.1), (5, e.2.2.1)])).map (·.pc) =
      some e.2.2.2 := by decide +kernel

/-- J1, J4, J7, BR14, BR18: jumps, calls, returns. -/
theorem test_run_jumps :
    (testRun 0x0032040078 (testState [(4, 0x5000)])).map (·.pc) = some 0x5064 ∧
    (testRun 0x0032047078 (testState [(4, 0x5000)])).map (fun t => (t.pc, t.reg 56)) = some (0x5064, 0x1005) ∧
    (testRun 0x00903F7E84 (testState [(63, 0x8000), (56, 0x1005)])).map (fun t => (t.pc, t.reg 63)) = some (0x1005, 0x8020) ∧
    (testRun 0x01F40001FB (testState [])).map (fun t => (t.pc, t.reg 56)) = some (0x13E8, 0x1005) ∧
    (testRun 0xFFF880003D (testState [(55, 2)])).map (fun t => (t.pc, t.reg 55)) = some (0x0FF1, 1) ∧
    (testRun 0xFFF880003D (testState [])).map (fun t => (t.pc, t.reg 55)) = some (0x1005, -1) := by decide +kernel

/-- L1 to L12: loads of the bytes F0 DE BC 9A 78 56 34 92 at 0x1008. -/
theorem test_run_loads : ∀ e ∈ ([
    (0x4002031070, 0, 0xFFFFFFFFFFFFFFFF923456789ABCDEF0, 0), (0x4002031071, 0, 0x923456789ABCDEF0, 0),
    (0x4002031010, 0, -16, 0), (0x4002031011, 0, 0xF0, 0), (0x4002031230, 0, -17186, 0),
    (0x4002031050, 0, -0x65432110, 0), (0x05020324F0, 8, -0x65432110, 8), (0x05820366F0, 1, 0xFFFFFFFFFFFFFFFF923456789ABCDEF0, 2),
    (0x058203A6F0, 2, 0xFFFFFFFFFFFFFFFF923456789ABCDEF0, 1)] : List (Nat × Word × Word × Word)),
    (testRun e.1 (testMem (testState [(4, 0x1000), (5, e.2.1)]) [(0x1008, 0x923456789ABCDEF0)])).map
      (fun t => (t.reg 3, t.reg 5)) = some (e.2.2.1, e.2.2.2) := by decide +kernel

/-- ST1, ST5, ST7, ST8: the eight bytes at 0x1008 after a store. -/
theorem test_run_stores : ∀ e ∈ ([
    (0x0002031072, 0x1122334455667788, 0, 0x1122334455667788), (0x05820304F2, 0xAB, 2, 0xAB),
    (0x8002031072, 0x3FFF0000000000000000000000000000, 0, 0x3FF0000000000000),
    (0x8602841079, 6, 0, 0)] : List (Nat × Word × Word × Nat)),
    (testRun e.1 (testState [(3, e.2.1), (4, 0x1000), (5, e.2.2.1)])).map (·.data 0x1008 8) = some e.2.2.2 := by decide +kernel

/-- A1 to A13: memory at 0x6000 and r3 after an atomic operation; r4 = 0x6000. -/
theorem test_run_atomics : ∀ e ∈ ([
    (0x200284067A, 10, 5, 15), (0x400284067A, 0xFF, 0x0F, 0x0F), (0x480284067A, 0xF0, 0x0F, 0xFF),
    (0x500284067A, 0xFF, 0x0F, 0xF0), (0xB00084067A, 3, 0, 6), (0xB80084067A, 6, 0, 3),
    (0x100284067A, 5, -1, 0xFFFFFFFFFFFFFFFF), (0x600284067A, 5, -1, 5), (0x0602840679, 7, 7, 9), (0x0602840679, 7, 8, 7)]
      : List (Nat × Nat × Word × Nat)),
    (testRun e.1 (testMem (testState [(4, 0x6000), (5, e.2.2.1), (6, 9)]) [(0x6000, e.2.1)])).map
      (fun t => (t.data 0x6000 8, t.reg 3)) = some (e.2.2.2, BitVec.ofNat 128 e.2.1) := by decide +kernel

/-- V2, V3, V5: vector sums and a slide of eight elements. -/
theorem test_run_vectors : ∀ e ∈ ([(0x1101820262, [11, 12, 18]), (0x1042820262, [101, 102, 108]), (0x804282026E, [0, 0, 0])]
      : List (Nat × List (BitVec 64))),
    (testRun e.1 { testState [(5, 100), (32, -1)] with
        vl := 8
        vreg := ((Vector.replicate 32 (0 : BitVec 512)).set 2
          0x00000000000000080000000000000007000000000000000600000000000000050000000000000004000000000000000300000000000000020000000000000001
          |>.set 3 0x0000000000000000A000000000000000A000000000000000A000000000000000A000000000000000A000000000000000A000000000000000A000000000000000A) }).map
      (fun t => [t.elem 64 1 0, t.elem 64 1 1, t.elem 64 1 7]) = some e.2 := by decide +kernel

/-- J15, J16, EX5: traps, the handler's address at 0x40320, 0x10100 and 0x10020. -/
theorem test_run_exceptions :
    let s := { testMem (testState []) [(0x40320, 0x50000), (0x10100, 0x24000), (0x10020, 0x23000)] with
      pc := 0x3000, sr := 1, av := 0x40000, vb := #v[0, 0, 0, 0x10000] }
    (testRun 0x249A320200 s).map (fun t => (t.reg 1, t.sr, t.cause[0], t.pc)) = some (0x1234, 1, 100, 0x50000) ∧
    (testRun 0x249A320200 s).map (·.stack[0]) = some ⟨1, 0x3005, true, false⟩ ∧
    (testRun 0 s).map (fun t => (t.sr, t.cause[3], t.pc, t.repHold)) = some (0x0C01, 32, 0x24000, true) ∧
    (testRun 0 s).map (·.stack[0]) = some ⟨1, 0x3005, false, false⟩ ∧
    (testRun 0xC000000002 s).map (fun t => (t.sr, t.cause[3], t.pc)) = some (0x0C01, 4, 0x23000) := by decide +kernel

/-- J10, J12: RTE in machine mode, and in user mode from an application's slot. -/
theorem test_run_rte :
    let s := { testState [] with stack := (Vector.replicate 8 ⟨0, 0, false, false⟩).set 0 ⟨1, 0x3005, false, false⟩ }
    (testRun 0x0082000084 s).map (fun t => (t.sr, t.pc)) = some (1, 0x3005) ∧
    (testRun 0x0082000084 { s with
      sr := 1, stack := (Vector.replicate 8 ⟨0, 0, false, false⟩).set 0 ⟨9, 0x3005, true, false⟩ }).map
      (fun t => (t.sr, t.pc)) = some (1, 0x3005) := by decide +kernel

/-- M5, M6, M7, X1, X2: control registers. -/
theorem test_run_csr :
    (testRun 0x0020840623 { testState [(4, 2)] with scratch := #v[1, 0, 0, 0] }).map (fun t => (t.reg 3, t.scratch[0]))
      = some (1, 2) ∧
    (testRun 0xB002080643 { testState [] with sr := 0xC00 }).map (fun t => (t.reg 3, t.sr)) = some (0xC00, 0xC08) ∧
    (testRun 0xB002080663 { testState [] with sr := 0xC08 }).map (fun t => (t.reg 3, t.sr)) = some (0xC08, 0xC00) ∧
    (testRun 0x0028000603 { testState [] with vl := 8 }).map (·.reg 3) = some 8 ∧
    (testRun 0x0028040623 { testState [(4, 16)] with vl := 8 }).map (fun t => (t.reg 3, t.vl)) = some (8, 16) := by
  decide +kernel

/-- B1, B3, B5: one iteration of a block instruction. -/
theorem test_run_blocks :
    (testRun 0x1082840A7A (testMem (testState [(4, 0x2000), (5, 0x3000), (55, 4)]) [(0x2000, 77)])).map
      (fun t => (t.data 0x3000 8, t.reg 4, t.reg 5, t.reg 55)) = some (77, 0x2008, 0x3008, 3) ∧
    (testRun 0x188284021A (testState [(5, 0x3000), (55, 200)])).map (fun t => (t.reg 5, t.reg 55)) = some (0x3001, 199) ∧
    (testRun 0x088284021A (testMem (testState [(5, 0x3000), (55, 100)]) [(0x3000, 0x636261)])).map
      (fun t => (t.reg 5, t.reg 55)) = some (0x3001, 99) := by decide +kernel

/-- P5: the carry out of the first ADD of the chain; and SUB r3,r4,r0 by R715, 7 + ~0 + 1 with no borrow. -/
theorem test_run_carry :
    (testRun 0x1002840662 { testState [(4, 0xFFFFFFFFFFFFFFFF), (5, 1)] with
      win := { Windows.none with carry := some ⟨6, 0⟩ } }).map (fun t => (t.reg 3, t.win.cy)) = some (0, 1) ∧
    (testRun 0x1020040662 { testState [(4, 7)] with
      win := { Windows.none with carry := some ⟨6, 0⟩ } }).map (fun t => (t.reg 3, t.win.cy)) = some (7, 1) := by decide +kernel

/-- SEQ and SNE with bit 31 set match no row (40_integer R348, R349; 30_encoding R250). -/
theorem test_decode_equality_does_not_swap :
    decodeTableWord 40 0x6882C40662 = none ∧ decodeTableWord 40 0x6882C48662 = none := by decide

/-- A step fetches what `withFetchWord` placed, and runs it: NOP after reset. -/
theorem test_step_runs_fetched_word :
    (match step (State.reset.withFetchWord 40 0xFFFFFFFFFF) with
      | .next t => some t.pc
      | _ => none) = some 5 := by decide +kernel


/-- ORF ignores its size field (42_float R431), and the conditions 14 and 15 are reserved in every DBcc (46_flow_control
R552). -/
theorem test_decode_orf_and_dbcc :
    (∀ z, z < 8 → decodeTableWord 40 (0xA6CB440609 + 32 * z) =
      some (.orf ⟨3, false, 4, true, 0x5396, false, false, .h⟩ Ext.empty)) ∧
    ∀ cm, cm < 4 → decodeTableWord 40 (29 + 32 * 14 + 2 ^ 21 * cm) = none ∧ decodeTableWord 40 (29 + 32 * 15 + 2 ^ 21 * cm) = none := by
  decide +kernel
/-! For every statement with hypotheses: a concrete state and operands that meet them. -/

/-- After reset every scalar and vector form without a mask byte executes. -/
theorem test_reset_enabled (vec : Bool) : State.reset.enabled Ext.empty vec := ⟨rfl, .inr rfl⟩

/-- A scalar form whose mask register holds 1 executes. -/
theorem test_mask_enabled : (testState [(7, 1)]).enabled ⟨some ⟨false, 7⟩, Tail.empty⟩ false := ⟨rfl, .inr rfl⟩

/-- The low memory is memory after reset, and every vector's handler is address 0. -/
theorem test_reset_ram : State.reset.ram 0 64 ∧ State.reset.ram 0xFFF8 8 := by unfold State.ram State.flat; decide +kernel

theorem witness_RegisterFileReadsAndWrites :
    (1 : Reg) ≠ 0 ∧ (1 : Reg) ≠ 53 ∧ (1 : Reg) ≠ 63 ∧ (63 : Reg) ≠ 0 ∧ (63 : Reg) ≠ 53 ∧ (2 : Reg) ≠ 1 := by decide

theorem witness_StackPointersAreBanked : (63 : Nat) < 64 := by decide

theorem witness_OperandsAndPostfixConstants :
    Ext.empty.tail.const = none ∧ (testConst 5).tail.const = some 5 ∧ (testConst 0x80000000).tail.const = some (-0x80000000) ∧
    (⟨none, some 1, none, none⟩ : Tail).const = some 0x100000000 ∧
    (⟨some 2, some 1, none, none⟩ : Tail).const = some 0x100000002 ∧
    (⟨none, none, some (1, 2), none⟩ : Tail).const = some 0x2000000010000000000000000 := by decide +kernel

theorem witness_SumsAndProducts : State.reset.win.carry = none ∧ (∀ vec, State.reset.enabled Ext.empty vec) ∧
    (testConst 5).tail.const.isSome ∧ { testR2 with vec := .vv }.vec ≠ .scalar ∧ { testRI with vec := true }.vec = true :=
  ⟨rfl, test_reset_enabled, rfl, by decide, rfl⟩

/-- A divisor of 2; a divisor of 0, with and without DIV0_TRAPS. -/
theorem witness_QuotientsAndRemainders :
    let t := { State.reset with params := { Params.default with div0Traps := true } }
    State.reset.win.carry = none ∧ t.win.carry = none ∧ (∀ vec, State.reset.enabled Ext.empty vec) ∧
    t.enabled Ext.empty false ∧ testR2.b .neg (testConst 2).tail State.reset 0 ≠ 0 ∧
    testR2.b .neg Tail.empty t 0 = 0 ∧ t.params.div0Traps = true ∧ t.handler 64 0 ∧
    testR2.b .neg Tail.empty State.reset 0 = 0 ∧ State.reset.params.div0Traps = false := by
  refine ⟨rfl, rfl, test_reset_enabled, ⟨rfl, .inr rfl⟩, by decide +kernel, by decide +kernel, rfl, ?_, by decide +kernel, rfl⟩
  unfold State.handler State.ram State.flat; decide +kernel

theorem witness_BitwiseLogic : ∀ vec, State.reset.enabled Ext.empty vec := test_reset_enabled

theorem witness_SetInstructions : (∀ vec, State.reset.enabled Ext.empty vec) ∧
    (testState [(7, 1)]).enabled ⟨some ⟨false, 7⟩, Tail.empty⟩ false := ⟨test_reset_enabled, test_mask_enabled⟩

theorem witness_CompareInstructionsAndTheirBits : (∀ vec, State.reset.enabled Ext.empty vec) ∧ (15 : Nat) ≥ 14 :=
  ⟨test_reset_enabled, by decide⟩

/-- The first and the last position of a CARRY window, both mask bits set; divisors of 2. -/
theorem witness_CarryInAndCarryOut : ∀ wd ∈ [(⟨3, 0⟩ : Window), ⟨0xC000, 7⟩],
    let s := { testState [(5, 2)] with win := { Windows.none with carry := some wd } }
    s.win.carry = some wd ∧ testR2.vec = .scalar ∧ testRI.vec = false ∧ (s.predOk = true ∧ s.maskOk Ext.empty.mask = true) ∧
    testR2.b .neg Ext.empty.tail s 0 ≠ 0 ∧ Ext.empty.tail.const = none ∧ (testConst 2).tail.const.isSome = true ∧
    testRI.b Ext.empty.tail ≠ 0 ∧ testR2.rb ≠ 0 ∧ { testR2 with rb := 0 }.rb = 0 ∧
    { testR2 with rb := 0 }.b .neg Ext.empty.tail s 0 = 0 ∧ s.params.div0Traps = false ∧
    { s with params := { Params.default with div0Traps := true } }.params.div0Traps = true := by decide +kernel

theorem witness_CountsReversalAndRoot : ∀ vec, State.reset.enabled Ext.empty vec := test_reset_enabled

/-- A map that names byte 15 by its highest field only, and byte 14 by none; a character at the last place, and none. -/
theorem witness_CarrylessProductsMapsAndSearch : (∀ vec, State.reset.enabled Ext.empty vec) ∧
    (let b : Word := 0xF000000000000000
     (b.extractLsb' (4 * 15) 4).toNat = 15 ∧ (∀ l, l < 16 → (b.extractLsb' (4 * l) 4).toNat ≠ 14) ∧
     (∀ i, i < 15 → (b <<< 64).extractLsb' (8 * i) 8 ≠ 0xF0#8) ∧ (b <<< 64).extractLsb' (8 * 15) 8 = 0xF0#8 ∧
     ∀ i, i < 16 → (b <<< 64).extractLsb' (8 * i) 8 ≠ 1#8) := ⟨test_reset_enabled, by decide +kernel⟩

theorem witness_ShiftsAndRotates : ∀ vec, State.reset.enabled Ext.empty vec := test_reset_enabled

theorem witness_BitFieldsBitByBit : (∀ vec, State.reset.enabled Ext.empty vec) ∧ (127 : Nat) < 128 :=
  ⟨test_reset_enabled, by decide⟩

theorem witness_SlidesAndBitGather : State.reset.predOk = true ∧ (127 : Nat) < 128 := ⟨rfl, by decide⟩

/-- A scalar check that holds and one that fails; a vector check whose last element of eight fails. -/
theorem witness_BoundsChecksPassOrTrap :
    let s := { testState [(4, 5), (32, -1)] with
      vl := 8, vreg := (Vector.replicate 32 (0 : BitVec 512)).set 4 (1#512 <<< 448) }
    (∀ vec, State.reset.enabled Ext.empty vec) ∧ s.enabled Ext.empty true ∧
    (s.reg 4).toInt < 10 ∧ ¬ (s.reg 4).toInt < 5 ∧ s.handler s.params.chkVector 0 ∧
    (7 < s.elems 64 ∧ (s.vecMask none).getLsbD 7 = true) ∧ ¬ (s.elem 64 4 7).toInt < 1 ∧
    (∀ j, j < 7 → (s.elem 64 4 j).toInt < 1) := by
  refine ⟨test_reset_enabled, ⟨rfl, .inl rfl⟩, by decide +kernel, by decide +kernel, ?_, by decide +kernel, by decide +kernel,
    by decide +kernel⟩
  unfold State.handler State.ram State.flat; decide +kernel

/-- A divisor that is zero at the first element, and one that is zero at the last of eight; the last of eight elements of a
load or a store with an unclaimed byte, at the end of what is claimed, within a page and at the first byte of the next. -/
theorem witness_VectorTrapIsRestartable : (∀ e ∈ [(0, (0 : BitVec 512)),
      (7, 0x1000000000000000100000000000000010000000000000001000000000000000100000000000000010000000000000001)],
    let o := { testR2 with vec := .vv }
    let s := { testState [(32, -1)] with
      params := { Params.default with div0Traps := true }, vl := 8
      vreg := (Vector.replicate 32 (0 : BitVec 512)).set 5 e.2 }
    o.vec ≠ .scalar ∧ s.predOk = true ∧ s.params.div0Traps = true ∧ s.handler 64 0 ∧
    (e.1 < s.elems o.size.bits ∧ (s.vecMask none).getLsbD e.1 = true) ∧ o.b .neg Tail.empty s e.1 = 0 ∧
    ∀ j, j < e.1 → o.b .neg Tail.empty s j ≠ 0) ∧
    (∀ e ∈ [((0xFB8 : Word), 0xFFF, 7), (0x3FBC, 0x4000, 4)],
     let s := { testState [(4, e.1), (32, -1)] with vl := 8, params := { Params.default with physMap := [(0, e.2.1)] } }
     let row := fun (k : Nat) => eaDisp testD Tail.empty s + .ofNat 64 (k * 8)
     s.predOk = true ∧ s.flat ∧ (7 < s.elems 64 ∧ (s.vecMask none).getLsbD 7 = true) ∧ e.2.2 < Size.o.bytes ∧
     (∀ j, j < 7 → s.ram (row j) 8) ∧ (∀ i, i < 8 → s.device (row 7 + .ofNat 64 i).toNat = none) ∧
     (∀ i, i < e.2.2 → s.claimed (row 7 + .ofNat 64 i).toNat = true) ∧
     s.claimed (row 7 + .ofNat 64 e.2.2).toNat = false ∧
     s.handler 2 0 ∧ (16384 - (row 7).toNat % 16384 ≤ e.2.2 ↔ e.1 = 0x3FBC) ∧ Memory.wf s.mem = true) := by
  unfold State.handler State.ram State.flat; decide +kernel

theorem witness_ShaFunctions : ∀ vec, State.reset.enabled Ext.empty vec := test_reset_enabled

/-- ROUND windows of every code at the first and the last position, and none. -/
theorem witness_FloatArithmetic : ((∀ vec, State.reset.enabled Ext.empty vec) ∧ Ext.empty.tail.hasConst = false) ∧
    State.reset.win.round = none ∧ ∀ c ∈ [0, 1, 2, 3, 4, 7], ∀ w ∈ [(⟨.ofNat _ c, 0⟩ : Window), ⟨.ofNat _ (c * 2 ^ 21), 7⟩],
      ({ State.reset with win := { Windows.none with round := some w } } : State).win.round = some w ∧
      w.mask.toNat / 2 ^ (3 * w.pos.toNat) % 8 = c :=
  ⟨⟨test_reset_enabled, rfl⟩, rfl, by decide +kernel⟩

/-- Significands 1 and 0: a sum that is not zero, and each case of a quotient. -/
theorem witness_FloatExactThenRounded :
    ((1 : ℚ) * (1 : Nat) * 2 ^ (0 : Int) + 1 * (0 : Nat) * 2 ^ (0 : Int) ≠ 0) ∧ (1 : Nat) ≠ 0 ∧ ((0 : Nat) = 0 ∧ (1 : Nat) ≠ 0) ∧
      ((0 : Nat) = 0 ∧ (0 : Nat) = 0) := by norm_num

/-- The largest pattern of each format. -/
theorem witness_FloatConversionIsExact : ∀ f ∈ [Fmt.half, .single, .double, .quad], 2 * f.signBit - 1 < 2 * f.signBit := by
  decide +kernel

theorem witness_FloatComparesSetsAndTheirBits : (∀ vec, State.reset.enabled Ext.empty vec) ∧
    Ext.empty.tail.hasConst = false ∧ quadVal (0x7FFF8#128 <<< 108) = .nan ∧ quadVal 0 ≠ .nan :=
  ⟨test_reset_enabled, by decide +kernel⟩

theorem witness_FloatSignFractionScaleAndOr : (∀ vec, State.reset.enabled Ext.empty vec) ∧ (127 : Nat) < 128 :=
  ⟨test_reset_enabled, by decide⟩

/-- M_SCRATCH in machine mode, and in user mode, where it may not be reached. -/
theorem witness_CsrReadWriteSetClearFlip :
    let u := { State.reset with sr := 1 }
    State.reset.enabled Ext.empty false ∧ (0x3041#14).extractLsb' 12 2 ≤ State.reset.mode ∧
    u.enabled Ext.empty false ∧ u.mode < (0x3041#14).extractLsb' 12 2 ∧ u.handler 8 0 := by
  refine ⟨test_reset_enabled _, by decide +kernel, ⟨rfl, .inr rfl⟩, by decide +kernel, ?_⟩
  unfold State.handler State.ram State.flat; decide +kernel

theorem witness_CsrNumbersAndFields :
    csrOf Params.default 0x0041 ≠ csrOf Params.default 0x3041 ∧ csrOf Params.default 0x3040 = .unimplemented ∧ (3 : Nat) < 4 ∧ (7 : Nat) < 8 ∧ (4 : Nat) < 5 ∧
    (∀ m ∈ [(0 : BitVec 2), 1, 2, 3], (if m = 0 then 1 else if m = 1 then 3 else if m = 2 then 7 else 0xFF0D3FFF : BitVec 32) =
      if m = 0 then 1 else if m = 1 then 3 else if m = 2 then 7 else 0xFF0D3FFF) := by decide +kernel

theorem witness_VectorLengthAndCpuid : State.reset.enabled Ext.empty false := test_reset_enabled _

/-- The four index modes; the indirect one reads address 0. -/
theorem witness_MemoryOperandAddresses :
    ({ testX with u2 := 0 }.u2 = 0 ∧ { testX with u2 := 1 }.u2 = 1 ∧ { testX with u2 := 2 }.u2 = 2 ∧
      { testX with u2 := 3 }.u2 = 3) ∧
    State.reset.ram ((State.reset.reg testX.rb).setWidth 64 + (State.reset.reg testX.rc).setWidth 64 * 1 + 0) 8 := by
  refine ⟨by decide, ?_⟩
  unfold State.ram State.flat; decide +kernel

/-- A load to a general register; to r53 with the canary equal, and with another; the four index modes. -/
theorem witness_LoadsToOneRegister :
    let s := { State.reset with sc := 1 }
    State.reset.enabled Ext.empty false ∧ s.enabled Ext.empty false ∧ Ext.empty.tail.regs = none ∧ testD.vd = false ∧
    State.reset.ram (eaDisp testD Tail.empty State.reset) 8 ∧ s.ram (eaDisp testD Tail.empty s) 8 ∧ testD.rt ≠ 53 ∧
    { testD with rt := 53 }.rt = 53 ∧ (BitVec.ofNat 128 (State.reset.data (eaDisp testD Tail.empty State.reset) 8)) = State.reset.sc ∧
    (BitVec.ofNat 128 (s.data (eaDisp testD Tail.empty s) 8)) ≠ s.sc ∧ s.handler 11 0 ∧ testX.vec = .scalar ∧
    eaIndexed testX 8 Tail.empty State.reset = .ok (0, none) State.reset ∧ State.reset.ram 0 8 := by
  refine ⟨test_reset_enabled _, ⟨rfl, .inr rfl⟩, rfl, rfl, ?_, ?_, by decide, rfl, by decide +kernel, by decide +kernel, ?_, rfl,
    rfl, ?_⟩ <;> (try unfold State.handler) <;> unfold State.ram State.flat <;> decide +kernel

/-- Displacement and the four index modes at address 8 and 0; the stack canary. -/
theorem witness_StoresOfOneRegister :
    State.reset.enabled Ext.empty false ∧ Memory.wf State.reset.mem = true ∧ Ext.empty.tail.regs = none ∧ testD.vd = false ∧
    State.reset.ram (eaDisp testD Tail.empty State.reset) 16 ∧ testX.vec = .scalar ∧
    (∀ u : BitVec 2, ∃ ea upd, eaIndexed { testX with u2 := u } 8 Tail.empty (testState [(5, 2)]) =
      .ok (ea, upd) (testState [(5, 2)]) ∧ (testState [(5, 2)]).ram ea 8) := by
  refine ⟨test_reset_enabled _, rfl, rfl, rfl, ?_, rfl, fun u => ?_⟩
  · unfold State.ram State.flat; decide +kernel
  · obtain rfl | rfl | rfl | rfl : u = 0 ∨ u = 1 ∨ u = 2 ∨ u = 3 := by revert u; decide
    · exact ⟨2, none, by decide +kernel, by unfold State.ram State.flat; decide +kernel⟩
    · exact ⟨2, some 10, by decide +kernel, by unfold State.ram State.flat; decide +kernel⟩
    · exact ⟨-6, some 0xFFFFFFFFFFFFFFFA, by decide +kernel, by unfold State.ram State.flat; decide +kernel⟩
    · exact ⟨0, none, by decide +kernel, by unfold State.ram State.flat; decide +kernel⟩

/-- A list with its first and its last bit set; r3 before it, and r53, with the canary equal and with another. -/
theorem witness_RegisterListTransfers :
    let x : Ext := ⟨none, ⟨none, none, none, some 0x8000000000000001⟩⟩
    let all := Tgt.reg 3 :: ((List.range 64).filter fun i => (0x8000000000000001#64).getLsbD i).map regsBit
    State.reset.enabled x false ∧ x.tail.regs = some 0x8000000000000001 ∧ all.length = 3 ∧
    State.reset.ram (eaDisp testD x.tail State.reset) (8 * 3) ∧ testD.rt ≠ 53 ∧
    (BitVec.ofNat 64 (State.reset.data (eaDisp testD x.tail State.reset) 8)).setWidth 128 = State.reset.sc ∧
    Memory.wf State.reset.mem = true ∧ testD.vd = false ∧ testX.vec = .scalar ∧
    eaIndexed testX 8 x.tail State.reset = .ok (0, none) State.reset ∧ State.reset.ram 0 (8 * 3) ∧
    (BitVec.ofNat 64 (State.reset.data (eaDisp testD x.tail State.reset) 8)).setWidth 128 ≠
      ({ State.reset with sc := 1 } : State).sc ∧ State.reset.handler 11 0 := by
  refine ⟨⟨rfl, .inr rfl⟩, rfl, by decide +kernel, ?_, by decide, by decide +kernel, rfl, rfl, rfl, rfl, ?_, by decide +kernel,
    ?_⟩ <;> (try unfold State.handler) <;> unfold State.ram State.flat <;> decide +kernel

theorem witness_FloatLoadsAndStores :
    let x : Ext := ⟨none, ⟨none, none, none, some 0x8000000000000001⟩⟩
    State.reset.enabled x false ∧ (regsList x.tail).length = 2 ∧ Memory.wf State.reset.mem = true ∧ testD.vd = false ∧
    State.reset.ram (eaDisp testD Tail.empty State.reset) (16 * (1 + 2)) ∧ testD.rt ≠ 53 ∧ State.reset.handler 11 0 ∧
    testX.vec = .scalar ∧ eaIndexed testX 8 Tail.empty State.reset = .ok (0, none) State.reset := by
  refine ⟨⟨rfl, .inr rfl⟩, by decide +kernel, rfl, rfl, ?_, by decide, ?_, rfl, rfl⟩
  · unfold State.ram State.flat; decide +kernel
  · unfold State.handler State.ram State.flat; decide +kernel

/-- Four elements of 128 bits, rows at 8, 24, 40 and 56, all enabled; a gather with equal places; VL at and over the limit. -/
theorem witness_VectorLoadsAndStores :
    let s := { testState [(32, -1)] with vl := 4 }
    s.predOk = true ∧ (3 < s.elems 128 ∧ (s.vecMask none).getLsbD 3 = true) ∧ s.elems 128 = 4 ∧
    (∀ k, k < 4 → s.ram (eaDisp testD Tail.empty s + .ofNat 64 (k * 16)) 16) ∧ s.ram 0 16 ∧ Memory.wf s.mem = true ∧
    { testD with vd := true }.vd = true ∧ { testX with vec := .gather }.vec ≠ .scalar ∧
    (let t := { s with vl := 64 }; t.vl.toNat * 8 ≤ 512 ∧ 512 < t.vl.toNat * 16) := by
  refine ⟨rfl, by decide +kernel, by decide +kernel, ?_, ?_, rfl, rfl, by decide, by decide⟩ <;> unfold State.ram State.flat <;> decide +kernel

/-- Aligned at 16, misaligned at 1; CMPXCHG that stores, and that does not. -/
theorem witness_AtomicOperations :
    let s := testState [(4, 16)]
    let m := testState [(4, 1)]
    s.enabled Ext.empty false ∧ ((s.reg 4).setWidth 64).toNat % 16 = 0 ∧ s.ram ((s.reg 4).setWidth 64) 16 ∧
    Memory.wf s.mem = true ∧ m.enabled Ext.empty false ∧ ((m.reg 4).setWidth 64).toNat % 4 ≠ 0 ∧ m.handler 3 0 ∧
    BitVec.ofNat 64 (s.data 16 8) = (s.reg 5).setWidth 64 ∧ BitVec.ofNat 64 (s.data 16 8) ≠ (s.reg 4).setWidth 64 := by
  refine ⟨⟨rfl, .inr rfl⟩, by decide +kernel, ?_, rfl, ⟨rfl, .inr rfl⟩, by decide +kernel, ?_, by decide +kernel,
    by decide +kernel⟩
  · unfold State.ram State.flat; decide +kernel
  · unfold State.handler State.ram State.flat; decide +kernel

/-- A loop counter of 0 and of 1; equal and unequal elements. -/
theorem witness_BlockIterations :
    let s := testState [(4, 0x2000), (5, 0x3000), (55, 1)]
    let u := testMem s [(0x2000, 1)]
    State.reset.enabled Ext.empty false ∧ State.reset.reg 55 = 0 ∧ s.enabled Ext.empty false ∧ s.reg 55 ≠ 0 ∧
    u.enabled Ext.empty false ∧ u.reg 55 ≠ 0 ∧ s.ram 0x2000 8 ∧ s.ram 0x3000 8 ∧ u.ram 0x2000 8 ∧ u.ram 0x3000 8 ∧
    s.data 0x2000 8 = s.data 0x3000 8 ∧ u.data 0x2000 8 ≠ u.data 0x3000 8 ∧
    BitVec.ofNat 64 (s.data 0x3000 8) ≠ (s.reg 4).setWidth 64 ∧
    BitVec.ofNat 64 (State.reset.data 0 8) = (State.reset.reg 4).setWidth 64 ∧ Memory.wf s.mem = true := by
  refine ⟨test_reset_enabled _, rfl, ⟨rfl, .inr rfl⟩, by decide +kernel, ⟨rfl, .inr rfl⟩, by decide +kernel, ?_, ?_, ?_, ?_,
    by decide +kernel, by decide +kernel, by decide +kernel, by decide +kernel, rfl⟩ <;> unfold State.ram State.flat <;> decide +kernel

theorem witness_AddressesPairsAndGroups :
    State.reset.enabled Ext.empty false ∧ Memory.wf State.reset.mem = true ∧
    eaIndexed testX 1 Tail.empty State.reset = .ok (0, none) State.reset ∧
    eaIndexed testX 64 Tail.empty State.reset = .ok (0, none) State.reset ∧ State.reset.ram 0 64 ∧
    State.reset.ram (eaDisp testD Tail.empty State.reset) 64 ∧ (7 : Nat) < 8 := by
  refine ⟨test_reset_enabled _, rfl, rfl, rfl, ?_, ?_, by decide⟩ <;> unfold State.ram State.flat <;> decide +kernel

/-- Commands 0 to 7. -/
theorem witness_CacheCommands : State.reset.enabled Ext.empty false ∧
    ∀ c : BitVec 3, ((c.setWidth 6 : BitVec 6).extractLsb' 0 3 = 0 ∨ (c.setWidth 6 : BitVec 6).extractLsb' 0 3 = 1) ∨
      (c.setWidth 6 : BitVec 6).extractLsb' 0 3 = 4 ∨ (c.setWidth 6 : BitVec 6).extractLsb' 0 3 = 5 ∨
      (c.setWidth 6 : BitVec 6).extractLsb' 0 3 = 2 ∨ (c.setWidth 6 : BitVec 6).extractLsb' 0 3 = 3 ∨
      (c.setWidth 6 : BitVec 6).extractLsb' 0 3 = 6 ∨ (c.setWidth 6 : BitVec 6).extractLsb' 0 3 = 7 :=
  ⟨test_reset_enabled _, by decide⟩

/-- An access of two bytes at 0xFFF, the second of which nothing claims, the vector table being claimed; registers of the
units, at the first and the last place of their windows. -/
theorem witness_UnitRegistersAndUnclaimedAddresses :
    let s := { testState [(4, 0xFF7)] with params := { Params.default with physMap := [(0, 0x1000)] } }
    let ea := eaDisp testD Tail.empty s
    s.enabled Ext.empty false ∧ Ext.empty.tail.regs = none ∧ testD.vd = false ∧ s.flat ∧ 1 < Size.w.bytes ∧
    (∀ i, i < 2 → s.device (ea + .ofNat 64 i).toNat = none) ∧ (∀ i, i < 1 → s.claimed (ea + .ofNat 64 i).toNat = true) ∧
    s.claimed (ea + .ofNat 64 1).toNat = false ∧ ea.toNat % 16384 + 2 ≤ 16384 ∧ s.handler 2 0 ∧
    (∀ e ∈ [(0xFFFFFFFFFEE20000, Device.pic, 0, 4), (0xFFFFFFFFFEE200FC, .pic, 0xFC, 4), (0xFFFFFFFFFEE40000, .pit1, 0, 8),
        (0xFFFFFFFFFEE50018, .pit2, 0x18, 1), (0xFFFFFFFFFFE00070, .tlb, 0x70, 8), (0xFFFFFFFFFFE00028, .tlb, 0x28, 8),
        (0xFFFFFFFFFFE00030, .tlb, 0x30, 8), (0xFFFFFFFFFFE00078, .tlb, 0x78, 8), (0xFFFFFFFFFFE00078, .tlb, 0x78, 1),
        (0xFFFFFFFFFFE0007D, .tlb, 0x7D, 1), (0xFFFFFFFFFFE0007E, .tlb, 0x7E, 1), (0xFFFFFFFFFFE0007F, .tlb, 0x7F, 1),
        (0xFFFFFFFFFF9F01F8, .region, 0x1F8, 8), (0xFFFFFFFFFF9F0002, .region, 2, 2)],
      let t := testState [(4, .ofNat 128 (e.1 - 8))]
      let a := (eaDisp testD Tail.empty t).toNat
      a = e.1 ∧ a % 16384 + e.2.2.2 ≤ 16384 ∧ ∀ i, i < e.2.2.2 → t.device (a + i) = some (e.2.1, e.2.2.1 + i)) ∧
    (let t := { s with ptbr := 0x40, tlb := { s.tlb with ctrl := .ofNat 64 (2 ^ s.params.tlbAlLo) } }
     t.tlb.ctrl.extractLsb' t.params.tlbAlLo 2 ≠ 0 ∧ t.ptbr.extractLsb' 6 2 ≠ 0 ∧ s.ptbr.extractLsb' 6 2 = 0 ∧
     s.tlb.ctrl.extractLsb' s.params.tlbAlLo 2 = 0 ∧ (t.tlb.ctrl.extractLsb' 0 4).toNat < 6) := by
  refine ⟨⟨rfl, .inr rfl⟩, rfl, rfl, ⟨rfl, by decide, by decide⟩, by decide, by decide +kernel, by decide +kernel,
    by decide +kernel, by decide +kernel, ?_, by decide +kernel, by decide +kernel⟩
  unfold State.handler State.ram State.flat; decide +kernel

/-- r4 = r5 and r4 ≠ r5: a branch that is taken, and one that is not. -/
theorem witness_IntegerBranches : State.reset.predOk = true ∧ (State.reset.reg 4 = Tail.empty.const.getD (State.reset.reg 5)) ∧
    ¬ (State.reset.reg 4 ≠ Tail.empty.const.getD (State.reset.reg 5)) := ⟨rfl, by decide +kernel, by decide +kernel⟩

theorem witness_FloatBranches : State.reset.predOk = true ∧ Tail.empty.hasConst = false := ⟨rfl, rfl⟩

/-- A false condition with the counter not zero, and with the counter zero. -/
theorem witness_BranchesLinksAndLoops : State.reset.predOk = true ∧ Tail.empty.hasConst = false ∧
    (Machine.cond 1 (State.reset.reg 4) (State.reset.reg 5) = false ∧ (testState [(55, 2)]).reg 55 ≠ 0) ∧ State.reset.reg 55 = 0 :=
  ⟨rfl, rfl, by decide +kernel, rfl⟩

/-- Jumps through memory; a table offset at the limit, and beyond it. -/
theorem witness_JumpsCallsTablesAndReturns :
    let s := testState [(4, 4)]
    let o : TabJ := ⟨0, true, 4, 16, .t⟩
    let p : TabJ := ⟨0, true, 4, 15, .t⟩
    s.predOk = true ∧ s.ram ((s.reg 4 + Tail.empty.const.getD ((0#15).signExtend 128)).setWidth 64) 8 ∧
    p.limit.toNat < (s.reg p.ra).toNat * p.size.bytes ∧ s.handler 66 0 ∧
    (s.reg o.ra).toNat * o.size.bytes ≤ o.limit.toNat ∧
    s.ram (s.pc + .ofNat 64 (5 + Tail.empty.len) + .ofNat 64 ((s.reg o.ra).toNat * o.size.bytes)) o.size.bytes := by
  refine ⟨rfl, ?_, by decide +kernel, ?_, by decide +kernel, ?_⟩ <;> (try unfold State.handler) <;> unfold State.ram State.flat <;>
    decide +kernel

/-- Machine mode; user mode with the slot an application's; user mode refused, at either depth. -/
theorem witness_ReturnsFromExceptions :
    let u : State := { State.reset with sr := 1 }
    let v : State := { u with stack := (Vector.replicate 8 ⟨0, 0, false, false⟩).set 0 ⟨1, 0x3005, true, false⟩ }
    State.reset.predOk = true ∧ ¬ State.reset.mode ≠ 3 ∧ u.predOk = true ∧ (u.mode ≠ 3 ∧ u.stack[0].app = false) ∧ u.handler 8 0 ∧
    v.predOk = true ∧ ¬ v.stack[0].app = false ∧ (v.mode ≠ 3 ∧ v.stack[1].app = false) ∧ v.handler 8 0 := by
  refine ⟨rfl, by decide +kernel, rfl, by decide +kernel, ?_, rfl, by decide +kernel, by decide +kernel, ?_⟩ <;>
    unfold State.handler State.ram State.flat <;> decide +kernel

theorem witness_TrapAndBreakpoint : State.reset.predOk = true ∧ State.reset.handler 32 0 ∧ State.reset.handler 511 0 := by
  refine ⟨rfl, ?_, ?_⟩ <;> unfold State.handler State.ram State.flat <;> decide +kernel

theorem witness_ModifiersOpenTheirWindows : State.reset.predOk = true ∧ State.reset.repHold = false ∧
    ({ State.reset with repHold := true } : State).repHold = true := ⟨rfl, rfl, rfl⟩

/-- CRYPTO_FN absent, and supplying one operation only; HAS_DECIMAL false and true. -/
theorem witness_InstructionsWithoutAnOperation :
    let s := { State.reset with params := { Params.default with crypto := [.aes64ds], hasDecimal := true } }
    State.reset.handler 4 0 ∧ State.reset.params.hasDecimal = false ∧ s.params.hasDecimal = true ∧
    CryptoOp.aes64ds ∉ State.reset.params.crypto ∧ .aes64ds ∈ s.params.crypto ∧ .sha512sum0 ∉ s.params.crypto ∧
    (VBits.scalar != .scalar) = false ∧ s.enabled Ext.empty false ∧ s.handler 4 0 := by
  refine ⟨?_, rfl, rfl, by decide, by decide, by decide, rfl, ⟨rfl, .inr rfl⟩, ?_⟩ <;> unfold State.handler State.ram State.flat <;> decide +kernel

/-- A PRED window at its first position with a false predicate; a mask register that holds 0, after ADD and after CMPXCHG. -/
theorem witness_FalsePredicateOnlyAdvances :
    ({ State.reset with win := { Windows.none with pred := some ⟨1, 0⟩ } } : State).predOk = false ∧
    State.reset.maskedOff (.add testR2 ⟨some ⟨false, 7⟩, Tail.empty⟩) ∧
    State.reset.maskedOff (.cmpxchg ⟨1, false, 2, false, 3, false, 4, false, .o⟩ ⟨some ⟨false, 7⟩, Tail.empty⟩) :=
  ⟨by decide +kernel, ⟨_, _, rfl, rfl, by decide +kernel⟩, ⟨_, _, rfl, rfl, by decide +kernel⟩⟩

/-- PRED windows of every letter at the first and the last position, and none; a mask register that holds 1. -/
theorem witness_FalsePredicateOnlyAdvances_letters :
    State.reset.win.pred = none ∧ (∀ l, l < 4 → ∀ w ∈ [(⟨.ofNat _ l, 0⟩ : Window), ⟨.ofNat _ (l * 2 ^ 14), 7⟩],
      ({ State.reset with win := { Windows.none with pred := some w } } : State).win.pred = some w ∧
      w.mask.toNat / 4 ^ w.pos.toNat % 4 = l) ∧ (testState [(7, 1)]).reg 7 = 1 := by decide +kernel

/-- A system and an application vector, the last below 64 and the first above; a vector table that nothing claims. -/
theorem witness_ExceptionEntryAndVectorTable :
    let s := { State.reset with params := { Params.default with physMap := [] } }
    State.reset.handler 63 0 ∧ State.reset.handler 64 0 ∧ (63#9).toNat < 64 ∧ 64 ≤ (64#9).toNat ∧ s.flat ∧
    (∀ i, i < 8 → s.device ((vectorEntry 63 s).1 + .ofNat 64 i).toNat = none) ∧
    (0 < 8 ∧ s.claimed ((vectorEntry 63 s).1 + .ofNat 64 0).toNat = false) := by
  refine ⟨?_, ?_, by decide, by decide, ?_, by decide +kernel, by decide +kernel⟩ <;> (try unfold State.handler State.ram) <;>
    unfold State.flat <;> decide +kernel

/-- An interrupt of level 7 that is due, with no window open; a trace exception that is due; an open window. -/
theorem witness_InterruptsAndTraceBetweenInstructions :
    let s := { State.reset with
      sr := 0xC08, pic := { Pic.reset with ctrl := Pic.reset.ctrl.set 0 0x01010700, lines := 1 } }
    let closed := fun (s : State) => s.win.pred = none ∧ s.win.carry = none ∧ s.win.atom = none ∧ s.win.round = none
    (s.ipl.toNat < s.irq.1.toNat ∧ s.sr.getLsbD s.mode.toNat = true ∧ closed s) ∧ s.handler (24 + s.irq.1.setWidth 9) 0 ∧
    (let t := { State.reset with traceDue := true }
     ¬ t.ipl.toNat < t.irq.1.toNat ∧ t.traceDue = true ∧ closed t ∧ t.handler 9 0) ∧
    ¬ closed { State.reset with win := { Windows.none with pred := some ⟨1, 0⟩ } } := by
  unfold State.handler State.ram State.flat; decide +kernel

/-- NOP placed at the program counter after reset. -/
theorem witness_StepRunsTheDecodedInstruction :
    let s := State.reset.withFetchWord 40 0xFFFFFFFFFF
    let u := s.takeInputs
    s.flat ∧ s.resetAsked = false ∧ u.halted = false ∧ u.interruptDue = false ∧ u.traceDue = false ∧
    u.ram u.pc (Instr.nop Tail.empty).len ∧
    decode u.peek = .done 0xFFFFFFFFFF (Instr.nop Tail.empty).len (.ok (.nop Tail.empty)) := by
  refine ⟨⟨rfl, by decide, by decide⟩, rfl, rfl, by decide +kernel, rfl, ?_, by rfl⟩
  unfold State.ram State.flat; decide +kernel

/-- A reserved encoding (major opcode 1); two postfix words of one type after ADD, with a third one to come, and with none;
decimal ADD, under HAS_DECIMAL. -/
theorem witness_MalformedAndReservedEncodingsTrap :
    let ready := fun (s : State) => s.flat ∧ s.resetAsked = false ∧ s.takeInputs.halted = false ∧
      s.takeInputs.interruptDue = false ∧ s.takeInputs.traceDue = false
    (let s := State.reset.withFetchWord 40 0x61
     let u := s.takeInputs
     ready s ∧ decode u.peek = .done 0x61 5 (.error .reserved) ∧ u.ram u.pc 5 ∧ u.handler 4 (.ofNat 64 (u.data 32 8))) ∧
    (let s := State.reset.withFetchWord 120 0x000000021F000000011F0000040664
     let u := s.takeInputs
     ready s ∧ decode u.peek = .done 0x40664 15 (.error .malformed) ∧ u.ram u.pc 15 ∧
     (u.head (u.pc + 15)).map BitVec.toNat = some 0 ∧ u.handler 34 (.ofNat 64 (u.data 272 8))) ∧
    (let s := State.reset.withFetchWord 160 0x000000031F000000021F000000011F0000040664
     let u := s.takeInputs
     ready s ∧ decode u.peek = .done 0x40664 15 (.error .malformed) ∧ u.ram u.pc 15 ∧
     (u.head (u.pc + 15)).map BitVec.toNat = some 31 ∧ u.ram (u.pc + 15) 5 ∧
     (u.head (u.pc + 20)).map BitVec.toNat = some 0) ∧
    (let s := State.withFetchWord { State.reset with params := { Params.default with hasDecimal := true } } 40 0x406C4
     let u := s.takeInputs
     ready s ∧ decode u.peek = .done 0x406C4 5 (.error (.decimal none)) ∧ u.ram u.pc 5 ∧ s.params.hasDecimal = true) := by
  refine ⟨⟨⟨⟨rfl, ?_, ?_⟩, rfl, rfl, ?_, rfl⟩, by rfl, ?_, ?_⟩, ⟨⟨⟨rfl, ?_, ?_⟩, rfl, rfl, ?_, rfl⟩, by rfl, ?_, ?_, ?_⟩,
    ⟨⟨⟨rfl, ?_, ?_⟩, rfl, rfl, ?_, rfl⟩, by rfl, ?_, ?_, ?_, ?_⟩, ⟨⟨rfl, ?_, ?_⟩, rfl, rfl, ?_, rfl⟩, by rfl, ?_, rfl⟩ <;>
    (try unfold State.handler) <;> (try unfold State.ram State.flat) <;> decide +kernel

/-- A run of instructions that complete, with all four windows at their first position. -/
def testWindows : Nat → State
  | 0 => { State.reset with win := ⟨some ⟨1, 0⟩, some ⟨1, 0⟩, some ⟨1, 0⟩, some ⟨1, 0⟩, false, 0, false⟩ }
  | n + 1 => settle (testWindows n) { testWindows n with retire := .seq }

/-- Each way an instruction can end; a repeat at the last instruction of its body and before it, left by a jump; a test that
holds, and one that fails; windows at their first position, left alone by eight instructions. -/
theorem witness_WindowsAndRepeatsAfterAnInstruction :
    (let r : RepBuf := ⟨0x1000, true, 0, 0, 1⟩
     let s := { testState [(55, 5)] with repbuf := r, retire := .seq }
     let b := { s with repbuf := { r with ins := 8 } }
     let f := { testState [(55, 1)] with repbuf := r, retire := .seq }
     (s.repbuf.v = true ∧ s.repHold = false ∧ s.retire = .seq ∧ (s.repbuf.ins.extractLsb' 3 3).toNat ≤ s.repbuf.icnt.toNat ∧
       s.reg 55 + -1 ≠ (s.repbuf.limit.signExtend 128 : Word)) ∧
     (b.repbuf.v = true ∧ b.retire = .seq ∧ b.repbuf.icnt.toNat < (b.repbuf.ins.extractLsb' 3 3).toNat) ∧
     f.reg 55 + -1 = (f.repbuf.limit.signExtend 128 : Word) ∧
     (∀ r ∈ [Retire.seq, .jump, .opened .pred, .rep, .again, .lone, .trap, .fault], ({ s with retire := r } : State).retire = r) ∧
     ¬ (State.reset.repbuf.v = true)) ∧
    (∀ n, n < 8 → ({ testWindows n with retire := .seq } : State).win = (testWindows n).win ∧
      ({ testWindows n with retire := .seq } : State).retire = .seq ∧
      testWindows (n + 1) = settle (testWindows n) { testWindows n with retire := .seq }) ∧
    (testWindows 0).win.pred = some ⟨1, 0⟩ ∧ (testWindows 0).win.carry = some ⟨1, 0⟩ ∧ (testWindows 0).win.atom = some ⟨1, 0⟩ ∧
    (testWindows 0).win.round = some ⟨1, 0⟩ :=
  ⟨by decide +kernel, fun _ _ => ⟨rfl, rfl, rfl⟩, rfl, rfl, rfl, rfl⟩

/-- A state with the TLB: the entries of T1 and T2, both, or none. -/
def testTlb (es : List (Nat × TlbEntry)) : State :=
  { State.reset with params := { Params.default with translate := .tlb }, ptbr := 8, tlb := { State.reset.tlb with entries := es } }

/-- The page 0x400 of T1: valid, global, every access allowed. -/
def testPage : TlbEntry := ⟨0x00000400800401FF ||| 0xE00, 0x12, 0, 0, none⟩

/-- The tables of a walker: the hash table at 0x10000, SHPTEs, two groups probed. -/
def testTables : WalkTables := ⟨0x10000, 4, 2, true, false, 16⟩

/-- A state that walks them: at 0x20000 a table of level 1 whose first entry is a 16 MB page; in the group at 0x10080 an entry
for page 0. -/
def testWalk : State :=
  { testMem (testTlb []) [(0x10080, 0xFF), (0x10082, 0x04), (0x10083, 0x80), (0x20000, 0xFF), (0x20001, 0x0F), (0x20002, 0x04),
      (0x20003, 0x84)] with
    params := { Params.default with translate := .tlb, walk := .tables testTables }, ptbr := 0x20101 }

/-- One way (T1); a super page, its last page before and after the address (T2, T3); two ways (T5); none, and no walk
(T6); none, and a walk that finds nothing; one that finds a page, and then one way hits. -/
theorem witness_TranslationAndProtection :
    let va : Addr := 0x12345678
    let hit := testTlb [(0xD1, testPage)]
    let big := testTlb [(4114, { testPage with pte := 0x000007FF80040FFF, vpn := 0 })]
    let two := testTlb [(0xD1, testPage), (1233, testPage)]
    let walks := { testTlb [] with ptbr := 0 }
    hit.params.translate = .tlb ∧ hit.hits va = [0] ∧ big.hits va = [4] ∧ two.hits va = 0 :: 1 :: [] ∧
    (testTlb []).hits va = [] ∧ (testTlb []).ptbr.getLsbD 3 = true ∧ walks.ptbr.getLsbD 3 = false ∧
    walks.walk walks.asid va = none ∧ testWalk.ptbr.getLsbD 3 = false ∧ testWalk.hits 0 = [] ∧
    testWalk.walk testWalk.asid 0 = some ⟨true, 0x0000000084040FFF, 0⟩ ∧
    (testWalk.refill 0 ⟨true, 0x0000000084040FFF, 0⟩).hits 0 = [4] := by decide +kernel

/-- A walker that is absent; the hash table, with a match in its second group only, and with none; the tree. -/
theorem witness_TranslationAndProtection_walk :
    State.reset.params.walk = .absent ∧ testWalk.params.walk = .tables testTables ∧ testWalk.ptbr.getLsbD 0 = true ∧
    (let s := { testWalk with ptbr := 0 }
     s.ptbr.getLsbD 0 = false ∧ (s.walk 0 0).isSome = true ∧
     (s.ptEntries testTables 0 0x10000).any (fun e => e.hit 0) = false ∧
     (s.ptEntries testTables 0 0x10080).any (fun e => e.hit 0) = true ∧ s.walk 0 0x4000 = none) ∧ (0 : Nat) < 1 := by
  decide +kernel

/-- LOAD.w and STORE.w of r4 + 8: within a page; into a page that is mapped too, and into one that is not; where no page is
mapped; in machine mode, and with SR.mprv in the user mode of slot 0. -/
theorem witness_TranslationAndProtection_access :
    let on := fun (s : State) (r : Word) => s.setReg 4 r
    let page := testTlb [(0xD1, testPage)]
    let two := testTlb [(0xD1, testPage), (0xD2, testPage)]
    let done := fun {α : Type} (r : Acc α) => match r with | .ok _ _ => true | _ => false
    let traps := fun {α : Type} (r : Acc α) => match r with | .trap _ _ => true | _ => false
    let ea := fun s => eaDisp testD Tail.empty s
    let first := fun s => 16384 - (ea s).toNat % 16384
    let s := on page 0x12345670
    let t := on two 0x12347FF7
    let u := on page 0x12347FF7
    let m := { s with sr := s.sr ||| 0x10000, stack := s.stack.set 0 { s.stack[0] with sr := 0 } }
    (s.params.translate = .tlb ∧ s.enabled Ext.empty false ∧ Ext.empty.tail.regs = none ∧ testD.vd = false ∧ testD.rt ≠ 53) ∧
    (2 ≤ first s ∧ done (memRead (ea s) 2 s) = true ∧ done (memWrite (ea s) 2 7 s) = true ∧
      traps (memRead (ea s) 2 (on (testTlb []) 0)) = true ∧ traps (memWrite (ea s) 2 7 (on (testTlb []) 0)) = true) ∧
    (first t = 1 ∧ done (memRead (ea t) 2 t) = true ∧ done (memWrite (ea t) 2 7 t) = true) ∧
    (first u = 1 ∧ done (memRead (ea u) 1 u) = true ∧ traps (memRead (ea u) 2 u) = true ∧
      done (memWrite (ea u) 1 7 u) = true ∧ traps (memWrite (ea u) 2 7 u) = true) ∧
    s.dataMode = 3 ∧ m.dataMode = 0 := by
  refine ⟨⟨rfl, ⟨rfl, .inr rfl⟩, rfl, rfl, by decide⟩, ?_⟩
  decide +kernel

/-- An active source with none below it, level- and edge-sensitive; none at all; a timer that counts, at 0 and above; one that
does not. -/
theorem witness_InterruptControllerAndTimers :
    let s := { State.reset with pic := { Pic.reset with ctrl := Pic.reset.ctrl.set 31 0x01010700, lines := 0x80000000 } }
    let e := { State.reset with pic := { Pic.reset with ctrl := Pic.reset.ctrl.set 31 0x01030700, latch := 0x80000000 } }
    let active := fun (s : State) (j : Nat) => (s.pic.trig.getLsbD j ||
      if (s.pic.ctrlOf j).getLsbD 17 || s.pic.esh.getLsbD j then s.pic.latch.getLsbD j
      else (s.pic.lines.getLsbD j || (decide (j = 29) && (s.pit1.irq || s.pit2.irq)))) && (s.pic.ctrlOf j).getLsbD 16
    (active s 31 = true ∧ ∀ j, j < 31 → active s j = false) ∧ (active e 31 = true ∧ ∀ j, j < 31 → active e j = false) ∧
    (∀ j, j < 32 → active State.reset j = false) ∧ (0xFC % 4 = 0 ∧ 0xFC < 0x100) ∧
    (let p := { Pit.reset with
      gate := 1, timers := (Pit.reset.timers.set 0 ⟨1, 0, 0, 2, 0, 0, 0⟩ : Vector Timer 32) }
     (p.timers[0].ctrl.getLsbD 1 = true ∧ p.gate.getLsbD 0 = true ∧ p.timers[0].ctrl.getLsbD 4 = false) ∧ p.timers[0].cc ≠ 0 ∧
     (p.timers.set 0 ⟨0, 0, 0, 2, 0, 0, 0⟩)[0].cc = 0 ∧ p.timers[31].ctrl.getLsbD 1 = false ∧
     0 < min Params.default.pitNTimer 32 ∧ p.timers[0].ctrl.getLsbD 3 = false) := by decide +kernel

/-- A timer at the beginning of a cycle of five, high for two of them. -/
theorem witness_TimerOutputStatus :
    let p := { Pit.reset with
      gate := 1, timers := (Pit.reset.timers.set 0 ⟨5, 5, 2, 2, 5, 2, 2⟩ : Vector Timer 32) }
    let t := p.timers[(0 : Fin 32).val]
    t.cc = t.mc ∧ t.ot.toNat ≤ t.mc.toNat ∧ 5 ≤ t.mc.toNat ∧ t.ctrl.getLsbD 1 = true ∧ p.gate.getLsbD (0 : Fin 32) = true ∧
    t.ctrl.getLsbD 4 = false := by decide +kernel

/-- The control register of the TLB keeps bits 31:30, 28:19 and 3:0 (R149); with PA_BITS = 32 the E2 routine's address
0xFFE00070 is that register's (R111). -/
theorem test_tlb_control :
    (Tlb.writeReg Params.default State.reset.tlb 0x70 (BitVec.allOnes 64)).ctrl = 0xDFF8000F ∧
    ({ State.reset with params := { Params.default with paBits := 32 } } : State).device 0xFFE00070 = some (.tlb, 0x70) := by
  decide +kernel

/-- With PA_BITS = 78 a page number of 64 bits reaches memory whole, with 64 its low 50 bits (R147); the TLB's registers stand
at the address whose 78 bits above bit 21 are ones (R111). -/
theorem test_wide_physical :
    let s : State := { State.reset with params := { Params.default with paBits := 78 } }
    let e : TlbEntry := ⟨1 <<< 95, 0, 0, 0, none⟩
    (entryPhys e 0 0x1678).map s.phys = some (2 ^ 77 + 0x1678) ∧ (entryPhys e 4 0x1678).map s.phys = some (2 ^ 77 + 0x1678) ∧
    (entryPhys e 0 0x1678).map State.reset.phys = some 0x1678 ∧ s.device (2 ^ 78 - 0x200000 + 0x70) = some (.tlb, 0x70) := by
  decide +kernel

/-- A state with the reset input before its next step, RESET_MODE = vector, and memory up to `n`. -/
def testVector (n : Nat) : State :=
  { State.reset with
    params := { Params.default with resetMode := .vector, physMap := [(0, n)] }
    env := [[.reset]] }

/-- The reset input in both modes, with the vectors in memory and with the last of their bytes beyond it; a TLB_RESET that
names a place twice, and not another. -/
theorem witness_ResetValues :
    let s := { State.reset with env := [[.reset]] }
    let l : List (Nat × BitVec 96 × BitVec 96) := [(5, 1, 2), (5, 3, 4)]
    (s.resetAsked = true ∧ s.params.resetMode = .zero) ∧
    ((testVector 16).resetAsked = true ∧ (testVector 16).ram 0 16 ∧ (State.resetWith (testVector 16).params).ram 0 16) ∧
    (∃ sp t pc u, memReadAs .read 3 0 8 (testVector 16).afterReset = .ok sp t ∧ memReadAs .read 3 8 8 t = .ok pc u) ∧
    ((testVector 15).flat ∧ (∀ i, i < 16 → (testVector 15).device i = none) ∧ (testVector 15).claimed 15 = false) ∧
    l = [(5, 1, 2)] ++ (5, 3, 4) :: [] ∧ (∀ f ∈ ([] : List (Nat × BitVec 96 × BitVec 96)), f.1 ≠ 5) ∧
    ∀ e ∈ l, e.1 ≠ 6 := by
  unfold State.ram State.flat
  exact ⟨by decide, by decide +kernel, ⟨_, _, _, _, rfl, rfl⟩, by decide +kernel, rfl, by decide, by decide⟩

/-- A step from reset: BRK, which completes by taking its exception. -/
theorem test_reset_steps : ∃ t, step State.reset = .next t := ⟨_, rfl⟩

theorem witness_StepKeepsTheInvariant : (State.reset.Inv) ∧ ∃ t, step State.reset = .next t := by
  refine ⟨?_, test_reset_steps⟩
  unfold State.Inv; decide +kernel

theorem witness_TickParametersAndOtherAgents : (∃ t, step State.reset = .next t) ∧ State.reset.resetAsked = false ∧
    State.reset.params.translate = .flat ∧ Memory.wf State.reset.mem = true :=
  ⟨test_reset_steps, rfl, rfl, rfl⟩

/-- An act on memory, which is done, and held while the bus is locked; acts on a line and on M_SEMA; a page that the MMU keeps an
entry for, and the bit M it sets there. -/
theorem witness_TickParametersAndOtherAgents_acts :
    let s := { State.reset with env := [[.memory 5 7, .picLine 3 true], [.sema 1]] }
    let t := { s with win := { s.win with locked := true, atom := some ⟨2, 0⟩ } }
    let u := testTlb [(0xD1, testPage)]
    s.busLocked = false ∧ s.takeInputs.byte 5 = 7 ∧ s.takeInputs.pic.lines = 8 ∧ s.takeInputs.env = [[.sema 1]] ∧
    t.busLocked = true ∧ t.takeInputs.byte 5 = 0 ∧ t.takeInputs.pic.lines = 8 ∧ t.takeInputs.env = [[.memory 5 7, .sema 1]] ∧
    u.busLocked = false ∧ u.mmuPmte (.entry 0xD1 0xD1) = some (16 * 0x400) ∧
    (u.mmuMove u ⟨.entry 0xD1 0xD1, true, 1⟩).byte 0x4003 = 0x20 ∧ (u.mmuMove u ⟨.entry 0xD1 0xD1, true, 1⟩).byte 0x4008 = 1 := by
  decide +kernel

/-- NOP in user mode. -/
theorem witness_ModeRisesOnlyByExceptionEntry :
    ({ State.reset with sr := 1 } : State).mode ≠ 3 ∧ ∃ t, exec (.nop Tail.empty) { State.reset with sr := 1 } = .next t :=
  ⟨by decide +kernel, _, rfl⟩

theorem witness_DecodeOfEncode : (Instr.add testR2 Ext.empty).wf = true ∧ (Instr.load .o testD (testConst 5)).wf = true ∧
    ∃ w n i, decode (toBytes 5 0x8C05AA0002) = .done w n (.ok i) := ⟨by decide, by decide, _, _, _, rfl⟩

/-- Reserved words of each kind: opcode 30; type 4 of opcode 31; {R2} function 3; ADD with size code 5; FADDI with precision
code 0; ADD with a vector target 32; an ATOM letter 3; a ROUND code 5. -/
theorem witness_MalformedAndReservedEncodingsTrap_words :
    ∀ w ∈ [0x1E, 0x9F, 0x0C00000002, 0x10000000A2, 0x14, 0x1100004002, 0x8C00030002, 0x91FFFFFD02],
      w < 2 ^ 40 ∧ (match decode (toBytes 5 w ++ [0]) with
        | .done _ n (.error .reserved) => n == 5
        | _ => false) = true := by decide +kernel

/-- CSRRD r3,0x3002 with Vc = 1, and the word with Vc = 0 that it may be read as. -/
theorem witness_MalformedAndReservedEncodingsTrap_csr :
    (∃ v n r, decode (toBytes 5 0x7001000603) = .done v n r) ∧
    ∃ u n, decode (toBytes 5 (0x7001000603 - 2 ^ 38)) = .done u n (.ok (.csrrd ⟨3, false, 0, false, 0x3002, false⟩ Ext.empty)) :=
  ⟨⟨_, _, _, rfl⟩, _, _, rfl⟩
end

/-! What the parts of an instruction keep. A statement about every instruction names what is kept and shows that a handful of
changes keep it (`Working`, `Completing`); the lemmas here carry it through the shared operations and, once, over the
instructions (`Completing.exec`). -/

namespace Sys2Proof.Machine

/-- Where a part of an instruction answers, `Q` holds of the state it leaves; where it traps, `P`. -/
def Acc.Leaves {α : Type} (P Q : State → Prop) : Acc α → Prop
  | .ok _ t => Q t
  | .trap _ t => P t
  | .refuse _ => True

/-- `t` is what taking a synchronous exception in a state of which `P` holds leaves. -/
def Entered (P : State → Prop) (t : State) : Prop :=
  ∃ vec epc bad u, P u ∧ enter .sync vec epc bad u = .next t

/-- Where an instruction answers, it completed, and `Q` holds of the state it leaves, or took an exception from a state of
which `P` holds. -/
def Ends (P Q : State → Prop) (r : Host.Outcome State Fault Refusal) : Prop :=
  ∀ t, r = .next t → Q t ∨ Entered P t

/-- `P` is kept by all that the parts of an instruction change short of a write of a control register and a return from
exception. Memory is only written so that its canonical form is kept, a carry is only left where its window is open. -/
structure Working (P : State → Prop) : Prop where
  regs : ∀ {s : State} (g : Vector Word 64) (c a b h m : Word), P s →
    P { s with gpr := g, sc := c, asp := a, ssp := b, hsp := h, msp := m }
  vectors : ∀ {s : State} (v : Vector (BitVec 512) 32) (m e : Word), P s → P { s with vreg := v, vrm := m, verr := e }
  tlbDraws : ∀ {s : State} (t : Tlb) (d : Nat), P s → P { s with tlb := t, draws := d }
  units : ∀ {s : State} (c : Pic) (p q : Pit), P s → P { s with pic := c, pit1 := p, pit2 := q }
  mem : ∀ {s : State} (r : Vector Region 8) (m l : List Host.Cell), P s →
    (Memory.wf s.mem = true → Memory.wf m = true) → P { s with regions := r, mem := m, stale := l }
  win : ∀ {s : State} (w : Windows), P s → ((s.win.carry = none → s.win.cy = 0) → w.carry = none → w.cy = 0) →
    P { s with win := w }
  repbuf : ∀ {s : State} (b : RepBuf), P s → P { s with repbuf := b }
  flow : ∀ {s : State} (pc : Addr) (r : Retire) (w : BitVec 48), P s → P { s with pc := pc, retire := r, ir := w }

/-- `P` is kept while an instruction works, and `Q` holds when it completes: what a write of a control register and a return
from exception leave of `P`. -/
structure Completing (P Q : State → Prop) : Prop extends Working P where
  weaken : ∀ {s : State}, P s → Q s
  csrWrite : ∀ {s : State} (c : Csr) (v : Word), P s → Q (s.csrWrite c v)
  rte : ∀ {s t : State} {d : Nat} {k : BitVec 7} {a : Addr}, P s → rteState d k s = .ok a t → Q t
  regsAfter : ∀ {s : State} (g : Vector Word 64) (c a b h m : Word), Q s →
    Q { s with gpr := g, sc := c, asp := a, ssp := b, hsp := h, msp := m }
  flowAfter : ∀ {s : State} (pc : Addr) (r : Retire), Q s → Q { s with pc := pc, retire := r }

variable {P Q R : State → Prop} {α β : Type} {s : State}

/-! Parts one after the other. -/

theorem Acc.Leaves.bind {x : Acc α} {f : α → State → Acc β} (hx : x.Leaves P R)
    (hf : ∀ a t, R t → (f a t).Leaves P Q) : (x.bind f).Leaves P Q := by
  cases x with
  | ok a t => exact hf a t hx
  | trap e t => exact hx
  | refuse r => trivial

theorem Acc.Leaves.map {x : Acc α} {f : α → β} (hx : x.Leaves P Q) : (x.map f).Leaves P Q :=
  hx.bind fun _ _ ht => ht

theorem Acc.Leaves.ite {c : Prop} [Decidable c] {x y : Acc α} (hx : x.Leaves P Q) (hy : y.Leaves P Q) :
    (if c then x else y).Leaves P Q := by
  split
  · exact hx
  · exact hy

theorem Acc.Leaves.mono {x : Acc α} (hx : x.Leaves P Q) (h : ∀ {t}, Q t → R t) : x.Leaves P R := by
  cases x with
  | ok a t => exact h hx
  | trap e t => exact hx
  | refuse r => trivial

namespace Working

/-! Registers. -/

theorem setReg (h : Working P) (r : Reg) (v : Word) (hs : P s) : P (s.setReg r v) := by
  rw [State.setReg_eq]; exact h.regs _ _ _ _ _ _ hs

theorem setBank (h : Working P) (m : BitVec 2) (v : Word) (hs : P s) : P (s.setBank m v) := by
  rw [State.setBank_eq]; exact h.regs s.gpr s.sc _ _ _ _ hs

theorem setElem (h : Working P) {w : Nat} (r : Reg) (k : Nat) (e : BitVec w) (hs : P s) : P (s.setElem r k e) :=
  h.vectors _ s.vrm s.verr hs

theorem setVrm (h : Working P) (m : Word) (hs : P s) : P { s with vrm := m } := h.vectors s.vreg m s.verr hs

theorem setIndex (h : Working P) (r : Reg) (v : Option Word) (hs : P s) : P (s.setIndex r v) := by
  cases v with
  | none => exact hs
  | some w => exact h.setReg r w hs

theorem draw (h : Working P) (f : Nat → α) (hs : P s) : (Machine.draw f s).Leaves P P := h.tlbDraws s.tlb _ hs

/-! Translation and the bus. -/

theorem tlbMiss (h : Working P) (va : Addr) (hs : P s) : (Machine.tlbMiss va s : Acc α).Leaves P P :=
  h.tlbDraws _ s.draws hs

theorem checkHit (h : Working P) (k : Kind) (m : BitVec 2) (va : Addr) (n way : Nat) (hs : P s) :
    (Machine.checkHit k m va n way s).Leaves P P := by
  simp only [Machine.checkHit]
  split
  · exact h.tlbMiss va hs
  · exact .ite hs (.ite hs (.ite (h.tlbDraws _ s.draws hs) (h.tlbDraws _ s.draws hs)))

theorem locate (h : Working P) (k : Kind) (m : BitVec 2) (va : Addr) (n : Nat) (hs : P s) :
    (Machine.locate k m va n s).Leaves P P := by
  unfold Machine.locate
  split
  · exact hs
  · split
    · exact h.checkHit k m va n _ hs
    · trivial
    · split
      · exact h.tlbMiss va hs
      · split
        · exact h.tlbMiss va hs
        · rename_i hit _
          have hr : P (s.refill va hit) := h.tlbDraws _ _ hs
          simp only
          split
          · exact h.checkHit k m va n _ hr
          · trivial
          · exact h.tlbMiss va hr

theorem busRead (va : Addr) (pa n : Nat) (hs : P s) : (Machine.busRead va pa n s).Leaves P P := by
  unfold Machine.busRead
  split
  · exact hs
  · exact hs
  · split
    · exact hs
    · trivial
  · exact hs
  · trivial

theorem samplePic (h : Working P) (hs : P s) : P s.samplePic := h.units _ s.pit1 s.pit2 hs

theorem tlbTrigger (h : Working P) {r w : Bool} {t : State} (hs : P s) (ht : s.tlbTrigger r w = some t) : P t := by
  obtain ⟨-, ht⟩ := Option.ite_none_right_eq_some.1 ht
  exact Option.some.inj ht ▸ h.tlbDraws _ _ hs

theorem deviceWrite (h : Working P) {d : Device} {off n v : Nat} {t : State} (hs : P s)
    (ht : s.deviceWrite d off n v = .ok t) : P t := by
  cases d with
  | region => cases ht
  | tlb =>
    simp only [State.deviceWrite] at ht
    split at ht
    · injection ht with ht; rw [← ht]; exact h.tlbDraws _ s.draws hs
    · split at ht
      · split at ht
        · injection ht with ht; exact ht ▸ hs
        · split at ht
          · injection ht with ht; subst ht; exact h.tlbTrigger hs ‹_›
          · cases ht
      · cases ht
  | pic =>
    simp only [State.deviceWrite] at ht
    split at ht
    · injection ht with ht; rw [← ht]; exact h.samplePic (h.units _ s.pit1 s.pit2 hs)
    · cases ht
  | pit1 =>
    simp only [State.deviceWrite] at ht
    split at ht
    · injection ht with ht; rw [← ht]; exact h.samplePic (h.units s.pic _ s.pit2 hs)
    · cases ht
  | pit2 =>
    simp only [State.deviceWrite] at ht
    split at ht
    · injection ht with ht; rw [← ht]; exact h.samplePic (h.units s.pic s.pit1 _ hs)
    · cases ht

theorem busWrite (h : Working P) (va : Addr) (pa n v : Nat) (hs : P s) : (Machine.busWrite va pa n v s).Leaves P P := by
  unfold Machine.busWrite
  split
  · exact h.mem s.regions _ _ hs fun hw => State.wf_store pa n v hw
  · obtain ⟨hw, r, m, l, he⟩ := State.physWrite_spec pa (toBytes n v) s
    rw [he] at hw ⊢
    exact h.mem r m l hs hw
  · split
    · exact h.deviceWrite hs ‹_›
    · trivial
  · exact hs
  · trivial

/-! MemRead, MemWrite and the read-modify-write. -/

theorem readPiece (h : Working P) (k : Kind) (m : BitVec 2) (va : Addr) (n : Nat) (hs : P s) :
    (Machine.readPiece k m va n s).Leaves P P :=
  (h.locate k m _ n hs).bind fun pa _ ht => busRead _ pa n ht

theorem writePiece (h : Working P) (m : BitVec 2) (va : Addr) (n v : Nat) (hs : P s) :
    (Machine.writePiece m va n v s).Leaves P P :=
  (h.locate .write m _ n hs).bind fun pa _ ht => h.busWrite _ pa n v ht

theorem memReadAs (h : Working P) (k : Kind) (m : BitVec 2) (va : Addr) (n : Nat) (hs : P s) :
    (Machine.memReadAs k m va n s).Leaves P P :=
  .ite (h.readPiece k m va n hs)
    ((h.readPiece k m va _ hs).bind fun _ _ ht => (h.readPiece k m _ _ ht).bind fun _ _ hu => hu)

theorem memWriteAs (h : Working P) (m : BitVec 2) (va : Addr) (n v : Nat) (hs : P s) :
    (Machine.memWriteAs m va n v s).Leaves P P :=
  .ite (h.writePiece m va n v hs) ((h.writePiece m va _ _ hs).bind fun _ _ ht => h.writePiece m _ _ _ ht)

theorem memRead (h : Working P) (va : Addr) (n : Nat) (hs : P s) : (Machine.memRead va n s).Leaves P P :=
  h.memReadAs .read _ va n hs

theorem memWrite (h : Working P) (va : Addr) (n v : Nat) (hs : P s) : (Machine.memWrite va n v s).Leaves P P :=
  h.memWriteAs _ va n v hs

theorem atomic (h : Working P) (va : Addr) (n : Nat) (f : Nat → Option Nat) (hs : P s) :
    (Machine.atomic va n f s).Leaves P P := by
  refine .ite hs ((h.locate .read _ _ n hs).bind fun _ _ h1 => (h.locate .write _ _ n h1).bind fun pa _ h2 =>
    (busRead _ pa n h2).bind fun old _ h3 => ?_)
  split
  · exact h3
  · exact (h.busWrite _ pa n _ h3).bind fun _ _ h4 => h4

/-! Results: to a register, or element by element. -/

theorem elemLoop (h : Working P) {w : Nat} {rt : Reg} {m : Word} {f : Nat → State → Acc Word}
    (hf : ∀ k t, P t → (f k t).Leaves P P) (n k : Nat) (hs : P s) : (Machine.elemLoop w rt m f n k s).Leaves P P := by
  induction n generalizing k s with
  | zero => exact hs
  | succ n ih =>
    have hk := hf k s hs
    unfold Machine.elemLoop
    split
    · cases hr : f k s with
      | ok r t => rw [hr] at hk; exact ih (k + 1) (h.setElem rt k _ hk)
      | trap e t => rw [hr] at hk; exact h.vectors t.vreg _ _ hk
      | refuse r => trivial
    · exact ih (k + 1) hs

theorem alu (h : Working P) {w : Nat} {vec : Bool} {rt : Reg} {m : Option MaskByte} {f : Nat → State → Acc Word}
    (hf : ∀ k t, P t → (f k t).Leaves P P) (hs : P s) : (Machine.alu w vec rt m f s).Leaves P P :=
  .ite ((h.elemLoop hf _ 0 hs).bind fun _ _ ht => h.setVrm _ ht) ((hf 0 s hs).bind fun r _ ht => h.setReg rt r ht)

/-! Arithmetic with the carry, division, floating point. -/

theorem setCarry (h : Working P) {out : Bool} (c : Nat) (ho : out = true → s.carryCode.2 = true) (hs : P s) :
    P (s.setCarry out c) := by
  unfold State.setCarry
  split
  · rename_i hout
    refine h.win _ hs fun _ hn => ?_
    have hopen : s.win.carry ≠ none := fun hc => by simpa [State.carryCode, hc] using ho hout
    exact absurd hn hopen
  · exact hs

theorem addCarry (h : Working P) (sub dt : Bool) (w : Nat) (a b : BitVec w) (hs : P s) :
    (Machine.addCarry sub dt w a b s).Leaves P P := h.setCarry _ id hs

theorem addOp (h : Working P) (vec dt : Bool) (w : Nat) (a b : BitVec w) (hs : P s) :
    (Machine.addOp vec dt w a b s).Leaves P P := .ite hs (h.addCarry false dt w a b hs)

theorem mulOp (h : Working P) (vec : Bool) (g : Signs) (dt : Bool) (w : Nat) (a b : BitVec w) (hs : P s) :
    (Machine.mulOp vec g dt w a b s).Leaves P P := .ite hs (h.setCarry _ id hs)

theorem divide (h : Working P) (g : Signs) (w : Nat) (a b : BitVec w) (hs : P s) :
    (Machine.divide g w a b s).Leaves P P := .ite (.ite hs (h.draw _ hs)) hs

theorem divCarry (h : Working P) (carry : Bool) (g : Signs) (dt : Bool) (w : Nat) (a b : BitVec w) (hs : P s) :
    (Machine.divCarry carry g dt w a b s).Leaves P P :=
  (h.divide g w a b hs).bind fun _ _ ht => h.setCarry _ (fun ho => (Bool.and_eq_true_iff.1 ho).2) ht

theorem modOp (h : Working P) (g : Signs) (dt : Bool) (w : Nat) (a b : BitVec w) (hs : P s) :
    (Machine.modOp g dt w a b s).Leaves P P := (h.divide g w a b hs).map

theorem nanOr (h : Working P) (f : Fmt) (r : Option Nat) (hs : P s) : (Machine.nanOr f r s).Leaves P P := by
  cases r with
  | some v => exact hs
  | none => exact h.draw (fun n => f.quietNan (Config.nanBits n).toNat) hs

theorem toQuad (h : Working P) (p : Prec) (v : Nat) (hs : P s) : (Machine.toQuad p v s).Leaves P P :=
  .ite hs (h.nanOr _ _ hs).map

theorem fromQuad (h : Working P) (p : Prec) (rm : RoundMode) (v : Word) (hs : P s) :
    (Machine.fromQuad p rm v s).Leaves P P := .ite hs (h.nanOr _ _ hs)

theorem floatConst (h : Working P) (f : BitVec 16) (t : Tail) (hs : P s) : (Machine.floatConst f t s).Leaves P P :=
  .ite (h.toQuad _ _ hs) (.ite (h.toQuad _ _ hs) (.ite (h.toQuad _ _ hs) hs))

theorem floatTail (h : Working P) (t : Tail) (hs : P s) : (Machine.floatTail t s).Leaves P P :=
  .ite (h.floatConst _ _ hs).map hs

theorem fltOp (h : Working P) (st : Bool) (op : FpOp) (rm : RoundMode) (a b : Word) (hs : P s) :
    (Machine.fltOp st op rm a b s).Leaves P P := by
  refine Acc.Leaves.map ?_
  unfold Machine.oracle
  split
  · exact (h.nanOr _ _ hs).map
  · exact hs

theorem cryptoResult (op : CryptoOp) (st : Bool) (a b : Word) (hs : P s) :
    (Machine.cryptoResult op st a b s).Leaves P P := by
  unfold Machine.cryptoResult
  split
  · exact hs
  · exact hs

theorem chkOne (ok : Bool) (hs : P s) : (Machine.chkOne ok s).Leaves P P := .ite hs hs

theorem chkLoop (h : Working P) (m : Word) (f : Nat → Bool) (n k : Nat) (hs : P s) :
    (Machine.chkLoop m f n k s).Leaves P P := by
  induction n generalizing k with
  | zero => exact hs
  | succ n ih =>
    unfold Machine.chkLoop
    split
    · exact h.vectors s.vreg _ _ hs
    · exact ih (k + 1)

theorem chkAll (h : Working P) (w : Nat) (vec : Bool) (m : Option MaskByte) (f : Nat → Bool) (hs : P s) :
    (Machine.chkAll w vec m f s).Leaves P P :=
  .ite ((h.chkLoop _ f _ 0 hs).bind fun _ _ ht => h.setVrm _ ht) (chkOne (f 0) hs).map

/-! Loads and stores. -/

theorem eaIndexed (h : Working P) (o : MemX) (n : Nat) (t : Tail) (hs : P s) :
    (Machine.eaIndexed o n t s).Leaves P P := by
  simp only [Machine.eaIndexed]
  split
  · exact hs
  · exact hs
  · exact hs
  · exact (h.memRead _ _ hs).map

theorem loadTo (h : Working P) (t : Tgt) (v : Word) (hs : P s) : (Machine.loadTo t v s).Leaves P P := by
  cases t with
  | reg r => exact .ite (.ite hs hs) (h.setReg r v hs)
  | bank m => exact h.setBank m v hs

theorem loadMany (h : Working P) {n : Nat} {get : Get} (hg : ∀ a t, P t → (get a t).Leaves P P) (ts : List Tgt) (a : Addr)
    (hs : P s) : (Machine.loadMany n get ts a s).Leaves P P := by
  induction ts generalizing a s with
  | nil => exact hs
  | cons t ts ih => exact (hg a s hs).bind fun v _ h1 => (h.loadTo t v h1).bind fun _ _ h2 => ih _ h2

theorem loadScalar (h : Working P) {n : Nat} {get : Get} (hg : ∀ a t, P t → (get a t).Leaves P P) (rt : Reg) (t : Tail)
    (a : Addr) (hs : P s) : (Machine.loadScalar n get rt t a s).Leaves P P := (h.loadMany hg _ a hs).map

theorem getSigned (h : Working P) (z : Size) (a : Addr) (t : State) (ht : P t) : (Machine.getSigned z a t).Leaves P P :=
  (h.memRead a _ ht).map

theorem getZero (h : Working P) (z : Size) (a : Addr) (t : State) (ht : P t) : (Machine.getZero z a t).Leaves P P :=
  (h.memRead a _ ht).map

theorem getFloat (h : Working P) (p : Prec) (a : Addr) (t : State) (ht : P t) : (Machine.getFloat p a t).Leaves P P :=
  (h.memRead a _ ht).bind fun v _ hu => h.toQuad p v hu

theorem loadGroup (h : Working P) (g : Reg) (m : Option (BitVec 8)) (blk : BitVec 512) (hs : P s) :
    P (Machine.loadGroup g m blk s) := by
  refine List.foldlRecOn (motive := P) _ _ hs fun t ht i _ => ?_
  simp only
  split
  · exact h.setReg _ _ ht
  · exact ht

theorem putLow (h : Working P) (z : Size) (a : Addr) (v : Word) (t : State) (ht : P t) :
    (Machine.putLow z a v t).Leaves P P := h.memWrite a _ _ ht

theorem putFloat (h : Working P) (p : Prec) (a : Addr) (v : Word) (t : State) (ht : P t) :
    (Machine.putFloat p a v t).Leaves P P :=
  (h.fromQuad p _ v ht).bind fun r _ hu => h.memWrite a _ r hu

theorem storeMany {n : Nat} {put : Put} (hp : ∀ a v t, P t → (put a v t).Leaves P P) (ts : List Tgt) (a : Addr) (hs : P s) :
    (Machine.storeMany n put ts a s).Leaves P P := by
  induction ts generalizing a s with
  | nil => exact hs
  | cons t ts ih => exact (hp a _ s hs).bind fun _ _ h1 => ih _ h1

theorem storeScalar {n : Nat} {put : Put} (hp : ∀ a v t, P t → (put a v t).Leaves P P) (v : Word) (t : Tail) (a : Addr)
    (hs : P s) : (Machine.storeScalar n put v t a s).Leaves P P :=
  (hp a v s hs).bind fun _ _ ht => (storeMany hp _ _ ht).map

theorem storeLoop (h : Working P) {w : Nat} {ra : Reg} {m : Word} {put : Put} {addr : Nat → Addr}
    (hp : ∀ a v t, P t → (put a v t).Leaves P P) (n k : Nat) (hs : P s) :
    (Machine.storeLoop w ra m put addr n k s).Leaves P P := by
  induction n generalizing k s with
  | zero => exact hs
  | succ n ih =>
    have hk := hp (addr k) ((s.elem w ra k).setWidth 128) s hs
    unfold Machine.storeLoop
    split
    · cases hr : put (addr k) ((s.elem w ra k).setWidth 128) s with
      | ok r t => rw [hr] at hk; exact ih (k + 1) hk
      | trap e t => rw [hr] at hk; exact h.vectors t.vreg _ _ hk
      | refuse r => trivial
    · exact ih (k + 1) hs

theorem storeVec (h : Working P) {w : Nat} {put : Put} {ra : Reg} {m : Option MaskByte} {addr : Nat → Addr}
    (hp : ∀ a v t, P t → (put a v t).Leaves P P) (hs : P s) : (Machine.storeVec w put ra m addr s).Leaves P P :=
  (h.storeLoop hp _ 0 hs).bind fun _ _ ht => h.setVrm _ ht

theorem cacheCommand (h : Working P) (cmd : BitVec 6) (ea : Addr) (hs : P s) : P (Machine.cacheCommand cmd ea s) := by
  have hfresh : P { s with stale := [] } := h.mem s.regions s.mem [] hs id
  unfold Machine.cacheCommand
  split
  · exact hfresh
  · exact hfresh
  · exact h.tlbDraws _ s.draws hs
  · exact h.tlbDraws _ s.draws hs
  · exact hs

theorem amo (h : Working P) (z : Size) (rt ra : Reg) (f : BitVec z.bits → Option (BitVec z.bits)) (hs : P s) :
    (Machine.amo z rt ra f s).Leaves P P :=
  (h.atomic _ _ _ hs).bind fun _ _ ht => h.setReg rt _ ht

/-! Block instructions, jumps. -/

theorem adjust (h : Working P) (r : Reg) (d : Word) (hs : P s) : P (s.adjust r d) := by
  unfold State.adjust
  split
  · exact hs
  · exact h.setReg r _ hs

theorem endIteration (h : Working P) (hs : P s) : (Machine.endIteration s).Leaves P P := h.adjust 55 (-1) hs

theorem blockOp {body : State → Acc Flow} (hb : ∀ t, P t → (body t).Leaves P P) (hs : P s) :
    (Machine.blockOp body s).Leaves P P := .ite hs (hb s hs)

theorem jumpInd (h : Working P) (len : Nat) (rt : Reg) (op : Bool) (z : Size) (ea : Addr) (hs : P s) :
    (Machine.jumpInd len rt op z ea s).Leaves P P :=
  (h.memRead ea _ hs).bind fun _ _ ht => h.setReg rt _ ht

theorem tableJump (h : Working P) (len : Nat) (rt : Reg) (o : TabJ) (hs : P s) :
    (Machine.tableJump len rt o s).Leaves P P := .ite hs (h.jumpInd len rt _ _ _ hs)

end Working

end Sys2Proof.Machine

namespace Sys2Proof.Machine

variable {P Q : State → Prop} {s : State}

/-! How an instruction ends. -/

theorem Ends.next {t : State} (ht : Q t) : Ends P Q (.next t) := by
  rintro _ ⟨⟩
  exact .inl ht

theorem Ends.refused (r : Refusal) : Ends P Q (.refused r) := by
  rintro _ ⟨⟩

theorem Ends.enter {vec : BitVec 9} {epc : Addr} {bad : Option Addr} (hs : P s) :
    Ends P Q (Machine.enter .sync vec epc bad s) := fun _ ht => .inr ⟨vec, epc, bad, s, hs, ht⟩

theorem Ends.ite {c : Prop} [Decidable c] {x y : Host.Outcome State Fault Refusal} (hx : Ends P Q x) (hy : Ends P Q y) :
    Ends P Q (if c then x else y) := by
  split
  · exact hx
  · exact hy

namespace Completing

theorem finish (h : Completing P Q) (len : Nat) (s0 : State) {r : Acc Flow} (hr : r.Leaves P Q) :
    Ends P Q (Machine.finish len s0 r) := by
  cases r with
  | ok f t => cases f with
    | seq | goto a | opened k | rep | again => exact .next (h.flowAfter _ _ hr)
  | trap e t => exact .enter (h.flow t.pc .fault t.ir hr)
  | refuse r => exact .refused r

theorem skip (h : Completing P Q) (len : Nat) (hs : P s) : Ends P Q (Machine.skip len s) :=
  .next (h.flowAfter _ _ (h.weaken hs))

theorem runExtTo (h : Completing P Q) {x : Ext} {vec : Bool} {body : State → Acc Flow} (hs : P s)
    (hb : (body s).Leaves P Q) : Ends P Q (Machine.runExt x vec body s) := .ite (h.finish _ s hb) (h.skip _ hs)

theorem runTailTo (h : Completing P Q) {n : Nat} {t : Tail} {body : State → Acc Flow} (hs : P s)
    (hb : (body s).Leaves P Q) : Ends P Q (Machine.runTail n t body s) := .ite (h.finish _ s hb) (h.skip _ hs)

theorem runExt (h : Completing P Q) {x : Ext} {vec : Bool} {body : State → Acc Flow} (hs : P s)
    (hb : (body s).Leaves P P) : Ends P Q (Machine.runExt x vec body s) := h.runExtTo hs (hb.mono h.weaken)

theorem runTail (h : Completing P Q) {n : Nat} {t : Tail} {body : State → Acc Flow} (hs : P s)
    (hb : (body s).Leaves P P) : Ends P Q (Machine.runTail n t body s) := h.runTailTo hs (hb.mono h.weaken)

theorem unimplemented (h : Completing P Q) (hs : P s) : Ends P Q (Machine.unimplemented s) :=
  .enter (h.flow s.pc .fault s.ir hs)

theorem loneNop (h : Completing P Q) (len : Nat) (hs : P s) : Ends P Q (Machine.loneNop len s) :=
  .next (h.flowAfter _ _ (h.weaken hs))

/-! The shapes of the instructions. -/

/-- The results of an instruction that does nothing else. -/
theorem results (h : Completing P Q) {x : Ext} {vec v : Bool} {w : Nat} {rt : Reg} {m : Option MaskByte}
    {f : Nat → Word} {body : State → Acc Flow} (hs : P s) (hb : body s = alu w v rt m (fun k t => .ok (f k) t) s) :
    Ends P Q (Machine.runExt x vec body s) :=
  h.runExt hs (by rw [hb]; exact h.alu (fun _ _ ht => ht) hs)

theorem r2M (h : Completing P Q) {d : Deco} {g : (w : Nat) → BitVec w → BitVec w → State → Acc Word} {o : R2} {x : Ext}
    (hg : ∀ w a b t, P t → (g w a b t).Leaves P P) (hs : P s) : Ends P Q (Machine.r2M d g o x s) :=
  h.runExt hs (h.alu (fun _ t ht => hg _ _ _ t ht) hs)

theorem riM (h : Completing P Q) {d : Deco} {g : (w : Nat) → BitVec w → BitVec w → State → Acc Word} {o : RI} {x : Ext}
    (hg : ∀ w a b t, P t → (g w a b t).Leaves P P) (hs : P s) : Ends P Q (Machine.riM d g o x s) :=
  h.runExt hs (h.alu (fun _ t ht => hg _ _ _ t ht) hs)

theorem r2 (h : Completing P Q) {d dt : Deco} {fill : Fill} {f : (w : Nat) → BitVec w → BitVec w → BitVec w} {o : R2}
    {x : Ext} (hs : P s) : Ends P Q (Machine.r2 d dt fill f o x s) := h.r2M (fun _ _ _ _ ht => ht) hs

theorem r2Swap (h : Completing P Q) {d dt : Deco} {fill : Fill} {f : (w : Nat) → BitVec w → BitVec w → BitVec w} {o : R2}
    {x : Ext} (hs : P s) : Ends P Q (Machine.r2Swap d dt fill f o x s) := h.r2 hs

theorem ri (h : Completing P Q) {d dt : Deco} {fill : Fill} {f : (w : Nat) → BitVec w → BitVec w → BitVec w} {o : RI}
    {x : Ext} (hs : P s) : Ends P Q (Machine.ri d dt fill f o x s) := h.riM (fun _ _ _ _ ht => ht) hs

theorem r1 (h : Completing P Q) {d dt : Deco} {fill : Fill} {f : (w : Nat) → BitVec w → BitVec w} {o : R1} {x : Ext}
    (hs : P s) : Ends P Q (Machine.r1 d dt fill f o x s) := h.results hs rfl

theorem sha32 (h : Completing P Q) {f : BitVec 32 → BitVec 32} {o : R1} {x : Ext} (hs : P s) :
    Ends P Q (Machine.sha32 f o x s) := h.r1 hs

theorem sha64 (h : Completing P Q) {f : BitVec 64 → BitVec 64} {o : R1} {x : Ext} (hs : P s) :
    Ends P Q (Machine.sha64 f o x s) := h.r1 hs

theorem chrndxOp (h : Completing P Q) {z : Size} {vec : Bool} {rt : Reg} {st : Bool} {ra : Reg} {sa : Bool}
    {b : State → Nat → BitVec z.bits} {x : Ext} (hs : P s) : Ends P Q (Machine.chrndxOp z vec rt st ra sa b x s) :=
  h.results hs rfl

theorem shiftR (h : Completing P Q) {f : (w : Nat) → BitVec w → Nat → BitVec w → BitVec w} {o : R2} {x : Ext} (hs : P s) :
    Ends P Q (Machine.shiftR f o x s) := h.results hs rfl

theorem shiftI (h : Completing P Q) {f : (w : Nat) → BitVec w → Nat → BitVec w → BitVec w} {o : ShI} {x : Ext} (hs : P s) :
    Ends P Q (Machine.shiftI f o x s) := h.results hs rfl

theorem bitsR (h : Completing P Q) {f : Word → Nat → Nat → Word → Word} {o : BitR} {x : Ext} (hs : P s) :
    Ends P Q (Machine.bitsR f o x s) := h.results hs rfl

theorem bitsI (h : Completing P Q) {f : Word → Nat → Nat → Word → Word} {o : BitI} {x : Ext} (hs : P s) :
    Ends P Q (Machine.bitsI f o x s) := h.results hs rfl

theorem flt1 (h : Completing P Q) {f : Word → Word} {o : F1} {x : Ext} (hs : P s) : Ends P Q (Machine.flt1 f o x s) :=
  h.results hs rfl

theorem slide (h : Completing P Q) {f : (w : Nat) → Nat → Nat → (Nat → BitVec w) → Nat → BitVec w} {z : Size} {rt : Reg}
    {st : Bool} {ra : Reg} {sa : Bool} {amt : State → Nat} {x : Ext} (hs : P s) :
    Ends P Q (Machine.slide f z rt st ra sa amt x s) := h.results hs rfl

theorem flt2 (h : Completing P Q) {g : Word → Word → State → Acc Word} {o : F2} {x : Ext}
    (hg : ∀ a b t, P t → (g a b t).Leaves P P) (hs : P s) : Ends P Q (Machine.flt2 g o x s) :=
  h.runExt hs ((h.floatTail _ hs).bind fun _ _ ht => h.alu (fun _ u hu => hg _ _ u hu) ht)

theorem fltI (h : Completing P Q) {g : Word → Word → State → Acc Word} {o : FI} {x : Ext}
    (hg : ∀ a b t, P t → (g a b t).Leaves P P) (hs : P s) : Ends P Q (Machine.fltI g o x s) :=
  h.runExt hs ((h.floatConst _ _ hs).bind fun _ _ ht => h.alu (fun _ u hu => hg _ _ u hu) ht)

theorem fltSet (h : Completing P Q) {k : Nat} {o : F2} {x : Ext} (hs : P s) : Ends P Q (Machine.fltSet k o x s) :=
  h.flt2 (fun _ _ _ ht => ht) hs

theorem supplied (h : Completing P Q) {op : CryptoOp} {run : State → Host.Outcome State Fault Refusal} (hs : P s)
    (hr : Ends P Q (run s)) : Ends P Q (Machine.supplied op run s) := .ite hr (h.unimplemented hs)

theorem crypto1 (h : Completing P Q) {op : CryptoOp} {o : R1} {x : Ext} (hs : P s) :
    Ends P Q (Machine.crypto1 op o x s) :=
  h.supplied hs (h.runExt hs (h.alu (fun _ _ ht => Working.cryptoResult _ _ _ _ ht) hs))

theorem crypto2 (h : Completing P Q) {op : CryptoOp} {o : R2} {x : Ext} (hs : P s) :
    Ends P Q (Machine.crypto2 op o x s) :=
  h.supplied hs (h.r2M (fun _ _ _ _ ht => Working.cryptoResult _ _ _ _ ht) hs)

theorem csrOp (h : Completing P Q) {new : CsrNew} {rt : Reg} {st : Bool} {n : BitVec 14} {v : Word} (hs : P s) :
    (Machine.csrOp new rt st n v s).Leaves P Q := by
  have hdrawn : ∀ c : Csr, P (if c = .seed then { s with draws := s.draws + 1 } else s) := by
    intro c
    split
    · exact h.tlbDraws s.tlb _ hs
    · exact hs
  refine .ite hs ?_
  simp only [csrRead, Acc.bind]
  split
  · exact h.csrWrite _ _ (h.setReg rt _ (hdrawn _))
  · exact h.weaken (h.setReg rt _ (hdrawn _))

theorem csrR (h : Completing P Q) {new : CsrNew} {o : CsrR} {x : Ext} (hs : P s) : Ends P Q (Machine.csrR new o x s) :=
  h.runExtTo hs (h.csrOp hs)

theorem csrI (h : Completing P Q) {new : CsrNew} {o : CsrI} {x : Ext} (hs : P s) : Ends P Q (Machine.csrI new o x s) :=
  h.runExtTo hs (h.csrOp hs)

theorem setRegAfter (h : Completing P Q) (r : Reg) (v : Word) (hs : Q s) : Q (s.setReg r v) := by
  rw [State.setReg_eq]; exact h.regsAfter _ _ _ _ _ _ hs

theorem rteOp (h : Completing P Q) (d : Nat) (o : RteOp) (hs : P s) : (Machine.rteOp d o s).Leaves P Q := by
  refine Acc.Leaves.bind (R := Q) ?_ fun _ _ ht => h.setRegAfter _ _ ht
  cases hr : rteState d o.skip s with
  | ok a t => exact h.rte hs hr
  | trap e t =>
    obtain ⟨-, ht⟩ : e = .privilege ∧ t = s := by
      simp only [rteState] at hr
      split at hr
      · cases hr; exact ⟨rfl, rfl⟩
      · cases hr
    exact ht ▸ hs
  | refuse r => trivial

theorem branchDecimal (h : Completing P Q) (n : Nat) (t : Tail) (hs : P s) : Ends P Q (Machine.branchDecimal n t s) :=
  .ite (h.unimplemented hs) (.ite (.refused _) (h.skip _ hs))

theorem branchInt (h : Completing P Q) {n : Nat} {c : BitVec 4} {rm rn : Reg} {disp : Addr} {t : Tail} (hs : P s) :
    Ends P Q (Machine.branchInt n c rm rn disp t s) := h.runTail hs hs

theorem branchBit (h : Completing P Q) {n : Nat} {c : BitVec 4} {rm : Reg} {k : BitVec 6} {disp : Addr} {t : Tail}
    (hs : P s) : Ends P Q (Machine.branchBit n c rm k disp t s) := h.runTail hs hs

theorem branchFlt (h : Completing P Q) {n : Nat} {c : BitVec 4} {rm rn : Reg} {disp : Addr} {t : Tail} (hs : P s) :
    Ends P Q (Machine.branchFlt n c rm rn disp t s) :=
  h.runTail hs ((h.floatTail _ hs).bind fun _ _ ht => ht)

theorem branchLink (h : Completing P Q) {n : Nat} {lr : BitVec 2} {disp : Addr} {t : Tail} (hs : P s) :
    Ends P Q (Machine.branchLink n lr disp t s) := h.runTail hs (h.setReg _ _ hs)

theorem rtdReg (h : Completing P Q) {o : RtdR} {rt : Reg} {st : Bool} {t : Tail} (hs : P s) :
    Ends P Q (Machine.rtdReg o rt st t s) := h.runTail hs (h.setReg _ _ hs)

theorem rtdImm (h : Completing P Q) {o : RtdI} {rt : Reg} {st : Bool} {t : Tail} (hs : P s) :
    Ends P Q (Machine.rtdImm o rt st t s) := h.runTail hs (h.setReg _ _ hs)

theorem trapOp (h : Completing P Q) (n : BitVec 9) (rt : Reg) (data : Word) (t : Tail) (hs : P s) :
    Ends P Q (Machine.trapOp n rt data t s) :=
  .ite (.enter (h.flow (s.setReg rt data).pc .trap (s.setReg rt data).ir (h.setReg rt data hs))) (h.skip _ hs)

theorem loadDisp (h : Completing P Q) {n w : Nat} {get : Get} (hg : ∀ a t, P t → (get a t).Leaves P P) (o : MemD) (x : Ext)
    (hs : P s) : Ends P Q (Machine.loadDisp n w get o x s) :=
  h.runExt hs (.ite (h.alu (fun _ t ht => hg _ t ht) hs) (h.loadScalar hg _ _ _ hs))

theorem loadIndexed (h : Completing P Q) {n w : Nat} {get : Get} (hg : ∀ a t, P t → (get a t).Leaves P P) (o : MemX)
    (x : Ext) (hs : P s) : Ends P Q (Machine.loadIndexed n w get o x s) := by
  refine h.runExt hs (.ite ((h.eaIndexed o n _ hs).bind fun ea _ h1 =>
    (h.loadScalar hg _ _ ea.1 h1).bind fun _ t h2 => ?_) (h.alu (fun _ t ht => hg _ t ht) hs))
  show P (if o.rt = o.rc then t else t.setIndex o.rc ea.2)
  split
  · exact h2
  · exact h.setIndex _ _ h2

theorem storeDisp (h : Completing P Q) {n w : Nat} {put : Put} {v : State → Word}
    (hp : ∀ a v t, P t → (put a v t).Leaves P P) (o : MemD) (x : Ext) (hs : P s) :
    Ends P Q (Machine.storeDisp n w put v o x s) :=
  h.runExt hs (.ite (h.storeVec hp hs) (Working.storeScalar hp _ _ _ hs))

theorem storeIndexed (h : Completing P Q) {n w : Nat} {put : Put} {v : State → Word}
    (hp : ∀ a v t, P t → (put a v t).Leaves P P) (o : MemX) (x : Ext) (hs : P s) :
    Ends P Q (Machine.storeIndexed n w put v o x s) :=
  h.runExt hs (.ite ((h.eaIndexed o n _ hs).bind fun _ _ h1 =>
    (Working.storeScalar hp _ _ _ h1).bind fun _ _ h2 => h.setIndex _ _ h2) (h.storeVec hp hs))

theorem stptr (h : Completing P Q) (z : Size) (o : MemD) (x : Ext) (hs : P s) : Ends P Q (Machine.stptr z o x s) :=
  h.runExt hs (Working.storeScalar (h.putLow z) _ _ _ hs)

theorem stptrX (h : Completing P Q) (z : Size) (o : MemX) (x : Ext) (hs : P s) : Ends P Q (Machine.stptrX z o x s) :=
  h.runExt hs ((h.eaIndexed o _ _ hs).bind fun _ _ h1 =>
    (Working.storeScalar (h.putLow z) _ _ _ h1).bind fun _ _ h2 => h.setIndex _ _ h2)

theorem amoR (h : Completing P Q) {f : (w : Nat) → BitVec w → BitVec w → BitVec w} {o : AmoR} {x : Ext} (hs : P s) :
    Ends P Q (Machine.amoR f o x s) := h.runExt hs (h.amo _ _ _ _ hs)

theorem amoI (h : Completing P Q) {f : (w : Nat) → BitVec w → BitVec w → BitVec w} {o : AmoI} {x : Ext} (hs : P s) :
    Ends P Q (Machine.amoI f o x s) := h.runExt hs (h.amo _ _ _ _ hs)

/-- Every instruction that answers in a state of which `P` holds leaves `Q`, or takes an exception from `P`. -/
theorem exec (h : Completing P Q) (i : Instr) (hs : P s) : Ends P Q (Machine.exec i s) := by
  unfold Machine.exec
  cases i with
  -- results that are functions of the operands
  | mulh | muluh | and | nand | or | nor | eor | enor | vandVV | vandVS | bmap | clmul | seq | sne => exact h.r2 hs
  | slt | sge | sle | sgt | sltu | sgeu | sleu | sgtu => exact h.r2Swap hs
  | andi | nandi | ori | nori | eori | enori | vandImm | bmapImm | clmulImm => exact h.ri hs
  | abs | cntlz | cntlo | cntpop | revbit | sqrt => exact h.r1 hs
  | sha256sig0 | sha256sig1 | sha256sum0 | sha256sum1 => exact h.sha32 hs
  | sha512sig0 | sha512sig1 => exact h.sha64 hs
  | cmp | cmpsB => exact h.r2M (fun _ _ _ _ ht => ht) hs
  | cmpi => exact h.riM (fun _ _ _ _ ht => ht) hs
  | chrndx | chrndxImm => exact h.chrndxOp hs
  | asl | asr | lsl | lsland | lslor | lslxor | lsr | rol | ror => exact h.shiftR hs
  | aslImm | asrImm | lslImm | lslandImm | lslorImm | lslxorImm | lsrImm | rolImm | rorImm => exact h.shiftI hs
  | clr | set | com | sbx | extu | exts | dep => exact h.bitsR hs
  | clrImm | setImm | comImm | sbxImm | extuImm | extsImm | depImm => exact h.bitsI hs
  | vshlv | vshrv | vshlvi | vshrvi => exact h.slide hs
  | fabs | fneg | ftrunc => exact h.flt1 hs
  | fscaleb | fscalebImm => exact h.results hs rfl
  -- sums, products, quotients and remainders, which may leave a carry, trap or draw
  | add | vaddVV | vaddVS => exact h.r2M (fun w a b _ ht => h.addOp _ _ w a b ht) hs
  | addi | vaddImm => exact h.riM (fun w a b _ ht => h.addOp _ _ w a b ht) hs
  | sub => exact .ite (h.r2M (fun w a b _ ht => h.addCarry _ _ w a b ht) hs) (h.r2 hs)
  | mul | mulu | mulsu => exact h.r2M (fun w a b _ ht => h.mulOp _ _ _ w a b ht) hs
  | muli | mului => exact h.riM (fun w a b _ ht => h.mulOp _ _ _ w a b ht) hs
  | div | divu | divsu => exact h.r2M (fun w a b _ ht => h.divCarry _ _ _ w a b ht) hs
  | divi => exact h.riM (fun w a b _ ht => .ite (h.divCarry _ _ _ w b a ht) (h.divCarry _ _ _ w a b ht)) hs
  | mod | modu => exact h.r2M (fun w a b _ ht => h.modOp _ _ w a b ht) hs
  | chk | chki => exact h.runExt hs (h.chkAll _ _ _ _ hs)
  -- floating point
  | fadd | fsub | fmul | fdiv => exact h.flt2 (fun a b _ ht => h.fltOp _ _ _ a b ht) hs
  | faddi | fmuli => exact h.fltI (fun a b _ ht => h.fltOp _ _ _ a b ht) hs
  | fdivi =>
    refine h.fltI (fun a b t ht => ?_) hs
    split
    · exact h.fltOp _ _ _ b a ht
    · exact h.fltOp _ _ _ a b ht
  | fcmp => exact h.flt2 (fun _ _ _ ht => ht) hs
  | fseq | fsne | fsle | fslt | fsge | fsgt => exact h.fltSet hs
  | fcmpi => exact h.fltI (fun _ _ _ ht => ht) hs
  | orf => exact h.runExt hs ((h.floatConst _ _ hs).bind fun _ _ ht => h.alu (fun _ _ hu => hu) ht)
  -- vectors and cryptography
  | v2bits => exact h.runExt hs (h.setReg _ _ (h.setVrm _ hs))
  | sha512sum0 | sha512sum1 => exact h.supplied hs (h.sha64 hs)
  | sm3p0 | sm3p1 => exact h.supplied hs (h.sha32 hs)
  | aes64ds | aes64dsm | aes64es | aes64esm => exact h.crypto1 hs
  | sm4ed | sm4ks => exact h.crypto2 hs
  -- control registers
  | csrrd | csrwr | csrrs | csrrc | csreor | setvl => exact h.csrR hs
  | csrrdImm | csrwrImm | csrrsImm | csrrcImm | csreorImm | setvlImm => exact h.csrI hs
  | getvl => exact h.runExtTo hs (h.csrOp hs)
  | cpuid | cpuidImm => exact h.runExt hs (h.setReg _ _ hs)
  -- modifiers, and what only advances the program counter
  | pred | atom | round => exact h.runTail hs (h.win _ hs fun hw => hw)
  | carry => exact h.runTail hs (h.win _ hs fun _ hn => absurd hn (Option.some_ne_none _))
  | rep => exact h.runTail hs (.ite hs (h.repbuf _ hs))
  | nop => exact h.runTail hs hs
  | pfx0 | pfx1 | pfx2 | regs => exact h.loneNop _ hs
  -- branches
  | beq | bne | blt | ble | bge | bgt | bbc | bbs | bltu | bleu | bgeu | bgtu | lbeq | lbne | lblt | lble | lbge | lbgt
  | lbbc | lbbs | lbltu | lbleu | lbgeu | lbgtu => exact h.branchInt hs
  | bbcImm | bbsImm | lbbcImm | lbbsImm => exact h.branchBit hs
  | bra | lbra => exact h.runTail hs hs
  | fbeq | fbne | fbgt | fbugt | fbge | fbuge | fblt | fbult | fble | fbule | fbgl | fbugl | fbord | fbun | lfbeq | lfbne
  | lfbgt | lfbugt | lfbge | lfbuge | lfblt | lfbult | lfble | lfbule | lfbgl | lfbugl | lfbord | lfbun =>
    exact h.branchFlt hs
  | bsr | lbsr => exact h.branchLink hs
  | dbcc => exact h.runTail hs (h.setReg _ _ hs)
  | dbccFloat => exact h.runTail hs ((h.floatTail _ hs).bind fun _ _ ht => h.setReg _ _ ht)
  | dfbcc | ldfbcc | dbccDecimal => exact h.branchDecimal _ _ hs
  -- jumps and returns, exceptions
  | jmp | jmpIdx | jsr | jsrIdx => exact h.runTail hs (h.setReg _ _ hs)
  | rtdReg | rtsReg => exact h.rtdReg hs
  | rtdImm | rtsImm => exact h.rtdImm hs
  | jmpInd | jmpIdxInd | jsrInd | jsrIdxInd => exact h.runTail hs (h.jumpInd _ _ _ _ _ hs)
  | braTable | bsrTable => exact h.runTail hs (h.tableJump _ _ _ hs)
  | rte1 | rte2 => exact h.runTailTo hs (h.rteOp _ _ hs)
  | brk | trapRa | trapImm => exact h.trapOp _ _ _ _ hs
  -- loads and stores
  | load => exact h.loadDisp (h.getSigned _) _ _ hs
  | loadz => exact h.loadDisp (h.getZero _) _ _ hs
  | loadX => exact h.loadIndexed (h.getSigned _) _ _ hs
  | loadzX => exact h.loadIndexed (h.getZero _) _ _ hs
  | fload => exact h.loadDisp (h.getFloat _) _ _ hs
  | floadX => exact h.loadIndexed (h.getFloat _) _ _ hs
  | la => exact h.runExt hs (h.setReg _ _ hs)
  | laX => exact h.runExt hs ((h.eaIndexed _ _ _ hs).bind fun _ _ ht => h.setReg _ _ (h.setIndex _ _ ht))
  | loadg => exact h.runTail hs ((h.memRead _ _ hs).bind fun _ _ ht => h.loadGroup _ _ _ ht)
  | loadgX =>
    exact h.runTail hs ((h.eaIndexed _ _ _ hs).bind fun _ _ h1 =>
      (h.memRead _ _ h1).bind fun _ _ h2 => h.loadGroup _ _ _ (h.setIndex _ _ h2))
  | store => exact h.storeDisp (h.putLow _) _ _ hs
  | storeX => exact h.storeIndexed (h.putLow _) _ _ hs
  | fstore => exact h.storeDisp (h.putFloat _) _ _ hs
  | fstoreX => exact h.storeIndexed (h.putFloat _) _ _ hs
  | stptrT | stptrO | stptrH => exact h.stptr _ _ _ hs
  | stptrTX | stptrOX | stptrHX => exact h.stptrX _ _ _ hs
  | storeg => exact h.runTail hs (h.memWrite _ _ _ hs).map
  | storegX =>
    exact h.runTail hs ((h.eaIndexed _ _ _ hs).bind fun _ _ h1 =>
      (h.memWrite _ _ _ h1).bind fun _ _ h2 => h.setIndex _ _ h2)
  | storePair => exact h.runExt hs ((h.putLow _ _ _ _ hs).bind fun _ t ht => (h.putLow _ _ _ t ht).map)
  | cache | cacheX => exact h.runExt hs (h.cacheCommand _ _ hs)
  -- atomic operations and block instructions
  | cmpxchg => exact h.runExt hs (h.amo _ _ _ _ hs)
  | ammin | amadd | amasl | amlsr | amand | amor | ameor | amminu => exact h.amoR hs
  | amaddImm | amaslImm | amlsrImm | amandImm | amorImm | ameorImm => exact h.amoI hs
  | bcmp =>
    exact h.runExt hs (Working.blockOp (fun _ h1 => (h.memRead _ _ h1).bind fun _ _ h2 => (h.memRead _ _ h2).bind
      fun _ _ h3 => .ite (h.endIteration (h.adjust _ _ (h.adjust _ _ h3))) h3) hs)
  | bfnd =>
    exact h.runExt hs (Working.blockOp (fun _ h1 => (h.memRead _ _ h1).bind
      fun _ _ h2 => .ite h2 (h.endIteration (h.adjust _ _ h2))) hs)
  | bmov =>
    exact h.runExt hs (Working.blockOp (fun _ h1 => (h.memRead _ _ h1).bind fun _ _ h2 => (h.memWrite _ _ _ h2).bind
      fun _ _ h3 => h.endIteration (h.adjust _ _ (h.adjust _ _ h3))) hs)
  | bset =>
    exact h.runExt hs (Working.blockOp (fun _ h1 => (h.putLow _ _ _ _ h1).bind
      fun _ _ h2 => h.endIteration (h.adjust _ _ h2)) hs)
  -- instructions without an operation
  | dif | ptrdif | revbitMap | bits2v | vex | veins | vgndx | sgeuMap | sgtuMap | min | max | bmm | mux | aes64ks1i
  | aes64ks2 | aes64im | fmin | fmax | fnxt | frem | ftoi | itof | fsign | fsig | fsqrt | fs2d | fs2q | fd2q | isnan
  | finite | fres | fd2s | fq2s | fq2d | fclass | fma | bitrr | amswap | ammax | ammaxu | amcas | amswapImm | amminImm
  | ammaxImm | amminuImm | ammaxuImm | amcasImm | pbcc | lpbcc | dbccPosit => exact h.unimplemented hs

end Completing

end Sys2Proof.Machine

/-! Fetching an instruction, and a step of the core: the implementation parameters and M_TICK stay (00_scope R8; 70_reset R850). -/

namespace Sys2Proof.Machine

section
variable {P Q : State → Prop} {s : State}

namespace Working

theorem fetchPiece (h : Working P) (va : Addr) (n : Nat) (hs : P s) : (Machine.fetchPiece va n s).Leaves P P :=
  (h.locate _ _ _ n hs).bind fun _ _ ht => .ite ht (.ite trivial ht)

theorem fetchBytes (h : Working P) (va : Addr) (n : Nat) (hs : P s) : (Machine.fetchBytes va n s).Leaves P P :=
  .ite (h.fetchPiece va n hs) ((h.fetchPiece va _ hs).bind fun _ _ ht => h.fetchPiece _ _ ht)

theorem fetchRun (h : Working P) (fuel : Nat) (va : Addr) (hs : P s) : (Machine.fetchRun fuel va s).Leaves P P := by
  induction fuel generalizing va s with
  | zero => exact hs
  | succ fuel ih =>
    unfold Machine.fetchRun
    split
    · exact (h.fetchBytes va 5 hs).bind fun _ _ ht => ih _ ht
    · exact (h.fetchBytes va 5 hs).bind fun _ _ ht => ih _ ht
    · exact (h.fetchBytes va 5 hs).bind fun _ _ ht => ih _ ht
    · exact h.fetchBytes va 9 hs
    · exact hs

theorem fetchRest (h : Working P) (r : Dec) (va : Addr) (hs : P s) : (Machine.fetchRest r va s).Leaves P P := by
  unfold Machine.fetchRest
  split
  · exact h.fetchRun _ va hs
  · exact hs

theorem fetch (h : Working P) (hs : P s) : (Machine.fetch s).Leaves P P := by
  unfold Machine.fetch
  split
  · exact (h.fetchBytes _ _ (h.flow s.pc s.retire _ hs)).bind fun _ _ ht => ht
  · exact (h.fetchBytes _ _ (h.flow s.pc s.retire _ hs)).bind fun _ _ ht =>
      (h.fetchRest _ _ ht).bind fun _ _ hu => h.tlbDraws _ _ hu

theorem repAfter (h : Working P) (jumped : Bool) (hs : P s) : P (Machine.repAfter jumped s) := by
  have hback : ∀ {u : State} (b : RepBuf) (pc : Addr), P u → P { u with repbuf := b, pc := pc } :=
    fun {u} b pc hu => h.flow (s := { u with repbuf := b }) pc u.retire u.ir (h.repbuf b hu)
  refine iteInduction (motive := P) (fun _ => h.repbuf _ hs) fun _ =>
    iteInduction (motive := P) (fun _ => h.repbuf _ hs) fun _ =>
      iteInduction (motive := P) (fun _ => ?_) fun _ => ?_
  · exact hback _ _ (h.setReg 55 _ hs)
  · exact h.repbuf _ (h.setReg 55 _ hs)

end Working

/-- A word that is no instruction takes an exception, or only advances the program counter. -/
theorem Completing.reject (h : Completing P Q) (len : Nat) (r : Reject) (hs : P s) : Ends P Q (Machine.reject len r s) := by
  cases r with
  | malformed => exact .enter (h.flow s.pc .fault s.ir hs)
  | reserved => exact h.unimplemented hs
  | decimal m => exact .ite (h.unimplemented hs) (.ite (.refused _) (h.skip _ hs))

/-- What fetching, decoding and executing one instruction leaves, both of the state it was executed in and after it. -/
theorem Completing.runOne (h : Completing P Q) {t u : State} (hs : P s) (hr : Machine.runOne s = (t, .next u)) :
    P t ∧ (Q u ∨ Entered P u) := by
  have hf := h.fetch hs
  unfold Machine.runOne at hr
  split at hr
  · rename_i n i t' he
    rw [he] at hf
    obtain ⟨rfl, hx⟩ := Prod.mk.inj hr
    exact ⟨hf, h.exec i hf u hx⟩
  · rename_i n r t' he
    rw [he] at hf
    obtain ⟨rfl, hx⟩ := Prod.mk.inj hr
    exact ⟨hf, h.reject n r hf u hx⟩
  · rename_i e t' he
    rw [he] at hf
    obtain ⟨rfl, hx⟩ := Prod.mk.inj hr
    exact ⟨hf, .inr ⟨_, _, _, _, h.flow t'.pc .fault t'.ir hf, hx⟩⟩
  · cases hr

end

/-- The implementation parameters are `p` and M_TICK is `k`. -/
def State.Timed (p : Params) (k : BitVec 64) (s : State) : Prop := s.params = p ∧ s.tick = k

section
variable {p : Params} {k : BitVec 64} {s t : State}

theorem State.csrWrite_params_tick (s : State) (c : Csr) (v : Word) :
    (s.csrWrite c v).params = s.params ∧ (s.csrWrite c v).tick = s.tick := by
  cases c <;> exact ⟨rfl, rfl⟩

theorem rteState_params_tick {d : Nat} {q : BitVec 7} {a : Addr} (h : rteState d q s = .ok a t) :
    t.params = s.params ∧ t.tick = s.tick := by
  simp only [rteState] at h
  split at h
  · cases h
  · injection h with _ ht
    rw [← ht]
    exact ⟨rfl, rfl⟩

/-- No instruction writes the parameters or M_TICK while it works, nor when it completes. -/
theorem timed_completing : Completing (State.Timed p k) (State.Timed p k) where
  regs _ _ _ _ _ _ h := h
  vectors _ _ _ h := h
  tlbDraws _ _ h := h
  units _ _ _ h := h
  mem _ _ _ h _ := h
  win _ h _ := h
  repbuf _ h := h
  flow _ _ _ h := h
  weaken h := h
  csrWrite {s} c v h := by
    obtain ⟨hp, ht⟩ := s.csrWrite_params_tick c v
    exact ⟨hp.trans h.1, ht.trans h.2⟩
  rte h hr := by
    obtain ⟨hp, ht⟩ := rteState_params_tick hr
    exact ⟨hp.trans h.1, ht.trans h.2⟩
  regsAfter _ _ _ _ _ _ h := h
  flowAfter _ _ h := h

theorem State.Timed.enter {e : Entry} {vec : BitVec 9} {epc : Addr} {bad : Option Addr} (hs : s.Timed p k)
    (ht : Machine.enter e vec epc bad s = .next t) : t.Timed p k := by
  have hu : (enterState e vec epc bad s).Timed p k := hs
  have hread := timed_completing.memReadAs .read (vectorEntry vec (enterState e vec epc bad s)).2
    (vectorEntry vec (enterState e vec epc bad s)).1 8 hu
  simp only [Machine.enter] at ht
  split at ht
  · rename_i he
    rw [he] at hread
    injection ht with ht
    exact ht ▸ hread
  · rename_i he
    rw [he] at hread
    injection ht with ht
    exact ht ▸ hread
  · cases ht

theorem State.Timed.settle (s : State) (ht : t.Timed p k) : (Machine.settle s t).Timed p k :=
  have hdone : ∀ w d, State.Timed p k { t with win := w, traceDue := d } := fun _ _ => ht
  iteInduction (motive := State.Timed p k)
    (fun _ => iteInduction (motive := State.Timed p k) (fun _ => timed_completing.repAfter _ (hdone _ _)) fun _ => hdone _ _)
    fun _ => iteInduction (motive := State.Timed p k) (fun _ => ht) fun _ =>
      iteInduction (motive := State.Timed p k) (fun _ => ht) fun _ => ht

theorem State.Timed.coreStep (hs : s.Timed p k) (ht : Machine.coreStep s = .next t) : t.Timed p k := by
  unfold Machine.coreStep at ht
  split at ht
  · exact hs.enter ht
  · split at ht
    · exact hs.enter ht
    · split at ht
      · rename_i u v hr
        injection ht with ht
        have hv : v.Timed p k := by
          obtain ⟨-, hv | ⟨vec, epc, bad, w, hw, he⟩⟩ := timed_completing.runOne hs hr
          · exact hv
          · exact hw.enter he
        exact ht ▸ hv.settle u
      · rename_i hne _
        subst ht
        exact (hne _ rfl).elim

/-- The reset input keeps the parameters, whatever M_TICK was. -/
theorem resetStep_params (ht : resetStep s = .next t) : t.params = s.params := by
  have hread : ((memReadAs .read 3 0 8 s.afterReset).bind fun sp t => (memReadAs .read 3 8 8 t).bind fun pc t =>
      Acc.ok () { t with msp := .ofNat 128 sp, pc := .ofNat 64 pc }).Leaves (State.Timed s.params 0)
        (State.Timed s.params 0) :=
    (timed_completing.memReadAs .read 3 0 8 (s := s.afterReset) ⟨rfl, rfl⟩).bind fun _ _ h1 =>
      (timed_completing.memReadAs .read 3 8 8 h1).bind fun _ _ h2 => h2
  simp only [resetStep] at ht
  split at ht
  · injection ht with ht
    exact ht ▸ rfl
  · split at ht
    · rename_i he
      rw [he] at hread
      injection ht with ht
      exact ht ▸ hread.1
    · rename_i he
      rw [he] at hread
      injection ht with ht
      exact ht ▸ hread.1
    · cases ht

end

end Sys2Proof.Machine

/-! What the MMU may change before a step (20_memory R124 to R126, R174; log 12). -/

namespace Sys2Proof.Machine

/-- The address of the page management table entry of the page at `va` under the translation `pte` (20_memory R124). -/
def State.pmteOf (s : State) (pte : BitVec 96) (big : Bool) (va : Addr) : Nat :=
  let pa := (if big then (pte.extractLsb' 42 54).toNat * 2 ^ 24 + va.toNat % 2 ^ 24
    else (pte.extractLsb' 32 64).toNat * 2 ^ 14 + va.toNat % 2 ^ 14) % 2 ^ s.params.paBits
  let region : Fin 8 := (pte.extractLsb' 23 3).toFin
  (s.regions[region.val].pmt.toNat + 16 * ((pa - s.params.regionRange[region.val].1) / 16384)) % 2 ^ s.params.paBits

/-- The page at `va` is in the super page a translation gives (20_memory R147). -/
def insideSuper (pte : BitVec 96) (big : Bool) (va : Addr) : Prop :=
  big = true → (va.extractLsb' 14 10).toNat ≤ (pte.extractLsb' 32 10).toNat

/-- `p` is the address of the page management table entry of a page that has a translation, in the TLB or in the page tables
(20_memory R126). -/
def State.Managed (s : State) (p : Nat) : Prop :=
  (∃ slot va, (s.tlb.get slot).pte.getLsbD 31 = true ∧ (s.tlb.get slot).count = s.tlb.count ∧
    insideSuper (s.tlb.get slot).pte (slot / 1024 == 4) va ∧ p = s.pmteOf (s.tlb.get slot).pte (slot / 1024 == 4) va) ∨
  ∃ asid va h, s.walk asid va = some h ∧ insideSuper h.pte h.big va ∧ p = s.pmteOf h.pte h.big va

/-- The byte at `a` may become `b` by the MMU: bit M of an entry is set in it, or it is a byte of AccessCount (20_memory
R125). -/
def State.MmuByte (s : State) (a : Nat) (b : Byte) : Prop :=
  ∃ p, s.Managed p ∧ (a = p + 3 ∧ b = s.byte a ||| 0x20 ∨ p + 8 ≤ a ∧ a < p + 12)

/-- `t` is `s` after writes of the MMU, to memory only. -/
structure State.MmuWrote (s t : State) : Prop where
  frame : t = { s with mem := t.mem, draws := t.draws }
  wf : Memory.wf t.mem = true
  byte : ∀ a, t.byte a = s.byte a ∨ (s.claimed a = true ∧ s.device a = none ∧ s.MmuByte a (t.byte a))

variable {s t : State}

/-- Where the model finds the page management table entry of a page is where R124 of 20_memory has it. -/
theorem State.pmteAddr_entryPhys {e : TlbEntry} {way : Nat} {va : Addr} {pa : Nat} (h : entryPhys e way va = some pa) :
    s.pmteAddr e (s.phys pa) = s.pmteOf e.pte (way == 4) va ∧ insideSuper e.pte (way == 4) va := by
  have hr : entryRgn e < 8 := (e.pte.extractLsb' 23 3).isLt
  have hat : s.pmteAddr e (s.phys pa) = (s.regions[entryRgn e].pmt.toNat +
      16 * ((pa % 2 ^ s.params.paBits - s.params.regionRange[entryRgn e].1) / 16384)) % 2 ^ s.params.paBits := by
    simp only [State.pmteAddr, State.phys, Vector.getElem?_eq_getElem hr]
  rw [hat]
  unfold entryPhys at h
  by_cases h4 : way = 4
  · rw [if_pos h4] at h
    obtain ⟨hin, hpa⟩ := Option.ite_none_right_eq_some.1 h
    have hval : pa = (e.pte.extractLsb' 42 54).toNat * 2 ^ 24 + va.toNat % 2 ^ 24 := by
      rw [← Option.some.inj hpa, BitVec.toNat_append, ← Nat.shiftLeft_add_eq_or_of_lt (BitVec.isLt _), Nat.shiftLeft_eq]
      simp
    subst h4 hval
    exact ⟨rfl, fun _ => hin⟩
  · rw [if_neg h4] at h
    have hval : pa = (e.pte.extractLsb' 32 64).toNat * 2 ^ 14 + va.toNat % 2 ^ 14 := by
      rw [← Option.some.inj h, BitVec.toNat_append, ← Nat.shiftLeft_add_eq_or_of_lt (BitVec.isLt _), Nat.shiftLeft_eq]
      simp
    have hb : (way == 4) = false := by simpa using h4
    subst hval
    rw [hb]
    exact ⟨rfl, fun hf => absurd hf Bool.false_ne_true⟩

/-- The entries the MMU writes to are those of pages that have a translation. -/
theorem State.mmuPmte_managed {page : MmuPage} {p : Nat} (h : s.mmuPmte page = some p) : s.Managed p := by
  obtain ⟨⟨e, pa⟩, he, rfl⟩ := Option.map_eq_some_iff.1 h
  cases page with
  | entry slot page =>
    simp only [State.mmuEntry] at he
    obtain ⟨hlive, he⟩ := Option.ite_none_right_eq_some.1 he
    obtain ⟨hvalid, hcount⟩ := Bool.and_eq_true_iff.1 hlive
    obtain ⟨pa', hpa, heq⟩ := Option.map_eq_some_iff.1 he
    obtain ⟨rfl, rfl⟩ := Prod.mk.inj heq
    obtain ⟨haddr, hin⟩ := s.pmteAddr_entryPhys hpa
    exact .inl ⟨slot, _, hvalid, eq_of_beq hcount, hin, haddr⟩
  | table asid va =>
    obtain ⟨hit, hw, he⟩ := Option.bind_eq_some_iff.1 he
    obtain ⟨pa', hpa, heq⟩ := Option.map_eq_some_iff.1 he
    obtain ⟨rfl, rfl⟩ := Prod.mk.inj heq
    obtain ⟨haddr, hin⟩ := s.pmteAddr_entryPhys hpa
    have hway : ((if hit.big then 4 else 0) == 4) = hit.big := by cases hit.big <;> rfl
    rw [hway] at haddr hin
    exact .inr ⟨asid, va, hit, hw, hin, haddr⟩

/-- A write of bytes that the MMU may write. -/
theorem State.MmuWrote.agentWrite (h : s.MmuWrote t) {pa : Nat} {bs : List Byte}
    (hb : ∀ i (hi : i < bs.length), s.MmuByte (pa + i) bs[i]) : s.MmuWrote (t.agentWrite pa bs) := by
  obtain ⟨⟨m, hm, hwf⟩, hbyte⟩ := t.agentWrite_spec pa bs h.wf
  have hclaimed : ∀ a, t.claimed a = s.claimed a ∧ t.device a = s.device a := by
    rw [h.frame]
    exact fun _ => ⟨rfl, rfl⟩
  refine ⟨?_, by rw [hm]; exact hwf, fun a => ?_⟩
  · rw [hm, h.frame]
  · rcases hbyte a with hsame | ⟨i, hi, rfl, hc, hd, hnew⟩
    · rw [hsame]
      exact h.byte a
    · rw [hnew]
      exact .inr ⟨(hclaimed _).1 ▸ hc, (hclaimed _).2 ▸ hd, hb i hi⟩

/-- Setting bit M once more leaves what setting it once does. -/
theorem State.MmuWrote.setM (h : s.MmuWrote t) {p : Nat} (hp : s.Managed p) :
    s.MmuByte (p + 3) (t.byte (p + 3) ||| 0x20) := by
  rcases h.byte (p + 3) with hsame | ⟨-, -, q, hq, ⟨-, hset⟩ | hcount⟩
  · exact ⟨p, hp, .inl ⟨rfl, by rw [hsame]⟩⟩
  · exact ⟨p, hp, .inl ⟨rfl, by rw [hset, BitVec.or_assoc, BitVec.or_self]⟩⟩
  · exact ⟨q, hq, .inr hcount⟩

/-- One move of the MMU. -/
theorem State.MmuWrote.move (h : s.MmuWrote t) (mv : MmuMove) : s.MmuWrote (s.mmuMove t mv) := by
  unfold State.mmuMove
  split
  · exact h
  · rename_i p hpage
    have hp := State.mmuPmte_managed hpage
    have hM : s.MmuWrote (if mv.setM then t.agentWrite (p + 3) [t.byte (p + 3) ||| 0x20] else t) := by
      split
      · refine h.agentWrite fun i hi => ?_
        obtain rfl : i = 0 := by simpa using hi
        exact h.setM hp
      · exact h
    refine hM.agentWrite fun i hi => ?_
    rw [toBytes_length] at hi
    exact ⟨p, hp, .inr ⟨by omega, by omega⟩⟩

theorem State.agentWrite_frame (s : State) (pa : Nat) (bs : List Byte) :
    s.agentWrite pa bs = { s with mem := (s.agentWrite pa bs).mem } := by
  unfold State.agentWrite
  split <;> rfl

theorem State.mmuMove_frame (s t : State) (mv : MmuMove) : s.mmuMove t mv = { t with mem := (s.mmuMove t mv).mem } := by
  unfold State.mmuMove
  split
  · rfl
  · rename_i p _
    have hM : ∃ m, (if mv.setM then t.agentWrite (p + 3) [t.byte (p + 3) ||| 0x20] else t) = { t with mem := m } := by
      split
      · exact ⟨_, t.agentWrite_frame _ _⟩
      · exact ⟨t.mem, rfl⟩
    obtain ⟨m, hm⟩ := hM
    simp only [hm]
    rw [State.agentWrite_frame]

/-- The MMU changes memory and the count of values drawn only. -/
theorem State.takeMmu_frame (s : State) : s.takeMmu = { s with mem := s.takeMmu.mem, draws := s.takeMmu.draws } := by
  unfold State.takeMmu
  split
  · rfl
  · split
    · rfl
    · refine List.foldlRecOn (motive := fun t : State => t = { s with mem := t.mem, draws := t.draws }) _ _ rfl
        fun t ht mv _ => ?_
      rw [State.mmuMove_frame, ht]

/-- Under flat translation, and while the bus is locked, the MMU does nothing (20_memory R174). -/
theorem State.takeMmu_idle (h : s.params.translate = .flat ∨ s.busLocked = true) : s.takeMmu = s := by
  unfold State.takeMmu
  split
  · rfl
  · rename_i htlb
    obtain hflat | hlocked := h
    · rw [hflat] at htlb; cases htlb
    · rw [if_pos hlocked]

/-- What the MMU writes before a step. -/
theorem State.takeMmu_wrote (hw : Memory.wf s.mem = true) : s.MmuWrote s.takeMmu := by
  unfold State.takeMmu
  split
  · exact ⟨rfl, hw, fun _ => .inl rfl⟩
  · split
    · exact ⟨rfl, hw, fun _ => .inl rfl⟩
    · exact List.foldlRecOn (motive := s.MmuWrote) _ _ ⟨rfl, hw, fun _ => .inl rfl⟩ fun _ ht mv _ => ht.move mv

end Sys2Proof.Machine

/-! What the environment may change before a step (00_scope R15; log 15). -/

namespace Sys2Proof.Machine

/-- `t` is `s` after some of the acts `is` of the environment: what is on none of them is as it was. -/
structure State.Acted (is : List Input) (s t : State) : Prop where
  frame : t = { s with pic := t.pic, pit1 := t.pit1, pit2 := t.pit2, mem := t.mem, sema := t.sema }
  pic : t.pic.ctrl = s.pic.ctrl ∧ t.pic.esh = s.pic.esh ∧ t.pic.trig = s.pic.trig
  lines : (∀ n v, Input.picLine n v ∉ is) → t.pic.lines = s.pic.lines
  pit1 : (Input.pitClock false ∉ is) → (∀ n, Input.pitEdge false n ∉ is) → (∀ n v, Input.pitGate false n v ∉ is) →
    t.pit1 = s.pit1
  pit2 : (Input.pitClock true ∉ is) → (∀ n, Input.pitEdge true n ∉ is) → (∀ n v, Input.pitGate true n v ∉ is) →
    t.pit2 = s.pit2
  sema : (∀ v, Input.sema v ∉ is) → t.sema = s.sema
  mem : Memory.wf s.mem = true → Memory.wf t.mem = true ∧ ∀ a, t.byte a = s.byte a ∨ Input.memory a (t.byte a) ∈ is

variable {is : List Input} {s t : State}

theorem State.Acted.refl (is : List Input) (s : State) : s.Acted is s :=
  ⟨rfl, ⟨rfl, rfl, rfl⟩, fun _ => rfl, fun _ _ _ => rfl, fun _ _ _ => rfl, fun _ => rfl, fun hw => ⟨hw, fun _ => .inl rfl⟩⟩

/-- A sample of the interrupt lines latches them. -/
theorem State.Acted.sample (h : s.Acted is t) : s.Acted is t.samplePic where
  frame := by rw [State.samplePic, h.frame]
  pic := h.pic
  lines := h.lines
  pit1 := h.pit1
  pit2 := h.pit2
  sema := h.sema
  mem := h.mem

/-- An act of the list. -/
theorem State.Acted.apply (h : s.Acted is t) {i : Input} (hi : i ∈ is) : s.Acted is (i.apply t) := by
  cases i with
  | picLine n v =>
    exact { h with
      frame := by rw [Input.apply, h.frame]
      lines := fun hn => absurd hi (hn n v) }
  | pitClock two =>
    cases two with
    | false => exact { h with
        frame := by simp only [Input.apply]; rw [h.frame]; rfl
        pit1 := fun hn _ _ => absurd hi hn }
    | true => exact { h with
        frame := by simp only [Input.apply]; rw [h.frame]; rfl
        pit2 := fun hn _ _ => absurd hi hn }
  | pitEdge two n =>
    cases two with
    | false => exact { h with
        frame := by simp only [Input.apply]; rw [h.frame]; rfl
        pit1 := fun _ hn _ => absurd hi (hn n) }
    | true => exact { h with
        frame := by simp only [Input.apply]; rw [h.frame]; rfl
        pit2 := fun _ hn _ => absurd hi (hn n) }
  | pitGate two n v =>
    cases two with
    | false => exact { h with
        frame := by simp only [Input.apply]; rw [h.frame]; rfl
        pit1 := fun _ _ hn => absurd hi (hn n v) }
    | true => exact { h with
        frame := by simp only [Input.apply]; rw [h.frame]; rfl
        pit2 := fun _ _ hn => absurd hi (hn n v) }
  | memory pa b =>
    exact { h with
      frame := by simp only [Input.apply]; rw [h.frame]
      mem := fun hw => by
        obtain ⟨hwt, hb⟩ := h.mem hw
        refine ⟨Memory.wf_write pa b hwt, fun a => ?_⟩
        by_cases ha : a = pa
        · subst ha
          have hnew : State.byte (Input.apply (.memory a b) t) a = b := Memory.read_write_same a b hwt
          rw [hnew]
          exact .inr hi
        · have hold : State.byte (Input.apply (.memory pa b) t) a = t.byte a := Memory.read_write_other b ha
          rw [hold]
          exact hb a }
  | sema v =>
    exact { h with
      frame := by simp only [Input.apply]; rw [h.frame]
      sema := fun hn => absurd hi (hn v) }
  | reset => exact h

/-- What the acts before a step leave, the acts still to come apart. -/
theorem State.takeInputs_acted (s : State) : State.Acted s.acts { s with env := s.later } s.takeInputs :=
  List.foldlRecOn (motive := State.Acted s.acts { s with env := s.later }) _ _ (State.Acted.refl _ _).sample
    fun _ ht _ hi => (ht.apply hi).sample

/-- The acts before a step are among those due; while the bus is locked none is on memory (20_memory R174). -/
theorem State.mem_acts {i : Input} (h : i ∈ s.acts) :
    i ∈ s.env.head?.getD [] ∧ (s.busLocked = false ∨ i.isAccess = false) := by
  simp only [State.acts] at h
  split at h
  · obtain ⟨hi, hacc⟩ := List.mem_filter.1 h
    exact ⟨hi, .inr (by simpa using hacc)⟩
  · exact ⟨h, .inl (by simpa using ‹¬s.busLocked = true›)⟩

/-- The acts still to come: those on memory that a locked bus holds off stand first among the next. -/
theorem State.later_eq (s : State) {p : Input → Bool} (hp : ∀ i : Input, i.isAccess = p i) : s.later =
    let held := if s.busLocked then (s.env.head?.getD []).filter p else []
    if held = [] then s.env.tail else (held ++ s.env.tail.head?.getD []) :: s.env.tail.tail := by
  obtain rfl : Input.isAccess = p := funext hp
  simp only [State.later, List.isEmpty_iff]

end Sys2Proof.Machine

/-! The statement of 00_scope: M_TICK and the parameters over a step, and what the other agents may change before it. -/

namespace Sys2Proof.Machine

variable {s t : State}

/-- What happens before a step leaves the parameters and M_TICK. -/
theorem State.before_timed (s : State) : s.takeInputs.takeMmu.Timed s.params s.tick := by
  rw [State.takeMmu_frame]
  show s.takeInputs.Timed s.params s.tick
  rw [s.takeInputs_acted.frame]
  exact ⟨rfl, rfl⟩

/-- A step keeps the implementation parameters (00_scope R8), and moves M_TICK on unless the reset input is asked for (70_reset
R850). -/
theorem step_params_tick (h : step s = .next t) :
    t.params = s.params ∧
      (s.resetAsked = false → 0 < t.draws ∧ t.tick = s.tick + .ofNat 64 (1 + Config.tickExtra (t.draws - 1))) := by
  have hs := s.before_timed
  simp only [step] at h
  split at h
  · rename_i hreset
    exact ⟨(resetStep_params h).trans hs.1, fun hn => absurd (hreset.symm.trans hn) (by decide)⟩
  · split at h
    · cases h
    · cases hc : coreStep s.takeInputs.takeMmu with
      | next u =>
        obtain ⟨hp, hk⟩ := hs.coreStep hc
        rw [hc] at h
        obtain rfl : u.advance = t := Host.Outcome.next.inj h
        exact ⟨hp, fun _ => ⟨Nat.succ_pos _, by rw [← hk]; rfl⟩⟩
      | fault e => rw [hc] at h; cases h
      | refused r => rw [hc] at h; cases h

/-- Of the PIC the environment changes the lines and what it latches of them. -/
theorem State.takeInputs_pic (s : State) :
    s.takeInputs.pic = { s.pic with
      latch := s.takeInputs.pic.latch, lines := s.takeInputs.pic.lines, prevIn := s.takeInputs.pic.prevIn } := by
  obtain ⟨hctrl, hesh, htrig⟩ := s.takeInputs_acted.pic
  show s.takeInputs.pic = ⟨s.pic.ctrl, s.pic.esh, _, s.pic.trig, _, _⟩
  rw [← show s.takeInputs.pic.ctrl = s.pic.ctrl from hctrl, ← show s.takeInputs.pic.esh = s.pic.esh from hesh,
    ← show s.takeInputs.pic.trig = s.pic.trig from htrig]

/-- An act that is not due is not done. -/
theorem State.not_mem_acts {p : Input → Bool} (h : ∀ i, i ∈ s.env.head?.getD [] → p i = false) {i : Input}
    (hi : p i = true) : i ∉ s.acts := fun hm =>
  absurd ((h i (State.mem_acts hm).1).symm.trans hi) Bool.false_ne_true

/-- Settles O58: the step by what every instruction keeps (`Completing.exec`), the other agents by induction over their
moves and acts. -/
theorem tickParametersAndOtherAgents : Obligations.TickParametersAndOtherAgents := by
  refine ⟨fun s t h => step_params_tick h, fun s => ⟨State.takeMmu_idle, s.takeMmu_frame, fun hw => ?_⟩, fun s => ?_⟩
  · exact ⟨(State.takeMmu_wrote hw).wf, (State.takeMmu_wrote hw).byte⟩
  · have acted := s.takeInputs_acted
    have henv : s.takeInputs.env = s.later := by rw [acted.frame]
    refine ⟨?_, ?_, s.takeInputs_pic, fun hn => ?_, fun hn => ?_, fun hn => ?_, fun hn => ?_, fun hw => ?_⟩
    · rw [henv]
      exact acted.frame
    · rw [henv]
      exact s.later_eq fun i => by cases i <;> rfl
    · exact acted.lines fun _ _ => State.not_mem_acts hn rfl
    · exact acted.pit1 (State.not_mem_acts hn rfl) (fun _ => State.not_mem_acts hn rfl) fun _ _ => State.not_mem_acts hn rfl
    · exact acted.pit2 (State.not_mem_acts hn rfl) (fun _ => State.not_mem_acts hn rfl) fun _ _ => State.not_mem_acts hn rfl
    · exact acted.sema fun _ => State.not_mem_acts hn rfl
    · obtain ⟨hwt, hbyte⟩ := acted.mem hw
      refine ⟨hwt, fun a => (hbyte a).imp id fun hm => ?_⟩
      obtain ⟨hdue, hfree | haccess⟩ := State.mem_acts hm
      · exact ⟨hfree, hdue⟩
      · cases haccess

end Sys2Proof.Machine

/-! The invariant: what reset, each instruction, taking an exception and the other agents keep of it (10_state R35, R41, R56,
R77; 60_exceptions R774). -/

namespace Sys2Proof.Machine

variable {s t : State}

/-! Bits outside a mask. -/

/-- The bits a mask selects have none outside it. -/
theorem and_mask_and_not {w : Nat} (v m : BitVec w) : v &&& m &&& ~~~m = 0 := by
  rw [BitVec.and_assoc, BitVec.and_not_self]
  exact BitVec.and_zero

/-- Fewer bits stay inside the mask. -/
theorem and_keeps_outside {w : Nat} {v m : BitVec w} (k : BitVec w) (h : v &&& m = 0) : v &&& k &&& m = 0 := by
  rw [BitVec.and_assoc, BitVec.and_comm k, ← BitVec.and_assoc, h]
  exact BitVec.zero_and

/-- The bits of two values inside the mask. -/
theorem or_keeps_outside {w : Nat} {v u m : BitVec w} (hv : v &&& m = 0) (hu : u &&& m = 0) : (v ||| u) &&& m = 0 := by
  rw [BitVec.and_comm, BitVec.and_or_distrib_left, BitVec.and_comm m, hv, BitVec.and_comm m, hu, BitVec.or_self]

/-- The reserved bits of SR stay zero where the operating mode changes. -/
theorem srWithMode_reserved {sr : BitVec 32} (m : BitVec 2) (h : sr &&& ~~~srMask = 0) : srWithMode sr m &&& ~~~srMask = 0 :=
  or_keeps_outside (and_keeps_outside _ h) (by revert m; decide)

/-- The reserved bits of SR stay zero where the interrupt mask level changes. -/
theorem srWithIpl_reserved {sr : BitVec 32} (l : BitVec 3) (h : sr &&& ~~~srMask = 0) : srWithIpl sr l &&& ~~~srMask = 0 :=
  or_keeps_outside (and_keeps_outside _ h) (by revert l; decide)

/-- A mode writes implemented bits of SR only (10_state R35, R37). -/
theorem State.srWritable_reserved (s : State) : s.srWritable &&& ~~~srMask = 0 := by
  unfold State.srWritable
  split <;> decide

/-! What keeps the invariant. -/

theorem State.inv_resetWith (p : Params) : (State.resetWith p).Inv :=
  ⟨rfl, show 0xCE0#32 &&& ~~~srMask = 0 by decide, show 0#128 &&& ~~~ptbrMask = 0 by decide,
    and_mask_and_not p.avReset (~~~0xF), Nat.zero_le _, fun _ => rfl⟩

theorem State.Inv.csrWrite (h : s.Inv) (c : Csr) (v : Word) : (s.csrWrite c v).Inv := by
  obtain ⟨hmem, hsr, hptbr, hav, hvl, hcy⟩ := h
  cases c with
  | sr =>
    have hnew : v.setWidth 32 &&& s.srWritable &&& ~~~srMask = 0 := by
      rw [BitVec.and_comm (v.setWidth 32)]
      exact and_keeps_outside _ s.srWritable_reserved
    exact ⟨hmem, or_keeps_outside (and_keeps_outside _ hsr) hnew, hptbr, hav, hvl, hcy⟩
  | ptbr => exact ⟨hmem, hsr, and_mask_and_not v ptbrMask, hav, hvl, hcy⟩
  | av => exact ⟨hmem, hsr, hptbr, and_mask_and_not (v.setWidth 64) (~~~0xF), hvl, hcy⟩
  | vl =>
    refine ⟨hmem, hsr, hptbr, hav, ?_, hcy⟩
    show (if v.extractLsb' 0 8 ≤ s.params.maxVl then v.extractLsb' 0 8 else s.params.maxVl) ≤ s.params.maxVl
    split
    · assumption
    · exact BitVec.le_refl _
  | _ => exact ⟨hmem, hsr, hptbr, hav, hvl, hcy⟩

theorem State.Inv.rte {d : Nat} {k : BitVec 7} {a : Addr} (h : s.Inv) (hr : rteState d k s = .ok a t) : t.Inv := by
  obtain ⟨hmem, hsr, hptbr, hav, hvl, hcy⟩ := h
  simp only [rteState] at hr
  split at hr
  · cases hr
  · injection hr with _ ht
    rw [← ht]
    refine ⟨hmem, ?_, hptbr, hav, hvl, hcy⟩
    exact iteInduction (motive := fun sr => sr &&& ~~~srMask = 0) (fun _ => hsr) fun _ => and_mask_and_not _ _

/-- No instruction breaks the invariant, while it works nor when it completes. -/
theorem inv_completing : Completing State.Inv State.Inv where
  regs _ _ _ _ _ _ h := h
  vectors _ _ _ h := h
  tlbDraws _ _ h := h
  units _ _ _ h := h
  mem _ _ _ h hm := ⟨hm h.1, h.2⟩
  win _ h hw := by
    obtain ⟨hmem, hsr, hptbr, hav, hvl, hcy⟩ := h
    exact ⟨hmem, hsr, hptbr, hav, hvl, hw hcy⟩
  repbuf _ h := h
  flow _ _ _ h := h
  weaken h := h
  csrWrite c v h := h.csrWrite c v
  rte h hr := h.rte hr
  regsAfter _ _ _ _ _ _ h := h
  flowAfter _ _ h := h

/-- Exception entry closes the windows with the carry, and changes implemented bits of SR only (60_exceptions R770, R771). -/
theorem State.Inv.enterState (h : s.Inv) (e : Entry) (vec : BitVec 9) (epc : Addr) (bad : Option Addr) :
    (Machine.enterState e vec epc bad s).Inv := by
  obtain ⟨hmem, hsr, hptbr, hav, hvl, -⟩ := h
  refine ⟨hmem, ?_, hptbr, hav, hvl, fun _ => rfl⟩
  refine iteInduction (motive := fun sr => sr &&& ~~~srMask = 0)
    (fun _ => and_keeps_outside _ (srWithMode_reserved 3 ?_)) fun _ => hsr
  cases e with
  | interrupt level code => exact srWithIpl_reserved level hsr
  | sync | trace => exact hsr

theorem State.Inv.enter {e : Entry} {vec : BitVec 9} {epc : Addr} {bad : Option Addr} (h : s.Inv)
    (ht : Machine.enter e vec epc bad s = .next t) : t.Inv := by
  have hread := inv_completing.memReadAs .read (vectorEntry vec (Machine.enterState e vec epc bad s)).2
    (vectorEntry vec (Machine.enterState e vec epc bad s)).1 8 (h.enterState e vec epc bad)
  simp only [Machine.enter] at ht
  split at ht
  · rename_i he
    rw [he] at hread
    injection ht with ht
    exact ht ▸ hread
  · rename_i he
    rw [he] at hread
    injection ht with ht
    exact ht ▸ hread
  · cases ht

/-- The windows after an instruction leave no carry outside its window (10_state R77). -/
theorem windowsAfter_cy (before : Windows) (r : Retire) (after : Windows)
    (h : (windowsAfter before r after).carry = none) : (windowsAfter before r after).cy = 0 := by
  simp only [windowsAfter] at h ⊢
  rw [h]
  rfl

theorem State.Inv.settle (s : State) (h : t.Inv) : (Machine.settle s t).Inv := by
  have hdone : State.Inv { t with
      win := { windowsAfter s.win t.retire t.win with locked := s.win.lockMark }, traceDue := t.traceDue || s.te } :=
    inv_completing.win { windowsAfter s.win t.retire t.win with locked := s.win.lockMark } h
      fun _ => windowsAfter_cy s.win t.retire t.win
  exact iteInduction (motive := State.Inv)
    (fun _ => iteInduction (motive := State.Inv) (fun _ => inv_completing.repAfter _ hdone) fun _ => hdone)
    fun _ => iteInduction (motive := State.Inv) (fun _ => inv_completing.repbuf _ h) fun _ =>
      iteInduction (motive := State.Inv) (fun _ => inv_completing.win _ h fun hw => hw) fun _ => h

theorem State.Inv.coreStep (h : s.Inv) (ht : Machine.coreStep s = .next t) : t.Inv := by
  unfold Machine.coreStep at ht
  split at ht
  · exact h.enter ht
  · split at ht
    · exact h.enter ht
    · split at ht
      · rename_i u v hr
        injection ht with ht
        have hv : v.Inv := by
          obtain ⟨-, hv | ⟨vec, epc, bad, w, hw, he⟩⟩ := inv_completing.runOne h hr
          · exact hv
          · exact hw.enter he
        exact ht ▸ hv.settle u
      · rename_i hne _
        subst ht
        exact (hne _ rfl).elim

/-- The state the reset input makes keeps the memory, and with it its canonical form. -/
theorem State.Inv.afterReset (h : s.Inv) : s.afterReset.Inv := by
  obtain ⟨-, hrest⟩ := State.inv_resetWith s.params
  exact ⟨h.1, hrest⟩

theorem State.Inv.resetStep (h : s.Inv) (ht : Machine.resetStep s = .next t) : t.Inv := by
  have hread : ((memReadAs .read 3 0 8 s.afterReset).bind fun sp t => (memReadAs .read 3 8 8 t).bind fun pc t =>
      Acc.ok () { t with msp := .ofNat 128 sp, pc := .ofNat 64 pc }).Leaves State.Inv State.Inv :=
    (inv_completing.memReadAs .read 3 0 8 h.afterReset).bind fun _ _ h1 =>
      (inv_completing.memReadAs .read 3 8 8 h1).bind fun _ _ h2 => h2
  simp only [Machine.resetStep] at ht
  split at ht
  · injection ht with ht
    exact ht ▸ h.afterReset
  · split at ht
    · rename_i he
      rw [he] at hread
      injection ht with ht
      exact ht ▸ hread
    · rename_i he
      rw [he] at hread
      injection ht with ht
      exact ht ▸ hread
    · cases ht

/-- The acts of the environment and the moves of the MMU keep the canonical form of memory, and change nothing else that the
invariant is about. -/
theorem State.Inv.before (h : s.Inv) : s.takeInputs.takeMmu.Inv := by
  obtain ⟨hmem, hrest⟩ := h
  have acted := s.takeInputs_acted
  have hin : s.takeInputs.Inv := by
    rw [acted.frame]
    exact ⟨(acted.mem hmem).1, hrest⟩
  rw [State.takeMmu_frame]
  exact ⟨(State.takeMmu_wrote hin.1).wf, hin.2⟩

/-- Settles O55: each clause at the reset values, whatever the parameters. -/
theorem invariantHoldsAtReset : Obligations.InvariantHoldsAtReset := State.inv_resetWith

/-- Settles O56: the other agents before the step, then the reset input, or the instruction by what every instruction keeps
(`Completing.exec`). -/
theorem stepKeepsTheInvariant : Obligations.StepKeepsTheInvariant := by
  intro s t h ht
  simp only [step] at ht
  split at ht
  · exact h.before.resetStep ht
  · split at ht
    · cases ht
    · cases hc : Machine.coreStep s.takeInputs.takeMmu with
      | next u =>
        rw [hc] at ht
        obtain rfl : u.advance = t := Host.Outcome.next.inj ht
        have hu : u.Inv := h.before.coreStep hc
        exact hu
      | fault e => rw [hc] at ht; cases ht
      | refused r => rw [hc] at ht; cases ht

end Sys2Proof.Machine

/-! General registers (10_state R20 to R23): what a read gives and what a write changes, the banks of r63 and the registers of
a REGS list. -/

namespace Sys2Proof.Machine

/-- r0 under its complement bit, and under the negate bit, reads as all ones (10_state R21). -/
theorem Src.value_zero_complemented (s : State) (w k : Nat) :
    (Src.reg 0).value .compl true s w k = BitVec.allOnes w ∧ (Src.reg 0).value .neg true s w k = BitVec.allOnes w := by
  constructor
  · have hcompl : (Src.reg 0).value .compl true s w k = ~~~((s.reg 0).setWidth w) := rfl
    rw [hcompl, s.reg_zero]
    exact (congrArg _ (BitVec.setWidth_zero w 128)).trans BitVec.not_zero
  · simp [Src.value]

/-- Settles O1, by the rules of register reads and writes. -/
theorem registerFileReadsAndWrites : Obligations.RegisterFileReadsAndWrites := by
  intro s r v
  refine ⟨s.reg_zero, rfl, rfl, s.setReg_zero v, s.setReg_sc v, rfl, s.reg_setReg_same v,
    fun _ h => s.reg_setReg_other v h, fun m n => s.bank_setBank m n v, fun h0 h53 h63 => ?_, Src.value_zero_complemented s⟩
  rw [State.setReg, if_neg h0, if_neg h53, if_neg h63]

theorem mode_cases (m : BitVec 2) : m = 0 ∨ m = 1 ∨ m = 2 ∨ m = 3 := by revert m; decide

/-- The stack pointer of a mode, by the mode. -/
theorem State.bank_eq (s : State) (m : BitVec 2) :
    s.bank m = if m = 0 then s.asp else if m = 1 then s.ssp else if m = 2 then s.hsp else s.msp := by
  obtain rfl | rfl | rfl | rfl := mode_cases m
  all_goals rfl

/-- What a write of the stack pointer of a mode changes, by the mode. -/
theorem State.setBank_cases (s : State) (m : BitVec 2) (v : Word) :
    s.setBank m v = if m = 0 then { s with asp := v } else if m = 1 then { s with ssp := v }
      else if m = 2 then { s with hsp := v } else { s with msp := v } := by
  obtain rfl | rfl | rfl | rfl := mode_cases m
  all_goals rfl

/-- No bit of a REGS list names r63 (30_encoding R236). -/
theorem regsBit_ne_sp : ∀ i, i < 64 → regsBit i ≠ .reg 63 := by decide

/-- Settles O2: r63 by the bank of the mode, the REGS list by its table. -/
theorem stackPointersAreBanked : Obligations.StackPointersAreBanked := fun s v =>
  ⟨s.bank_eq s.mode, s.setBank_cases s.mode v, regsBit_ne_sp, rfl, rfl, rfl, rfl, rfl, rfl, rfl, rfl, rfl⟩

end Sys2Proof.Machine

/-! The CSR instructions, GETVL, SETVL and CPUID (49_modifiers R725 to R732; 48_vector R650, R651). -/

namespace Sys2Proof.Machine

variable {s : State} {x : Ext}

/-- An instruction that raises an exception and has changed nothing, as a statement names it. -/
theorem finish_trap {len : Nat} {s0 : State} {vec : BitVec 9} {bad : Option Addr} {u : State} {a : Addr}
    (h : u.handler vec a) :
    finish len s0 (.trap ⟨vec, bad⟩ u) = .next { u.took vec s0.pc bad a with retire := .fault } :=
  enter_handler (k := .sync) (epc := s0.pc) (bad := bad) (s := { u with retire := .fault }) h

/-- The state a CSR instruction reads the register in leaves: M_SEED draws its value (10_state R61). -/
def State.csrDrawn (s : State) (k : Csr) : State := if k = .seed then { s with draws := s.draws + 1 } else s

theorem State.csrDrawn_params (s : State) (k : Csr) : (s.csrDrawn k).params = s.params := by
  unfold State.csrDrawn
  split <;> rfl

theorem State.csrDrawn_pc (s : State) (k : Csr) : (s.csrDrawn k).pc = s.pc := by
  unfold State.csrDrawn
  split <;> rfl

/-- What a CSR instruction leaves but for the program counter: the old value in Rt, then the new one in the register. -/
def State.csrDone (s : State) (new : CsrNew) (rt : Reg) (st : Bool) (n : BitVec 14) (v : Word) : State :=
  let k := csrOf s.params n
  let t := (s.csrDrawn k).setReg rt (decorate .compl st (s.csrValue k))
  ((new (s.csrValue k) v).map (t.csrWrite k)).getD t

/-- Where the mode is at least the level in the number, a CSR instruction completes (49_modifiers R726). -/
theorem csrOp_allowed {new : CsrNew} {rt : Reg} {st : Bool} {n : BitVec 14} {v : Word}
    (h : n.extractLsb' 12 2 ≤ s.mode) : csrOp new rt st n v s = .ok .seq (s.csrDone new rt st n v) := by
  have hp : (if csrOf s.params n = .seed then { s with draws := s.draws + 1 } else s).params = s.params :=
    s.csrDrawn_params _
  simp only [csrOp, if_neg (BitVec.not_lt.2 h), csrRead, Acc.bind, hp]
  cases hnew : new (s.csrValue (csrOf s.params n)) v <;> simp only [State.csrDone, hnew] <;> rfl

/-- In a lower mode it is a privilege violation (10_state R32). -/
theorem csrOp_denied {new : CsrNew} {rt : Reg} {st : Bool} {n : BitVec 14} {v : Word}
    (h : s.mode < n.extractLsb' 12 2) : csrOp new rt st n v s = .trap .privilege s := by
  rw [csrOp, if_pos h]

theorem State.csrWrite_pc (s : State) (k : Csr) (v : Word) : (s.csrWrite k v).pc = s.pc := by cases k <;> rfl

theorem State.csrDone_pc (s : State) (new : CsrNew) (rt : Reg) (st : Bool) (n : BitVec 14) (v : Word) :
    (s.csrDone new rt st n v).pc = s.pc := by
  simp only [State.csrDone]
  cases new (s.csrValue (csrOf s.params n)) v <;> simp [State.csrWrite_pc, State.csrDrawn_pc]

/-- An instruction that is the CSR operation with the operand `v`. -/
theorem exec_csr {c : Instr} {body : State → Acc Flow} (new : CsrNew) {rt : Reg} {st : Bool} {n : BitVec 14} {v : Word}
    (he : s.enabled x false) (hc : exec c s = runExt x false body s) (hb : body s = csrOp new rt st n v s) :
    (n.extractLsb' 12 2 ≤ s.mode → exec c s = .next ((s.csrDone new rt st n v).passed (extLen x))) ∧
      (s.mode < n.extractLsb' 12 2 → Traps c s 8 none) := by
  have hrun : exec c s = finish (extLen x) s (csrOp new rt st n v s) := by rw [hc, runExt_enabled he, hb]
  constructor
  · intro h
    rw [hrun, csrOp_allowed h]
    simp only [finish, State.passed, State.csrDone_pc]
  · intro h a ha
    rw [hrun, csrOp_denied h]
    exact finish_trap ha

/-- Settles O23: each instruction is the CSR operation with its own new value. -/
theorem csrReadWriteSetClearFlip : Obligations.CsrReadWriteSetClearFlip := by
  intro o i x s he
  exact ⟨⟨exec_csr (fun _ _ => none) he rfl rfl, exec_csr (fun _ _ => none) he rfl rfl⟩,
    ⟨exec_csr (fun _ v => some v) he rfl rfl, exec_csr (fun _ v => some v) he rfl rfl⟩,
    ⟨exec_csr (fun old v => some (old ||| v)) he rfl rfl, exec_csr (fun old v => some (old ||| v)) he rfl rfl⟩,
    ⟨exec_csr (fun old v => some (old &&& ~~~v)) he rfl rfl, exec_csr (fun old v => some (old &&& ~~~v)) he rfl rfl⟩,
    ⟨exec_csr (fun old v => some (old ^^^ v)) he rfl rfl, exec_csr (fun old v => some (old ^^^ v)) he rfl rfl⟩⟩

/-- U_VL, of user level, is read and written in every mode (10_state R41). -/
theorem exec_vl {c : Instr} {body : State → Acc Flow} (new : CsrNew) {rt : Reg} {st : Bool} {v : Word}
    (he : s.enabled x false) (hc : exec c s = runExt x false body s) (hb : body s = csrOp new rt st 0x50 v s) :
    exec c s = .next ((s.csrDone new rt st 0x50 v).passed (extLen x)) :=
  (exec_csr new he hc hb).1 (Nat.zero_le _)

/-- What a write of U_VL leaves: the value, or MAX_VL (10_state R41). -/
theorem State.csrDone_vl (s : State) (rt : Reg) (st : Bool) (v : Word) (len : Nat) :
    (s.csrDone (fun _ v => some v) rt st 0x50 v).passed len =
      { s.wrote len rt (decorate .compl st (s.vl.setWidth 128)) with
        vl := if (v.extractLsb' 0 8).toNat ≤ s.params.maxVl.toNat then v.extractLsb' 0 8 else s.params.maxVl } := by
  have hk : csrOf s.params 0x50 = .vl := rfl
  simp only [State.csrDone, hk, State.csrValue, State.csrDrawn, reduceCtorEq, if_false, Option.map_some, Option.getD_some,
    State.csrWrite, State.wrote, State.passed, State.params_setReg, BitVec.le_def]

/-- CPUID writes the row of its table (49_modifiers R731, R732). -/
theorem exec_cpuidRow {c : Instr} {body : State → Acc Flow} {rt : Reg} {st : Bool} {n : BitVec 14} {v : Word}
    (he : s.enabled x false) (hc : exec c s = runExt x false body s) (hb : body s = cpuidOp rt st n v s) :
    exec c s = .next (s.wrote (extLen x) rt (decorate .compl st (cpuInfo s.params ((v.toNat + n.toNat) % 2 ^ 64)))) := by
  rw [hc, runExt_enabled he, hb]
  exact finish_setReg _ _ _ _

/-- Settles O25: GETVL and SETVL as the CSR operation on U_VL, CPUID by the row of its table. -/
theorem vectorLengthAndCpuid : Obligations.VectorLengthAndCpuid := by
  intro g o i x s he
  exact ⟨exec_vl (fun _ _ => none) he rfl rfl,
    (exec_vl (fun _ v => some v) he rfl rfl).trans (congrArg _ (s.csrDone_vl _ _ _ _)),
    (exec_vl (fun _ v => some v) he rfl rfl).trans (congrArg _ (s.csrDone_vl _ _ _ _)),
    exec_cpuidRow he rfl rfl, exec_cpuidRow he rfl rfl⟩

end Sys2Proof.Machine

/-! The control registers: their numbers, what a write leaves in each, and that no other register changes (10_state R33 to R70;
60_exceptions R774). -/

namespace Sys2Proof.Machine

/-! Numbers. -/

/-- Two tables with the same row, which is not the one looked for, agree if their rests do. -/
theorem ite_of_not_first {α : Type} {c : Prop} [Decidable c] {a x y u t : α} (h : (if c then a else x) = u) (ha : a ≠ u)
    (hrest : x = u → y = t) : (if c then a else y) = t := by
  split at h
  · exact absurd h ha
  · rw [if_neg ‹_›]
    exact hrest h

/-- A number that the spec fixes for no register is AV's, or that of the first VB, which the parameters give it (60_exceptions
R774; log 31). -/
theorem csrOf_unnamed {p : Params} {n : BitVec 14}
    (h : csrOf { p with avRegno := none, vbRegno := Vector.replicate 4 none } n = .unimplemented) :
    csrOf p n = if p.avRegno = some n then .av
      else ((p.vbRegno.toList.findIdx? fun r => r == some n).map Csr.vb).getD .unimplemented := by
  unfold csrOf at h ⊢
  repeat refine ite_of_not_first h nofun fun h => ?_
  congr 1
  cases p.vbRegno.toList.findIdx? fun r => r == some n <;> rfl

theorem csrOf_av {p : Params} {n : BitVec 14}
    (h : csrOf { p with avRegno := none, vbRegno := Vector.replicate 4 none } n = .unimplemented)
    (hav : p.avRegno = some n) : csrOf p n = .av := by
  rw [csrOf_unnamed h, if_pos hav]

theorem csrOf_vb {p : Params} {n : BitVec 14}
    (h : csrOf { p with avRegno := none, vbRegno := Vector.replicate 4 none } n = .unimplemented) {m : Fin 4}
    (hm : p.vbRegno[m.val] = some n) (hav : p.avRegno ≠ some n) (hfirst : ∀ j : Fin 4, j < m → p.vbRegno[j.val] ≠ some n) :
    csrOf p n = .vb m := by
  have hidx : (p.vbRegno.toList.findIdx? fun r => r == some n) = some m.val := by
    refine List.findIdx?_eq_some_iff_getElem.2 ⟨by simp, by simpa using hm, fun j hj => ?_⟩
    simpa using hfirst ⟨j, by omega⟩ hj
  rw [csrOf_unnamed h, if_neg hav, hidx]
  rfl

theorem csrOf_none {p : Params} {n : BitVec 14}
    (h : csrOf { p with avRegno := none, vbRegno := Vector.replicate 4 none } n = .unimplemented)
    (hav : p.avRegno ≠ some n) (hvb : ∀ m : Fin 4, p.vbRegno[m.val] ≠ some n) : csrOf p n = .unimplemented := by
  have hidx : (p.vbRegno.toList.findIdx? fun r => r == some n) = none := by
    rw [List.findIdx?_eq_none_iff]
    intro r hr
    obtain ⟨i, hi, rfl⟩ := List.getElem_of_mem hr
    simpa using hvb ⟨i, by simpa using hi⟩
  rw [csrOf_unnamed h, if_neg hav, hidx]
  rfl

/-- The status words of the exception stack that numbers name are those from slots 0 and 4 on (10_state R66). -/
def Csr.stackAligned (c : Csr) : Prop := ∀ k, c = .srStack k → k = 0 ∨ k = 4

theorem csrOf_stackAligned (p : Params) (n : BitVec 14) : (csrOf p n).stackAligned := by
  unfold csrOf
  repeat' refine iteInduction (motive := Csr.stackAligned) (fun _ => ?_) fun _ => ?_
  rotate_right
  split
  all_goals rintro k ⟨⟩
  · exact .inl rfl
  · exact .inr rfl

/-- The numbers of the registers that each mode has (10_state R33 to R37). -/
theorem csrOf_banked (p : Params) (m : BitVec 2) :
    csrOf p (m ++ 0x004#12) = .sr ∧ csrOf p (m ++ 0x006#12) = .cause m.toNat ∧ csrOf p (m ++ 0x041#12) = .scratch m.toNat := by
  obtain rfl | rfl | rfl | rfl := mode_cases m
  all_goals exact ⟨rfl, rfl, rfl⟩

/-- The numbers of the keys and of the stacked program counters (10_state R58, R66). -/
theorem csrOf_key_epc (p : Params) (k : BitVec 3) :
    csrOf p (0x1020 + k.setWidth 14) = .key k.toNat ∧ csrOf p (0x3108 + k.setWidth 14) = .epc k.toNat := by
  obtain rfl | rfl | rfl | rfl | rfl | rfl | rfl | rfl :
    k = 0 ∨ k = 1 ∨ k = 2 ∨ k = 3 ∨ k = 4 ∨ k = 5 ∨ k = 6 ∨ k = 7 := by revert k; decide
  all_goals exact ⟨rfl, rfl⟩

theorem csrOf_tvec (p : Params) {k : Nat} (hk : k < 5) : csrOf p (0x3030 + .ofNat 14 k) = .tvec k := by
  interval_cases k <;> rfl

/-! Values. -/

/-- A value cut to some of its bits and extended again. -/
theorem setWidth_setWidth_and (v : Word) (k : Nat) (m : BitVec k) :
    (v.setWidth k &&& m).setWidth 128 = v &&& m.setWidth 128 := by
  ext i hi
  simp only [BitVec.getElem_setWidth, BitVec.getLsbD_and, BitVec.getLsbD_setWidth, BitVec.getElem_and]
  by_cases hk : i < k
  · simp [hk, hi]
  · simp [BitVec.getLsbD_of_ge m i (by omega)]

theorem setWidth_setWidth_mask (v : Word) (k : Nat) :
    (v.setWidth k).setWidth 128 = v &&& (BitVec.allOnes k).setWidth 128 := by
  rw [← setWidth_setWidth_and, BitVec.and_allOnes]

/-- A field taken out of a value and put back in its place. -/
theorem field_in_place (v : Word) (lo len : Nat) :
    (v.extractLsb' lo len).setWidth 128 <<< lo = v &&& (BitVec.allOnes len).setWidth 128 <<< lo := by
  ext i hi
  simp only [BitVec.getElem_shiftLeft, BitVec.getElem_setWidth, BitVec.getElem_and, BitVec.getLsbD_extractLsb',
    BitVec.getLsbD_allOnes]
  by_cases hlo : i < lo
  · simp [hlo]
  · have hsum : lo + (i - lo) = i := by omega
    by_cases hlen : i - lo < len
    · simp [hlo, hsum, hlen, BitVec.getLsbD_eq_getElem hi]
    · simp [hlo, hlen]

theorem ofBool_getLsbD {w : Nat} (v : BitVec w) (i : Nat) : BitVec.ofBool (v.getLsbD i) = v.extractLsb' i 1 := by
  ext j hj
  obtain rfl : j = 0 := by omega
  simp

/-- U_REPBUF keeps its fields (10_state R39). -/
theorem RepBuf.word_ofWord (v : Word) : (RepBuf.ofWord v).word = v &&& 0xFFFFFFFFFFFFFFFF0FFFFFFFFF7F := by
  have h0 : (v.extractLsb' 0 7).setWidth 128 = v &&& (BitVec.allOnes 7).setWidth 128 <<< 0 := by
    rw [← field_in_place, BitVec.shiftLeft_zero]
  simp only [RepBuf.word, RepBuf.ofWord, ofBool_getLsbD, field_in_place, h0, ← BitVec.and_or_distrib_left]
  rfl

theorem getElem?_modifyAt {α : Type} {n : Nat} (v : Vector α n) (i j : Nat) (f : α → α) :
    (modifyAt v i f)[j]? = if i = j then v[j]?.map f else v[j]? := by
  unfold modifyAt
  by_cases hij : i = j
  · subst hij
    rw [if_pos rfl]
    cases h : v[i]? with
    | none => simpa using h
    | some a =>
      obtain ⟨hi, -⟩ := Vector.getElem?_eq_some_iff.1 h
      simp [hi]
  · rw [if_neg hij]
    split
    · exact Vector.getElem?_setIfInBounds_ne hij
    · rfl

/-- The slots after a write of four status words: those written, and every other as it was. -/
theorem getElem?_setSrStack (st : Vector Slot 8) (k j : Nat) (v : Word) :
    (setSrStack k v st)[j]? =
      if k ≤ j ∧ j < k + 4 then st[j]?.map fun e => { e with sr := v.extractLsb' (32 * (j - k)) 32 } else st[j]? := by
  have hrange : List.range 4 = [0, 1, 2, 3] := rfl
  simp only [setSrStack, hrange, List.foldl_cons, List.foldl_nil, getElem?_modifyAt]
  by_cases hin : k ≤ j ∧ j < k + 4
  · obtain ⟨d, rfl⟩ : ∃ d, j = k + d := ⟨j - k, by omega⟩
    have hd : d < 4 := by omega
    rw [if_pos hin, Nat.add_sub_cancel_left]
    interval_cases d <;> simp
  · rw [if_neg hin, if_neg (by omega), if_neg (by omega), if_neg (by omega), if_neg (by omega)]

/-- Four status registers, by the status words of the slots. -/
theorem srStackWord_eq (st : Vector Slot 8) (k : Nat) :
    srStackWord st k = (st[k + 3]?.map Slot.sr).getD 0 ++ ((st[k + 2]?.map Slot.sr).getD 0 ++
      ((st[k + 1]?.map Slot.sr).getD 0 ++ (st[k + 0]?.map Slot.sr).getD 0)) := by
  have hslot : ∀ o : Option Slot, (o.map Slot.sr).getD 0 = match o with
      | some e => e.sr
      | none => 0 := fun o => by cases o <;> rfl
  simp only [hslot]
  rfl

/-- A stacked program counter, by that of the slot. -/
theorem State.csrValue_epc (s : State) (k : Nat) :
    s.csrValue (.epc k) = ((s.stack[k]?.map Slot.pc).getD 0).setWidth 128 := by
  simp only [State.csrValue]
  cases s.stack[k]? <;> rfl

/-- A value is its four parts of 32 bits. -/
theorem append_words (v : Word) :
    v.extractLsb' 96 32 ++ (v.extractLsb' 64 32 ++ (v.extractLsb' 32 32 ++ v.extractLsb' 0 32)) = v := by
  have h2 : v.extractLsb' 32 32 ++ v.extractLsb' 0 32 = v.extractLsb' 0 64 :=
    BitVec.extractLsb'_append_extractLsb'_eq_extractLsb' (start₁ := 0) (len₁ := 32) rfl
  have h3 : v.extractLsb' 64 32 ++ v.extractLsb' 0 64 = v.extractLsb' 0 96 :=
    BitVec.extractLsb'_append_extractLsb'_eq_extractLsb' rfl
  have h4 : v.extractLsb' 96 32 ++ v.extractLsb' 0 96 = v.extractLsb' 0 128 :=
    BitVec.extractLsb'_append_extractLsb'_eq_extractLsb' rfl
  rw [h2]
  exact (congrArg _ h3).trans (h4.trans BitVec.extractLsb'_eq_self)

/-- Four status words written read back. -/
theorem srStackWord_setSrStack (st : Vector Slot 8) {k : Nat} (hk : k + 4 ≤ 8) (v : Word) :
    srStackWord (setSrStack k v st) k = v := by
  have hslot : ∀ j, j < 4 → ((setSrStack k v st)[k + j]?.map Slot.sr).getD 0 = v.extractLsb' (32 * j) 32 := by
    intro j hj
    rw [getElem?_setSrStack, if_pos ⟨by omega, by omega⟩, Nat.add_sub_cancel_left,
      Vector.getElem?_eq_getElem (show k + j < 8 by omega)]
    rfl
  rw [srStackWord_eq, hslot 3 (by omega), hslot 2 (by omega), hslot 1 (by omega), hslot 0 (by omega)]
  exact append_words v

/-! A write of one register leaves the others. -/

/-- Two registers that numbers name share nothing (10_state R33 to R70): two of a kind stand in different places, a status word
and a program counter of the exception stack in different fields of the slot, and any others in different fields of the
state. -/
theorem State.csrValue_csrWrite_other (s : State) {c d : Csr} (v : Word) (hc : c.stackAligned) (hd : d.stackAligned)
    (h : c ≠ d) : (s.csrWrite c v).csrValue d = s.csrValue d := by
  cases c <;> cases d
  case cause.cause => simp only [csrWrite, csrValue, Vector.getElem?_setIfInBounds_ne fun e => h (congrArg _ e)]
  case scratch.scratch => simp only [csrWrite, csrValue, Vector.getElem?_setIfInBounds_ne fun e => h (congrArg _ e)]
  case key.key => simp only [csrWrite, csrValue, Vector.getElem?_setIfInBounds_ne fun e => h (congrArg _ e)]
  case tvec.tvec => simp only [csrWrite, csrValue, Vector.getElem?_setIfInBounds_ne fun e => h (congrArg _ e)]
  case vb.vb => simp only [csrWrite, csrValue, Vector.getElem?_setIfInBounds_ne fun e => h (congrArg _ e)]
  case srStack.srStack m k =>
    have hmk : m ≠ k := fun e => h (congrArg _ e)
    have hm := hc m rfl
    have hk := hd k rfl
    have hslot : ∀ j, j < 4 → (setSrStack m v s.stack)[k + j]? = s.stack[k + j]? := fun j hj => by
      rw [getElem?_setSrStack, if_neg (by omega)]
    simp only [csrWrite, csrValue, srStackWord_eq]
    rw [hslot 3 (by omega), hslot 2 (by omega), hslot 1 (by omega), hslot 0 (by omega)]
  case srStack.epc m k =>
    have hpc : (setSrStack m v s.stack)[k]?.map Slot.pc = s.stack[k]?.map Slot.pc := by
      rw [getElem?_setSrStack]
      split
      · rw [Option.map_map]; rfl
      · rfl
    simp only [csrWrite, csrValue_epc, hpc]
  case epc.srStack m k =>
    have hsr : ∀ j : Nat, (modifyAt s.stack m fun e => { e with pc := v.setWidth 64 })[j]?.map Slot.sr =
        s.stack[j]?.map Slot.sr := by
      intro j
      rw [getElem?_modifyAt]
      split
      · rw [Option.map_map]; rfl
      · rfl
    simp only [csrWrite, csrValue, srStackWord_eq, hsr]
  case epc.epc m k =>
    simp only [csrWrite, csrValue_epc, getElem?_modifyAt, if_neg fun e => h (congrArg _ e)]
  all_goals first
    | exact absurd rfl h
    | rfl

/-- What SR reads as, by the mode (10_state R35, R37). -/
theorem State.srSeen_eq (s : State) :
    s.srSeen = if s.mode = 0 then s.sr &&& 1 else if s.mode = 1 then s.sr &&& ~~~0xC
      else if s.mode = 2 then s.sr &&& ~~~8 else s.sr := by
  unfold State.srSeen
  obtain h | h | h | h := mode_cases s.mode
  all_goals rw [h]; rfl

/-- The bits of SR a mode can write (10_state R35, R37). -/
theorem State.srWritable_eq (s : State) :
    s.srWritable = if s.mode = 0 then 1 else if s.mode = 1 then 3 else if s.mode = 2 then 7 else 0xFF0D3FFF := by
  unfold State.srWritable
  obtain h | h | h | h := mode_cases s.mode
  all_goals rw [h]; rfl

/-- A place of an array written reads back. -/
theorem getD_setIfInBounds {α : Type} {n : Nat} (x : Vector α n) {i : Nat} (a d : α) (hi : i < n) :
    ((x.setIfInBounds i a)[i]?).getD d = a := by
  simp [hi]

theorem State.csrWrite_epc_value (s : State) (v : Word) {k : Nat} (hk : k < 8) :
    (s.csrWrite (.epc k) v).csrValue (.epc k) = v &&& 0xFFFFFFFFFFFFFFFF := by
  rw [csrValue_epc]
  show ((Option.map Slot.pc (modifyAt s.stack k fun e => { e with pc := v.setWidth 64 })[k]?).getD 0).setWidth 128 = _
  rw [getElem?_modifyAt, if_pos rfl, Vector.getElem?_eq_getElem hk]
  exact setWidth_setWidth_mask v 64

theorem State.csrWrite_srStack_value (s : State) (v : Word) {k : Nat} (hk : k + 4 ≤ 8) :
    (s.csrWrite (.srStack k) v).csrValue (.srStack k) = v := by
  simp only [csrWrite, csrValue, srStackWord_setSrStack s.stack hk v]

/-- Settles O24: the numbers by the table, the values by the fields of each register, the other registers by where each
stands. -/
theorem csrNumbersAndFields : Obligations.CsrNumbersAndFields := by
  refine ⟨⟨fun p => ⟨csrOf_banked p, rfl, rfl, rfl, rfl, rfl, rfl, rfl, rfl, csrOf_key_epc p, rfl, rfl, rfl, rfl, rfl, rfl,
    fun k => csrOf_tvec p, rfl, rfl, rfl,
    fun n h => ⟨csrOf_av h, fun m hm hav hfirst => csrOf_vb h hm hav hfirst, csrOf_none h⟩⟩, ?_⟩,
    fun s v m n h => s.csrValue_csrWrite_other v (csrOf_stackAligned _ m) (csrOf_stackAligned _ n) h⟩
  intro s v
  refine ⟨fun w hw => ?sr, congrArg (BitVec.setWidth 128) s.srSeen_eq, ?vl,
    fun m hm => ⟨?cause, getD_setIfInBounds _ _ _ hm, ?vb⟩, fun k hk => ⟨?key, s.csrWrite_epc_value v hk⟩, fun k hk => ?tvec,
    s.csrWrite_srStack_value v (by omega), s.csrWrite_srStack_value v (by omega), RepBuf.word_ofWord v, rfl, rfl, rfl, rfl, setWidth_setWidth_mask v 12,
    setWidth_setWidth_mask v 64, setWidth_setWidth_mask v 48, rfl, setWidth_setWidth_and v 64 _,
    setWidth_setWidth_and v 64 _, ?readOnly, rfl, rfl, rfl, rfl⟩
  case sr => rw [hw, ← s.srWritable_eq]; rfl
  case vl => simp only [State.csrWrite, State.csrValue, BitVec.le_def]
  case cause => exact (congrArg _ (getD_setIfInBounds _ _ _ hm)).trans (setWidth_setWidth_mask v 12)
  case vb => exact (congrArg _ (getD_setIfInBounds _ _ _ hm)).trans (setWidth_setWidth_and v 64 _)
  case key => exact (congrArg _ (getD_setIfInBounds _ _ _ hk)).trans (setWidth_setWidth_mask v 24)
  case tvec => exact (congrArg _ (getD_setIfInBounds _ _ _ hk)).trans (setWidth_setWidth_mask v 64)
  case readOnly => rintro c (rfl | rfl | rfl | rfl | rfl) <;> rfl

end Sys2Proof.Machine

/-! What follows an instruction, by how it ended (60_exceptions R768; 49_modifiers R700, R717). -/

namespace Sys2Proof.Machine

variable {s t : State}

/-! The windows. -/

/-- A window after an instruction, in the words of 49_modifiers R700. -/
theorem windowAfter_eq (before after : Option Window) (r : Retire) (k : WinKind) :
    windowAfter before after (r == .opened k) =
      if before.isSome ∧ r ≠ .opened k then after.bind Window.next else after := by
  simp [windowAfter]

/-- The bus lock as mark 10 of ATOM's window (49_modifiers R710). -/
theorem Windows.lockMark_eq (w : Windows) : w.lockMark = match w.atom with
    | some a => decide (a.pair = 2)
    | .none => false := by
  unfold Windows.lockMark
  cases w.atom <;> rfl

/-- The state after an instruction that completed, but for REP: the windows moved on, a trace exception due where SR.te was
set. -/
def State.retired (s t : State) : State :=
  { t with
    win := { windowsAfter s.win t.retire t.win with locked := s.win.lockMark }
    traceDue := t.traceDue || s.te }

/-- REP counts the instruction: V = 1 before and after it, and rep_hold clear (49_modifiers R717; log 28). -/
def State.repCounts (s t : State) : Prop := s.repbuf.v = true ∧ t.repbuf.v = true ∧ s.repHold = false

theorem settle_uncounted (hc : t.retire.completed = true) (h : t.retire = .rep ∨ ¬ s.repCounts t) :
    settle s t = s.retired t := by
  have hno : ¬ (s.repbuf.v && t.repbuf.v && !s.repHold && t.retire != .rep) = true := by
    simp only [Bool.and_eq_true, bne_iff_ne, ne_eq, Bool.not_eq_true', not_and, Decidable.not_not]
    rintro ⟨⟨hs, ht⟩, hhold⟩
    exact h.resolve_right (not_not_intro ⟨hs, ht, hhold⟩)
  simp only [settle, if_pos hc]
  exact if_neg hno

theorem settle_counted (hc : t.retire.completed = true) (hr : t.retire ≠ .rep) (h : s.repCounts t) :
    settle s t = repAfter (t.retire == .jump) (s.retired t) := by
  obtain ⟨hs, ht, hhold⟩ := h
  simp only [settle, if_pos hc]
  exact if_pos (by simp [hs, ht, hhold, hr])

/-! REP. -/

/-- The test of a REP, in the words of 49_modifiers R716: the loop counter with the sign-extended limit, or one of its bits. -/
def repHolds (cnd : BitVec 3) (lc : Word) (limit : BitVec 32) : Prop :=
  let l : Word := limit.signExtend 128
  let bit := lc.getLsbD (limit.toNat % 128)
  match cnd.toNat with
  | 0 => lc = l
  | 1 => lc ≠ l
  | 2 => lc.toInt < l.toInt
  | 3 => lc.toInt ≤ l.toInt
  | 4 => l.toInt ≤ lc.toInt
  | 5 => l.toInt < lc.toInt
  | 6 => bit = false
  | _ => bit = true

theorem repTest_iff (cnd : BitVec 3) (lc : Word) (limit : BitVec 32) :
    repTest cnd lc limit = true ↔ repHolds cnd lc limit := by
  obtain rfl | rfl | rfl | rfl | rfl | rfl | rfl | rfl :
    cnd = 0 ∨ cnd = 1 ∨ cnd = 2 ∨ cnd = 3 ∨ cnd = 4 ∨ cnd = 5 ∨ cnd = 6 ∨ cnd = 7 := by revert cnd; decide
  all_goals simp [repTest, repHolds, BitVec.slt_iff_toInt_lt, BitVec.sle_iff_toInt_le]

/-- The loop counter after the last instruction of the body (49_modifiers R717). -/
def State.nextCount (t : State) : Word := t.reg 55 + if t.repbuf.ins.getLsbD 6 then 1 else -1

theorem repAfter_jumped (s : State) : repAfter true s = { s with repbuf := { s.repbuf with v := false } } := rfl

theorem repAfter_within (h : s.repbuf.icnt.toNat < (s.repbuf.ins.extractLsb' 3 3).toNat) :
    repAfter false s = { s with repbuf := { s.repbuf with icnt := s.repbuf.icnt + 1 } } := by
  simp only [repAfter, Bool.false_eq_true, if_false]
  exact if_pos h

theorem repAfter_last (h : (s.repbuf.ins.extractLsb' 3 3).toNat ≤ s.repbuf.icnt.toNat) :
    (repHolds (s.repbuf.ins.extractLsb' 0 3) s.nextCount s.repbuf.limit →
      repAfter false s = { s.setReg 55 s.nextCount with pc := s.repbuf.pc, repbuf := { s.repbuf with icnt := 0 } }) ∧
    (¬ repHolds (s.repbuf.ins.extractLsb' 0 3) s.nextCount s.repbuf.limit →
      repAfter false s = { s.setReg 55 s.nextCount with repbuf := { s.repbuf with v := false, icnt := 0 } }) := by
  have hlast : ¬ s.repbuf.icnt < s.repbuf.ins.extractLsb' 3 3 := Nat.not_lt.2 h
  simp only [repAfter, Bool.false_eq_true, if_false, if_neg hlast, ← repTest_iff]
  exact ⟨fun ht => if_pos ht, fun ht => if_neg ht⟩

/-! Eight instructions. -/

/-- A window that moves on at each of eight instructions is at the position of each, and closed after the last (49_modifiers
R700). -/
theorem window_lasts_eight {g : Nat → Option Window} {m : BitVec 24} (h : ∀ n, n < 8 → g (n + 1) = (g n).bind Window.next)
    (h0 : g 0 = some ⟨m, 0⟩) : (∀ n, n < 8 → g n = some ⟨m, .ofNat 3 n⟩) ∧ g 8 = none := by
  have hopen : ∀ n, n < 8 → g n = some ⟨m, .ofNat 3 n⟩ := by
    intro n hn
    induction n with
    | zero => exact h0
    | succ n ih =>
      have hpos : BitVec.ofNat 3 n ≠ 7 := by
        intro h7
        have := congrArg BitVec.toNat h7
        simp at this
        omega
      rw [h n (by omega), ih (by omega)]
      simp only [Option.bind_some, Window.next, if_neg hpos, BitVec.ofNat_add]
      rfl
  exact ⟨hopen, by rw [h 7 (by omega), hopen 7 (by omega)]; rfl⟩

theorem repAfter_win (jumped : Bool) (s : State) : (repAfter jumped s).win = s.win :=
  iteInduction (motive := fun t : State => t.win = s.win) (fun _ => rfl) fun _ =>
    iteInduction (motive := fun t : State => t.win = s.win) (fun _ => rfl) fun _ =>
      iteInduction (motive := fun t : State => t.win = s.win) (fun _ => s.win_setReg 55 s.nextCount)
        fun _ => s.win_setReg 55 s.nextCount

/-- The windows of the state after an instruction that completed: REP changes none. -/
theorem settle_win (h : t.retire.completed = true) :
    (settle s t).win = { windowsAfter s.win t.retire t.win with locked := s.win.lockMark } := by
  by_cases hc : t.retire = .rep ∨ ¬ s.repCounts t
  · rw [settle_uncounted h hc]; rfl
  · obtain ⟨hr, hcounts⟩ := not_or.1 hc
    rw [settle_counted h hr (not_not.1 hcounts), repAfter_win]
    rfl

/-- What an instruction that opens no window and leaves the windows alone does to them. -/
theorem settle_passes {f : Windows → Option Window} (hwin : t.win = s.win)
    (hr : t.retire = .seq ∨ t.retire = .jump ∨ t.retire = .rep)
    (hf : ∃ k, ∀ w r v, f { windowsAfter w r v with locked := w.lockMark } = windowAfter (f w) (f v) (r == .opened k)) :
    f (settle s t).win = (f s.win).bind Window.next := by
  obtain ⟨k, hf⟩ := hf
  have hc : t.retire.completed = true := by obtain h | h | h := hr <;> rw [h] <;> rfl
  have hno : t.retire ≠ .opened k := by obtain h | h | h := hr <;> rw [h] <;> nofun
  rw [settle_win hc, hf, hwin, windowAfter_eq]
  cases f s.win with
  | none => rfl
  | some w => exact if_pos ⟨rfl, hno⟩

/-- Settles O50: `settle` by how the instruction ended, REP by its three cases, and eight instructions by induction. -/
theorem windowsAndRepeatsAfterAnInstruction : Obligations.WindowsAndRepeatsAfterAnInstruction := by
  refine ⟨fun s t => ?_, fun s t m h => ?_⟩
  · intro marked next carry u counts b stops lc l bit holds
    have hmarked : s.win.lockMark = marked := s.win.lockMark_eq
    have hu : u = s.retired t := by
      simp only [State.retired, windowsAfter, windowAfter_eq, hmarked]
      rfl
    clear_value u
    subst hu
    refine ⟨fun h => ?_, fun hcounts hj => ?_, fun hcounts hr => ?_, fun ha => ?_, fun ht => ?_, fun h => ?_⟩
    · have hc : t.retire.completed = true := by obtain h | ⟨-, h | h | ⟨k, h⟩⟩ := h <;> rw [h] <;> rfl
      exact settle_uncounted hc (h.imp id And.left)
    · have hc : t.retire.completed = true := by rw [hj]; rfl
      rw [settle_counted hc (by rw [hj]; nofun) hcounts, hj]
      exact repAfter_jumped _
    · have hc : t.retire.completed = true ∧ t.retire ≠ .rep ∧ (t.retire == .jump) = false := by
        obtain h | ⟨k, h⟩ := hr <;> rw [h] <;> exact ⟨rfl, nofun, rfl⟩
      rw [settle_counted hc.1 hc.2.1 hcounts, hc.2.2]
      exact ⟨repAfter_within (s := s.retired t), repAfter_last (s := s.retired t)⟩
    · simp only [settle, ha, ← hmarked]
      rfl
    · simp only [settle, ht, Retire.completed, Bool.false_eq_true, if_false, beq_self_eq_true, Bool.true_and,
        Bool.and_eq_true, Bool.not_eq_true']
      rfl
    · obtain h | h := h <;> simp only [settle, h] <;> rfl
  · intro lasts
    have hwindow : ∀ f : Windows → Option Window, (∃ k, ∀ w r v,
        f { windowsAfter w r v with locked := w.lockMark } = windowAfter (f w) (f v) (r == .opened k)) → lasts f := by
      intro f hf h0
      refine window_lasts_eight (fun n hn => ?_) h0
      obtain ⟨hwin, hr, hs⟩ := h n hn
      rw [hs]
      exact settle_passes hwin hr hf
    refine ⟨hwindow _ ⟨.pred, fun _ _ _ => rfl⟩, hwindow _ ⟨.carry, fun _ _ _ => rfl⟩, hwindow _ ⟨.atom, fun _ _ _ => rfl⟩,
      hwindow _ ⟨.round, fun _ _ _ => rfl⟩, fun h0 => ?_⟩
    have hclosed : (s 8).win.carry = none := (hwindow Windows.carry ⟨.carry, fun _ _ _ => rfl⟩ h0).2
    obtain ⟨-, hr, hs⟩ := h 7 (by omega)
    have hc : (t 7).retire.completed = true := by obtain h | h | h := hr <;> rw [h] <;> rfl
    rw [hs, settle_win hc] at hclosed ⊢
    exact windowsAfter_cy _ _ _ hclosed

end Sys2Proof.Machine

/-! Accesses that reach a byte nothing claims, under flat translation (20_memory R106, R113): what is read, what stays written,
and the Bus Error. -/

namespace Sys2Proof.Machine

variable {s t : State} {va : Addr} {n b : Nat}

/-- Byte `b` is the first of the `n` bytes at `va` that nothing claims, and none of them is a unit's. -/
structure State.Gap (s : State) (va : Addr) (n b : Nat) : Prop where
  flat : s.flat
  lt : b < n
  device : ∀ i, i < n → s.device (va + .ofNat 64 i).toNat = none
  below : ∀ i, i < b → s.claimed (va + .ofNat 64 i).toNat = true
  unclaimed : s.claimed (va + .ofNat 64 b).toNat = false

theorem add_ofNat_add_ofNat (va : Addr) (f i : Nat) : va + .ofNat 64 f + .ofNat 64 i = va + .ofNat 64 (f + i) := by
  rw [BitVec.add_assoc, ← BitVec.ofNat_add]

/-- The bytes below the gap are memory. -/
theorem State.Gap.ram (h : s.Gap va n b) {f : Nat} (hf : f ≤ b) : s.ram va f :=
  ⟨h.flat, fun i hi => ⟨h.below i (by omega), h.device i (by have := h.lt; omega)⟩⟩

/-- The gap in a first piece that reaches it. -/
theorem State.Gap.first (h : s.Gap va n b) {f : Nat} (hb : b < f) (hf : f ≤ n) : s.Gap va f b :=
  { h with lt := hb, device := fun i hi => h.device i (by omega) }

/-- The gap in the second piece, where the first does not reach it. -/
theorem State.Gap.second (h : s.Gap va n b) {f : Nat} (hf : f ≤ b) : s.Gap (va + .ofNat 64 f) (n - f) (b - f) where
  flat := h.flat
  lt := by have := h.lt; omega
  device i hi := by rw [add_ofNat_add_ofNat]; exact h.device _ (by omega)
  below i hi := by rw [add_ofNat_add_ofNat]; exact h.below _ (by omega)
  unclaimed := by rw [add_ofNat_add_ofNat, Nat.add_sub_cancel' hf]; exact h.unclaimed

/-- A gap stays where the parameters do: the units and the memory map are of the parameters only. -/
theorem State.Gap.store (h : s.Gap va n b) (pa k v : Nat) : (s.store pa k v).Gap va n b := ⟨h.flat, h.lt, h.device, h.below,
  h.unclaimed⟩

/-- Nothing answers for bytes of one page with a gap. -/
theorem State.Gap.target (h : s.Gap va n b) (hn : n ≤ 16384 - va.toNat % 16384) : s.target va.toNat n = .nothing := by
  have hdev : ∀ i, i < n → s.device (va.toNat + i) = none := fun i hi => by
    rw [← toNat_add_page va (by omega)]; exact h.device i hi
  have hstrict : ((List.range n).any fun i => s.strict (va.toNat + i)) = false := by
    simpa [List.any_eq_false, State.strict] using fun i hi => by rw [hdev i hi]
  have hclaimed : ((List.range n).all fun i => s.claimed (va.toNat + i)) = false := by
    have hgap := h.unclaimed
    rw [toNat_add_page va (by have := h.lt; omega)] at hgap
    simpa [List.all_eq_false] using ⟨b, h.lt, hgap⟩
  unfold State.target
  rw [hstrict, hclaimed]
  rfl

/-- The Bus Error names the first byte of the gap (20_memory R106). -/
theorem State.Gap.busError {α : Type} (h : s.Gap va n b) (hn : n ≤ 16384 - va.toNat % 16384) :
    (Machine.busError va va.toNat n s : Acc α) = .trap ⟨2, some (va + .ofNat 64 b)⟩ s := by
  have hb := h.lt
  have hfind : ((List.range n).find? fun i => !s.claimed (va.toNat + i)) = some b := by
    rw [List.find?_range_eq_some]
    have hgap := h.unclaimed
    rw [toNat_add_page va (by omega)] at hgap
    refine ⟨by simpa using hgap, by simpa using hb, fun j hj => ?_⟩
    have hbelow := h.below j hj
    rw [toNat_add_page va (by omega)] at hbelow
    simpa using hbelow
  simp only [Machine.busError, hfind, Option.getD_some]

theorem State.Gap.readPiece (h : s.Gap va n b) (hn : n ≤ 16384 - va.toNat % 16384) (k : Kind) (m : BitVec 2) :
    Machine.readPiece k m va n s = .trap ⟨2, some (va + .ofNat 64 b)⟩ s := by
  simp only [Machine.readPiece, State.virt_flat h.flat, locate_flat h.flat, Acc.bind, busRead, h.target hn, h.busError hn]

theorem State.Gap.writePiece (h : s.Gap va n b) (hn : n ≤ 16384 - va.toNat % 16384) (m : BitVec 2) (v : Nat) :
    Machine.writePiece m va n v s = .trap ⟨2, some (va + .ofNat 64 b)⟩ s := by
  simp only [Machine.writePiece, State.virt_flat h.flat, locate_flat h.flat, Acc.bind, busWrite, h.target hn, h.busError hn]

/-- MemRead of bytes with a gap changes nothing. -/
theorem State.Gap.memReadAs (h : s.Gap va n b) (hn : n ≤ 16384) (k : Kind) (m : BitVec 2) :
    Machine.memReadAs k m va n s = .trap ⟨2, some (va + .ofNat 64 b)⟩ s := by
  unfold Machine.memReadAs
  obtain ⟨h1, h2⟩ | ⟨h1, h2, -, h4⟩ := inPage_cases va hn
  · simp only [h1, if_true]
    exact h.readPiece h2 k m
  · simp only [if_neg (Nat.ne_of_lt h1)]
    by_cases hb : b < inPage va n
    · rw [(h.first hb (Nat.le_of_lt h1)).readPiece (by omega)]
      rfl
    · rw [readPiece_ram (h.ram (Nat.not_lt.1 hb)) (by omega)]
      simp only [Acc.bind]
      rw [(h.second (Nat.not_lt.1 hb)).readPiece h4, add_ofNat_add_ofNat, Nat.add_sub_cancel' (Nat.not_lt.1 hb)]

/-- A byte of the low part of a value is that of the value. -/
theorem ofNat_byte_mod (v : Nat) {f i : Nat} (hi : i < f) :
    BitVec.ofNat 8 (v % 256 ^ f / 256 ^ i) = .ofNat 8 (v / 256 ^ i) := by
  have hsplit : 256 ^ f = 256 ^ i * 256 ^ (f - i) := by rw [← Nat.pow_add, Nat.add_sub_cancel' (Nat.le_of_lt hi)]
  rw [hsplit, Nat.mod_mul_right_div_self]
  apply BitVec.eq_of_toNat_eq
  simp only [BitVec.toNat_ofNat]
  exact Nat.mod_mod_of_dvd _ (dvd_pow_self 256 (by omega))

/-- The bytes a write with a gap leaves written: those of the first page, where the gap is beyond it. -/
def writtenBefore (va : Addr) (b : Nat) : Nat :=
  if 16384 - va.toNat % 16384 ≤ b then 16384 - va.toNat % 16384 else 0

/-- MemWrite to bytes with a gap: the piece in the first page is done where the gap is in the second, and stays done
(20_memory R106). -/
theorem State.Gap.memWriteAs (h : s.Gap va n b) (hn : n ≤ 16384) (m : BitVec 2) (v : Nat) (hw : Memory.wf s.mem = true) :
    ∃ t, Machine.memWriteAs m va n v s = .trap ⟨2, some (va + .ofNat 64 b)⟩ t ∧ Stored s t va (writtenBefore va b) v ∧
      t = { s with mem := t.mem, stale := t.stale } ∧ Memory.wf t.mem = true := by
  have hb := h.lt
  have hnone : b < 16384 - va.toNat % 16384 → Stored s s va (writtenBefore va b) v := fun hlt => by
    rw [writtenBefore, if_neg (by omega)]
    exact ⟨fun i hi => absurd hi (by omega), fun _ _ => rfl⟩
  unfold Machine.memWriteAs
  obtain ⟨h1, h2⟩ | ⟨h1, h2, -, h4⟩ := inPage_cases va hn
  · simp only [h1, if_true]
    exact ⟨s, h.writePiece h2 m v, hnone (by omega), rfl, hw⟩
  · simp only [if_neg (Nat.ne_of_lt h1)]
    by_cases hbf : b < inPage va n
    · refine ⟨s, ?_, hnone (by omega), rfl, hw⟩
      rw [(h.first hbf (Nat.le_of_lt h1)).writePiece (by omega)]
      rfl
    · have hfb := Nat.not_lt.1 hbf
      refine ⟨s.store va.toNat (inPage va n) (v % 256 ^ inPage va n), ?_, ?_, rfl, State.wf_store _ _ _ hw⟩
      · rw [writePiece_ram (h.ram hfb) (by omega)]
        simp only [Acc.bind]
        rw [((h.second hfb).store _ _ _).writePiece h4, add_ofNat_add_ofNat, Nat.add_sub_cancel' hfb]
      · rw [writtenBefore, if_pos (by omega), ← h2]
        obtain ⟨hbyte, hother⟩ := State.stored_store va (inPage va n) (v % 256 ^ inPage va n) hw (by omega)
        exact ⟨fun i hi => (hbyte i hi).trans (ofNat_byte_mod v hi), hother⟩

end Sys2Proof.Machine

/-! The state after reset, and the step of the reset input (10_state R80; 70_reset R830). -/

namespace Sys2Proof.Machine

variable {s t : State}

/-! What depends on the parameters only, and what on memory only. -/

/-- The memory map and the units depend on the parameters only (20_memory R111, R113). -/
theorem State.map_params (h : t.params = s.params) : t.device = s.device ∧ t.claimed = s.claimed := by
  have hdev : t.device = s.device := by
    funext pa
    simp only [State.device, State.windows, State.physOnes, State.phys, h]
  refine ⟨hdev, funext fun pa => ?_⟩
  simp only [State.claimed, hdev, h]

theorem State.flat_params (h : t.params = s.params) (hs : s.flat) : t.flat := by
  unfold State.flat
  rw [h]
  exact hs

theorem State.ram_params (h : t.params = s.params) {va : Addr} {n : Nat} (hs : s.ram va n) : t.ram va n := by
  obtain ⟨hdev, hclaimed⟩ := State.map_params h
  refine ⟨State.flat_params h hs.1, ?_⟩
  rw [hdev, hclaimed]
  exact hs.2

theorem State.data_mem (h : t.mem = s.mem) (va : Addr) (n : Nat) : t.data va n = s.data va n := by
  induction n generalizing va with
  | zero => rfl
  | succ n ih => simp only [State.data, State.byte, h, ih]

/-- Memory that lists nothing holds zeros (log 3). -/
theorem State.data_nil (h : s.mem = []) (va : Addr) (n : Nat) : s.data va n = 0 := by
  induction n generalizing va with
  | zero => rfl
  | succ n ih => simp [State.data, State.byte, h, ih, Memory.read]

/-! The reset input. -/

/-- AV_RESET gives AV but for its low four bits (10_state R69). -/
theorem getLsbD_avReset (v : BitVec 64) (i : Nat) : (v &&& ~~~0xF).getLsbD i = (decide (4 ≤ i) && v.getLsbD i) := by
  have hmask : (0xF : BitVec 64) = (BitVec.allOnes 4).setWidth 64 := rfl
  rw [hmask]
  simp only [BitVec.getLsbD_and, BitVec.getLsbD_not, BitVec.getLsbD_setWidth, BitVec.getLsbD_allOnes]
  by_cases hi : i < 64
  · by_cases h4 : i < 4
    · simp [hi, h4]
    · simp [hi, h4, Nat.not_lt.1 h4]
  · simp [BitVec.getLsbD_of_ge v i (by omega)]

/-- The reset input before anything else in the step (70_reset R830). -/
theorem step_reset (h : s.resetAsked = true) : step s = resetStep s.takeInputs.takeMmu := if_pos h

theorem resetStep_zero (h : s.params.resetMode = .zero) : resetStep s = .next s.afterReset := by
  have hm : s.afterReset.params.resetMode = .zero := h
  simp only [resetStep, hm]

/-- With RESET_MODE vector the octas at addresses 0 and 8, read with the rights of machine mode, are MSP and the program
counter. -/
theorem resetStep_vector (h : s.params.resetMode = .vector) {sp pc : Nat} {u : State}
    (hsp : memReadAs .read 3 0 8 s.afterReset = .ok sp t) (hpc : memReadAs .read 3 8 8 t = .ok pc u) :
    resetStep s = .next { u with msp := .ofNat 128 sp, pc := .ofNat 64 pc } := by
  have hm : s.afterReset.params.resetMode = .vector := h
  simp only [resetStep, hm, hsp, Acc.bind, hpc]

/-- Where one of them cannot be read the core halts (log 26). -/
theorem resetStep_halts (h : s.params.resetMode = .vector) {e : Exc}
    (hr : memReadAs .read 3 0 8 s.afterReset = .trap e t ∨
      ∃ sp u, memReadAs .read 3 0 8 s.afterReset = .ok sp u ∧ memReadAs .read 3 8 8 u = .trap e t) :
    resetStep s = .next { t with halted := true } := by
  have hm : s.afterReset.params.resetMode = .vector := h
  obtain hsp | ⟨sp, u, hsp, hpc⟩ := hr
  · simp only [resetStep, hm, hsp, Acc.bind]
  · simp only [resetStep, hm, hsp, Acc.bind, hpc]

/-- The sixteen bytes of the reset vector are its two octas. -/
theorem State.ram_resetVector (h : s.ram 0 16) : s.ram 0 8 ∧ s.ram 8 8 :=
  ⟨State.ram_mono h (by omega), State.ram_add (va := 0) (m := 8) h⟩

/-- A gap in the sixteen bytes of the reset vector is in its first octa or in its second. -/
theorem State.gap_resetVector (hf : s.flat) (hd : ∀ i, i < 16 → s.device i = none) (hc : ∃ i, i < 16 ∧ s.claimed i = false) :
    ∃ b, s.Gap 0 8 b ∨ s.ram 0 8 ∧ s.Gap 8 8 b := by
  obtain ⟨i, hi, hci⟩ := hc
  have hex : ∃ i, s.claimed i = false := ⟨i, hci⟩
  have haddr : ∀ j, j < 16 → ((0 : Addr) + .ofNat 64 j).toNat = j := fun j hj =>
    (toNat_add_page 0 (by simp; omega)).trans (by simp)
  have hlt : Nat.find hex < 16 := Nat.lt_of_le_of_lt (Nat.find_min' hex hci) hi
  have hgap : s.Gap 0 16 (Nat.find hex) :=
    { flat := hf
      lt := hlt
      device := fun j hj => by rw [haddr j hj]; exact hd j hj
      below := fun j hj => by rw [haddr j (by omega)]; simpa using Nat.find_min hex hj
      unclaimed := by rw [haddr _ hlt]; exact Nat.find_spec hex }
  by_cases h8 : Nat.find hex < 8
  · exact ⟨_, .inl (hgap.first h8 (by omega))⟩
  · exact ⟨_, .inr ⟨hgap.ram (Nat.not_lt.1 h8), hgap.second (f := 8) (Nat.not_lt.1 h8)⟩⟩

/-- Settles O54: the reset state field by field, the step of the reset input by what reading its vector does. -/
theorem resetValues : Obligations.ResetValues := by
  unfold Obligations.ResetValues
  intro fresh
  have hfresh : ∀ m : State, fresh m.params m.afterReset := by
    intro m
    have hpit : ∀ n : Fin 32, Pit.reset.timers[n.val] = ⟨0, 0, 0, 0, 0, 0, 0⟩ := fun _ => Vector.getElem_replicate _
    have hsr : (0xCE0#32).extractLsb' 10 2 = 3 ∧ (0xCE0#32).getLsbD 3 = false ∧ (0xCE0#32).extractLsb' 5 3 = 7 ∧
        (0xCE0#32).getLsbD 9 = false := by decide
    obtain ⟨hmode, hbit, hipl, hte⟩ := hsr
    refine ⟨rfl, hmode, hbit, hipl, hte, fun _ => Vector.getElem_replicate _, rfl, rfl, rfl, rfl, rfl, rfl, rfl, rfl,
      fun k => ?_,
      getLsbD_avReset _, rfl, rfl, fun _ => Vector.getElem_replicate _, rfl, rfl, rfl, ?_, fun before e after he hlast => ?_,
      fun slot hslot => ?_⟩
    · have hslot : m.afterReset.stack[k.val] = ⟨0, 0, false, false⟩ := Vector.getElem_replicate _
      rw [hslot]
      exact ⟨rfl, rfl⟩
    · rintro t (rfl | rfl) <;> exact ⟨hpit, rfl, rfl, rfl, rfl⟩
    · have hget : m.afterReset.tlb.get e.1 = ⟨e.2.1, e.2.2, 0, 0, none⟩ := Tlb.get_reset_listed he hlast
      rw [hget]
      exact ⟨rfl, rfl, rfl⟩
    · have hget : m.afterReset.tlb.get slot = ⟨0, 0, 0, 0, none⟩ := Tlb.get_reset_unlisted hslot
      rw [hget]
      rfl
  clear_value fresh
  refine ⟨fun p => ?_, fun s hs => ?_⟩
  · intro r
    exact ⟨hfresh r, fun _ => rfl, fun _ _ => ⟨by rw [State.data_nil rfl]; rfl, by rw [State.data_nil rfl]; rfl⟩⟩
  · intro m r
    have hp : m.params = s.params := s.before_timed.1
    have hpr : r.params = s.params := hp
    have hstep : step s = resetStep m := step_reset hs
    have hm : ∀ {k}, s.params.resetMode = k → m.params.resetMode = k := fun h => by rw [hp]; exact h
    refine ⟨hp ▸ hfresh m, rfl, rfl, rfl, fun hz => ?_, fun hv => ⟨fun hram => ?_, fun sp t pc u h1 h2 => ⟨?_, ?_⟩,
      fun hflat hdev hgap => ?_⟩⟩
    · rw [hstep]
      exact resetStep_zero (hm hz)
    · obtain ⟨hsp, hpc⟩ := State.ram_resetVector (State.ram_params hpr hram)
      have hdata : ∀ va n, m.afterReset.data va n = m.data va n := State.data_mem rfl
      rw [hstep, resetStep_vector (hm hv) (memReadAs_ram hsp (by omega)) (memReadAs_ram hpc (by omega)), hdata, hdata]
    · have hu := memReadAs_frame h2
      rw [memReadAs_frame h1] at hu
      exact hu
    · rw [hstep]
      exact resetStep_vector (hm hv) h1 h2
    · obtain ⟨hd, hc⟩ := State.map_params hpr
      obtain ⟨b, hb | ⟨hram, hb⟩⟩ := State.gap_resetVector (State.flat_params hpr hflat) (by rwa [hd]) (by rwa [hc])
      · rw [hstep, resetStep_halts (hm hv) (.inl (hb.memReadAs (by omega) _ _))]
      · rw [hstep, resetStep_halts (hm hv) (.inr ⟨_, _, memReadAs_ram hram (by omega), hb.memReadAs (by omega) _ _⟩)]

end Sys2Proof.Machine

/-! The CARRY window (49_modifiers R714, R715): the carry that goes into a scalar sum or product, and the one that comes out of
it or of a quotient. -/

namespace Sys2Proof.Machine

variable {s : State} {x : Ext} {c : Instr} {rt : Reg} {w : Nat}

/-! Scalar results. -/

/-- The state with other windows and another count of values drawn. -/
def State.leaving (s : State) (W : Windows) (d : Nat) : State := { s with win := W, draws := d }

theorem State.setReg_leaving (s : State) (W : Windows) (d : Nat) (r : Reg) (v : Word) :
    (s.leaving W d).setReg r v = (s.setReg r v).leaving W d := by
  unfold State.setReg
  split
  · rfl
  · split
    · rfl
    · split
      · obtain h | h | h | h := mode_cases s.mode <;> simp only [State.leaving, State.mode] at h ⊢ <;> rw [h] <;> rfl
      · rfl

/-- A scalar instruction whose result is `v`, and that leaves other windows and draws values. -/
theorem exec_scalar_ok {f : Nat → State → Acc Word} {v : Word} {W : Windows} {d : Nat} (he : s.enabled x false)
    (hrun : exec c s = runExt x false (alu w false rt x.mask f) s) (hf : f 0 s = .ok v (s.leaving W d)) :
    exec c s = .next ((s.wrote (extLen x) rt v).leaving W d) := by
  rw [hrun, runExt_enabled he]
  simp only [alu, Bool.false_eq_true, if_false, hf, Acc.bind, State.setReg_leaving, finish]
  simp [State.leaving, State.wrote, State.passed]

/-- A scalar instruction whose operation raises an exception. -/
theorem exec_scalar_trap {f : Nat → State → Acc Word} {vec : BitVec 9} {bad : Option Addr} (he : s.enabled x false)
    (hrun : exec c s = runExt x false (alu w false rt x.mask f) s) (hf : f 0 s = .trap ⟨vec, bad⟩ s) : Traps c s vec bad := by
  intro a ha
  rw [hrun, runExt_enabled he]
  simp only [alu, Bool.false_eq_true, if_false, hf, Acc.bind]
  exact finish_trap ha

theorem r2M_scalar {d : Deco} {g : (w : Nat) → BitVec w → BitVec w → State → Acc Word} {o : R2} (h : o.vec = .scalar) :
    r2M d g o x s =
      runExt x false (alu o.size.bits false o.rt x.mask fun k => g o.size.bits (o.a d s k) (o.b d x.tail s k)) s := by
  unfold r2M runExt
  rw [h]
  rfl

theorem riM_scalar {d : Deco} {g : (w : Nat) → BitVec w → BitVec w → State → Acc Word} {o : RI} (h : o.vec = false) :
    riM d g o x s =
      runExt x false (alu o.size.bits false o.rt x.mask fun k => g o.size.bits (o.a d s k) (o.b x.tail)) s := by
  unfold riM
  rw [h]
  rfl

/-! The carry. -/

/-- The code of the window is the two mask bits of its position (49_modifiers R714). -/
theorem State.carryCode_eq {wd : Window} (h : s.win.carry = some wd) :
    s.carryCode = (wd.mask.getLsbD (2 * wd.pos.toNat), wd.mask.getLsbD (2 * wd.pos.toNat + 1)) := by
  simp [State.carryCode, h, Window.pair]

/-- The windows with the carry `k`, where one goes out. -/
def State.carried (s : State) (k : Nat) : Windows :=
  { s.win with cy := if s.carryCode.2 then .ofNat 128 k else s.win.cy }

theorem State.setCarry_carried (s : State) (k : Nat) : s.setCarry s.carryCode.2 k = s.leaving (s.carried k) s.draws := by
  unfold State.setCarry State.carried
  split <;> rfl

/-- The carry that goes in, or what a sum has without one. -/
def State.carryIn (s : State) (other : Nat) : Nat := if s.carryCode.1 then s.win.cy.toNat else other

/-- A result under its St bit. -/
def signedResult {w : Nat} (st : Bool) (v : BitVec w) : Word := (if st then -v else v).signExtend 128

theorem addCarry_eq (sub st : Bool) (a b : BitVec w) (s : State) :
    let q := a.toNat + (if sub then ~~~b else b).toNat + s.carryIn sub.toNat
    addCarry sub st w a b s =
      .ok (signedResult st (BitVec.ofNat w q)) (s.leaving (s.carried (q / 2 ^ w)) s.draws) := by
  intro q
  rw [← State.setCarry_carried]
  rfl

theorem mulCarry_eq (st : Bool) (p : Int) (s : State) :
    let q := ((p + if s.carryCode.1 then (s.win.cy.toNat : Int) else 0) % 2 ^ (2 * w)).toNat
    mulCarry st w p s = .ok (signedResult st (BitVec.ofNat w q)) (s.leaving (s.carried (q / 2 ^ w)) s.draws) := by
  intro q
  rw [← State.setCarry_carried]
  rfl

/-- Without a constant among the postfixes the register is the operand (30_encoding R231, R232). -/
theorem Tail.const_eq_none {t : Tail} : t.const = none ↔ t.hasConst = false := by simp [Tail.const]

theorem Tail.const_isSome {t : Tail} : t.const.isSome ↔ t.hasConst = true := by simp [Tail.const]

/-! Quotients and remainders (40_integer R337). -/

/-- The quotient as its signs have it. -/
def Signs.quotient (g : Signs) (a b : BitVec w) : BitVec w := BitVec.ofInt w ((g.fst a).tdiv (g.snd b))
/-- The remainder as its signs have it. -/
def Signs.remainder (g : Signs) (a b : BitVec w) : BitVec w := BitVec.ofInt w ((g.fst a).tmod (g.snd b))

theorem Signs.quotient_ss (a b : BitVec w) : Signs.ss.quotient a b = a.sdiv b :=
  BitVec.eq_of_toInt_eq (by rw [BitVec.toInt_sdiv]; exact BitVec.toInt_ofInt _)

theorem Signs.remainder_ss (a b : BitVec w) : Signs.ss.remainder a b = a.srem b := by
  show BitVec.ofInt w (a.toInt.tmod b.toInt) = _
  rw [← BitVec.toInt_srem, BitVec.ofInt_toInt]

theorem Signs.quotient_uu (a b : BitVec w) : Signs.uu.quotient a b = a / b := by
  show BitVec.ofInt w ((a.toNat : Int).tdiv b.toNat) = _
  rw [← Int.ofNat_tdiv, BitVec.ofInt_natCast]
  exact BitVec.eq_of_toNat_eq (by simp [Nat.mod_eq_of_lt (Nat.lt_of_le_of_lt (Nat.div_le_self _ _) a.isLt)])

theorem Signs.remainder_uu (a b : BitVec w) : Signs.uu.remainder a b = a % b := by
  show BitVec.ofInt w ((a.toNat : Int).tmod b.toNat) = _
  rw [← Int.ofNat_tmod, BitVec.ofInt_natCast]
  exact BitVec.eq_of_toNat_eq (by simp [Nat.mod_eq_of_lt (Nat.lt_of_le_of_lt (Nat.mod_le _ _) a.isLt)])

theorem divCarry_eq (g : Signs) (st : Bool) {a b : BitVec w} (s : State) (hb : b ≠ 0) :
    divCarry true g st w a b s =
      .ok (signedResult st (g.quotient a b)) (s.leaving (s.carried (g.remainder a b).toNat) s.draws) := by
  simp only [divCarry, divide, if_neg hb, Acc.bind, Bool.true_and, State.setCarry_carried]
  rfl

theorem divCarry_zero_traps (g : Signs) (st : Bool) (a : BitVec w) (h : s.params.div0Traps = true) :
    divCarry true g st w a 0 s = .trap ⟨64, none⟩ s := by
  simp only [divCarry, divide, if_true, h, Acc.bind]

/-- A zero divisor that does not trap gives a free quotient and a free remainder (log 7, 24). -/
theorem divCarry_zero_free (g : Signs) (st : Bool) (a : BitVec w) (h : s.params.div0Traps = false) :
    ∃ q r : BitVec w, divCarry true g st w a 0 s = .ok (signedResult st q) (s.leaving (s.carried r.toNat) (s.draws + 1)) := by
  refine ⟨Config.divZeroQuotient s.draws w, Config.divZeroRemainder s.draws w, ?_⟩
  simp only [divCarry, divide, if_true, h, Acc.bind, draw, Bool.true_and, Bool.false_eq_true, if_false]
  exact congrArg (Acc.ok _) (State.setCarry_carried { s with draws := s.draws + 1 } _)

theorem State.wrote_draws (s : State) (len : Nat) (rt : Reg) (v : Word) : (s.wrote len rt v).draws = s.draws :=
  s.draws_setReg rt v

/-- Settles O9: each sum, product and quotient with its carry, as the result of a scalar instruction. -/
theorem carryInAndCarryOut : Obligations.CarryInAndCarryOut := by
  intro o i x s wd hwin ho hi he cin cout cy w a b p n m gives sum prod open_ quot
  have hcode : s.carryCode = (cin, cout) := State.carryCode_eq hwin
  have hin : ∀ k, s.carryIn k = if cin then cy else k := fun k => by rw [State.carryIn, hcode]
  have hgives : ∀ {c : Instr} {z : Nat} {rt : Reg} {f : Nat → State → Acc Word} {v : Word} {k : Nat},
      exec c s = runExt x false (alu z false rt x.mask f) s →
      f 0 s = .ok v (s.leaving (s.carried k) s.draws) → gives c rt v k := by
    intro c z rt f v k hrun hf
    have hdone := exec_scalar_ok he hrun hf
    rw [← s.wrote_draws (extLen x) rt v, State.carried, hcode] at hdone
    exact hdone
  have hopen : ∀ {c : Instr} {z : Nat} {rt : Reg} {f : Nat → State → Acc Word} {g : Signs} {st : Bool} {e : BitVec z},
      exec c s = runExt x false (alu z false rt x.mask f) s → f 0 s = divCarry true g st z e 0 s → open_ c z rt st := by
    intro c z rt f g st e hrun hf
    refine ⟨fun hd => exec_scalar_trap he hrun (hf.trans (divCarry_zero_traps g st e hd)), fun hd => ?_⟩
    obtain ⟨q, r, hfree⟩ := divCarry_zero_free g st e hd
    refine ⟨q, r, (exec_scalar_ok he hrun (hf.trans hfree)).trans ?_⟩
    rw [State.carried, hcode]
    rfl
  have hadd : ∀ {c : Instr} {z : Nat} {rt : Reg} {f : Nat → State → Acc Word} {sub st : Bool} {e d : BitVec z},
      exec c s = runExt x false (alu z false rt x.mask f) s → f 0 s = addCarry sub st z e d s →
      let q := e.toNat + (if sub then ~~~d else d).toNat + if cin then cy else sub.toNat
      gives c rt (signedResult st (BitVec.ofNat z q)) (q / 2 ^ z) := by
    intro c z rt f sub st e d hrun hf
    rw [← hin]
    exact hgives hrun (hf.trans (addCarry_eq sub st e d s))
  have hmul : ∀ {c : Instr} {z : Nat} {rt : Reg} {f : Nat → State → Acc Word} {st : Bool} {r : Int},
      exec c s = runExt x false (alu z false rt x.mask f) s → f 0 s = mulCarry st z r s →
      let q := ((r + if cin then (cy : Int) else 0) % 2 ^ (2 * z)).toNat
      gives c rt (signedResult st (BitVec.ofNat z q)) (q / 2 ^ z) := by
    intro c z rt f st r hrun hf
    have hcarry : (if cin then (cy : Int) else 0) = if s.carryCode.1 then (s.win.cy.toNat : Int) else 0 := by rw [hcode]
    rw [hcarry]
    exact hgives hrun (hf.trans (mulCarry_eq st r s))
  have hdiv : ∀ {c : Instr} {z : Nat} {rt : Reg} {f : Nat → State → Acc Word} {g : Signs} {st : Bool} {e d : BitVec z},
      exec c s = runExt x false (alu z false rt x.mask f) s → f 0 s = divCarry true g st z e d s →
      (d ≠ 0 → gives c rt (signedResult st (g.quotient e d)) (g.remainder e d).toNat) ∧ (d = 0 → open_ c z rt st) := by
    intro c z rt f g st e d hrun hf
    refine ⟨fun hd => hgives hrun (hf.trans (divCarry_eq g st s hd)), fun hd => ?_⟩
    subst hd
    exact hopen hrun hf
  have hr2 : ∀ {c : Instr} {g : (w : Nat) → BitVec w → BitVec w → State → Acc Word} {o' : R2},
      exec c s = r2M .neg g o' x s → o'.vec = .scalar → exec c s = runExt x false (alu o'.size.bits false o'.rt x.mask
        fun k => g o'.size.bits (o'.a .neg s k) (o'.b .neg x.tail s k)) s := fun hc h => hc.trans (r2M_scalar h)
  have hri : ∀ {c : Instr} {g : (w : Nat) → BitVec w → BitVec w → State → Acc Word}, exec c s = riM .neg g i x s →
      exec c s = runExt x false (alu i.size.bits false i.rt x.mask
        fun k => g i.size.bits (i.a .neg s k) (i.b x.tail)) s := fun hc => hc.trans (riM_scalar hi)
  have hv : vbitsVec o.vec = false := by rw [ho]; rfl
  have hsub := hr2 (c := .sub o x) (execSub_eq_carry (x := x) hwin ho) ho
  have hdivr : ∀ {c : Instr} (g : Signs), exec c s = r2M .neg (divCarry (!vbitsVec o.vec) g o.st) o x s →
      quot c (g.quotient a b) (g.remainder a b) := fun g hc => hdiv (hr2 hc ho) (by rw [hv]; rfl)
  have hmulr : ∀ {c : Instr} (g : Signs), exec c s = r2M .neg (mulOp (vbitsVec o.vec) g o.st) o x s →
      prod c (g.fst a * g.snd b) := fun g hc => hmul (hr2 hc ho) (by rw [hv]; rfl)
  refine ⟨hadd (sub := false) (hr2 (g := addOp (vbitsVec o.vec) o.st) (o' := { o with sb := false }) rfl ho) (by rw [hv]; rfl),
    fun hnone => hadd (sub := true) hsub (by rw [Tail.const_eq_none.1 hnone]; rfl),
    fun hsome => hadd (sub := false) hsub (by rw [Tail.const_isSome.1 hsome]; rfl),
    hmulr .ss rfl, hmulr .uu rfl, hmulr .su rfl, ?_, ?_, hdivr .su rfl,
    hadd (sub := false) (hri (g := addOp i.vec i.st) rfl) (by rw [hi]; rfl),
    ⟨hmul (hri (g := mulOp i.vec .ss i.st) rfl) (by rw [hi]; rfl),
      hmul (hri (g := mulOp i.vec .uu i.st) rfl) (by rw [hi]; rfl)⟩, ?_⟩
  · have h := hdivr .ss (c := .div o x) rfl
    rwa [Signs.quotient_ss, Signs.remainder_ss] at h
  · have h := hdivr .uu (c := .divu o x) rfl
    rwa [Signs.quotient_uu, Signs.remainder_uu] at h
  · intro d e
    have h := hdiv (c := .divi i x) (g := .ss) (st := i.st) (e := e) (d := d) (hri (g := fun w a b s =>
      if i.sw then divCarry (!i.vec) .ss i.st w b a s else divCarry (!i.vec) .ss i.st w a b s) rfl) (by
        simp only [hi, d, e]
        by_cases hsw : i.sw = true <;> simp only [hsw] <;> rfl)
    rwa [Signs.quotient_ss, Signs.remainder_ss] at h

end Sys2Proof.Machine

/-! A trap at an element of a vector instruction (41_vector R383): what the loop over the elements leaves. Divisions
(40_integer R337). -/

namespace Sys2Proof.Machine

variable {s : State} {x : Ext} {c : Instr} {rt : Reg} {w : Nat}

/-- The loop over elements, in two parts. -/
theorem elemLoop_add (m : Word) (f : Nat → State → Acc Word) (a b k : Nat) (s : State) :
    elemLoop w rt m f (a + b) k s = (elemLoop w rt m f a k s).bind fun _ t => elemLoop w rt m f b (k + a) t := by
  induction a generalizing k s with
  | zero => rw [Nat.zero_add]; rfl
  | succ a ih =>
    rw [show a + 1 + b = (a + b) + 1 by omega, show k + (a + 1) = k + 1 + a by omega]
    simp only [elemLoop]
    split
    · cases f k s with
      | ok r t => exact ih _ _
      | trap e t => rfl
      | refuse r => rfl
    · exact ih _ _

/-- The masks a trap at element `k` leaves: restart from it up, and its bit of the error mask (41_vector R383). -/
def State.stopped (s : State) (k : Nat) : State :=
  { s with vrm := BitVec.allOnes 128 <<< k, verr := s.verr ||| 1#128 <<< k }

/-- A vector instruction whose results below element `k` are those `P` names, and whose element `k` raises an exception. -/
theorem elementTraps_alu {f : Nat → State → Acc Word} {P : Nat → BitVec w → Prop} {vec : BitVec 9} {bad : Option Addr}
    {k : Nat} {drawn : Bool} (hrun : exec c s = finish (extLen x) s (alu w true rt x.mask f s)) (hk : k < s.elems w)
    (hm : (s.vecMask x.mask).getLsbD k = true)
    (hbelow : ∀ j d v, j < k → (s.vecMask x.mask).getLsbD j = true →
      ∃ r d', f j (s.withVec rt v d) = .ok r (s.withVec rt v d') ∧ P j (r.setWidth w) ∧ (drawn = false → d' = d))
    (htrap : ∀ d v, f k (s.withVec rt v d) = .trap ⟨vec, bad⟩ (s.withVec rt v d)) :
    ElementTraps c s w rt (s.vecMask x.mask) vec bad k drawn P := by
  obtain ⟨u, d, hu, hd, hj⟩ := elemLoop_spec (w := w) (rt := rt) (m := s.vecMask x.mask) (f := f) (P := P) (s := s)
    (D := fun a b => drawn = false → b = a) (fun _ _ => rfl) (fun a b c h1 h2 h => (h2 h).trans (h1 h)) k 0 s.draws (s.vec rt)
    (by rw [Nat.zero_add]; exact (Nat.mul_le_mul_left w (Nat.le_of_lt hk)).trans (s.elems_le w))
    (fun j d v hjk hmj => hbelow j d v (by omega) hmj)
  rw [State.withVec_self] at hu
  have hloop : elemLoop w rt (s.vecMask x.mask) f (s.elems w) 0 s = .trap ⟨vec, bad⟩ ((s.withVec rt u d).stopped k) := by
    obtain ⟨n, hn⟩ : ∃ n, s.elems w = k + (n + 1) := ⟨s.elems w - k - 1, by omega⟩
    rw [hn, elemLoop_add, hu]
    simp only [Acc.bind, elemLoop, Nat.zero_add, hm, if_true, htrap]
    rfl
  intro a ha
  refine ⟨(s.withVec rt u d).stopped k, ?_, fun j _ => ?_, hd, ?_⟩
  · rw [hrun]
    simp only [alu, if_true, hloop, Acc.bind]
    exact finish_trap ha
  · have hv : ((s.withVec rt u d).stopped k).vec rt = u := State.vec_withVec s rt u d
    have helem := hj j
    simp only [State.elem, hv]
    by_cases hc : j < k ∧ j < s.elems w ∧ (s.vecMask x.mask).getLsbD j = true
    · rw [if_pos hc]
      rwa [if_pos ⟨by omega, by omega, hc.2.2⟩] at helem
    · rw [if_neg hc]
      rwa [if_neg fun h => hc ⟨by omega, by omega, h.2.2⟩] at helem
  · have hv : ((s.withVec rt u d).stopped k).vec rt = u := State.vec_withVec s rt u d
    rw [hv]
    rfl

/-! Divisions. -/

theorem size_bits_le (z : Size) : z.bits ≤ 128 := by cases z <;> decide

/-- An element takes the low bits of a result, which are the result (41_vector R380). -/
theorem setWidth_signExtend {w : Nat} (hw : w ≤ 128) (v : BitVec w) : (v.signExtend 128).setWidth w = v := by
  refine BitVec.eq_of_getLsbD_eq fun i hi => ?_
  simp only [BitVec.getLsbD_setWidth, BitVec.getLsbD_signExtend, hi, show i < 128 by omega, decide_true,
    Bool.true_and, if_true]

/-- A vector division with a zero divisor at element `k`, under DIV0_TRAPS. -/
theorem elementTraps_div {f : Nat → State → Acc Word} {k : Nat} {st : Bool} {d r : Nat → BitVec w} (hw : w ≤ 128)
    (hrun : exec c s = finish (extLen x) s (alu w true rt x.mask f s))
    (hok : ∀ j t, d j ≠ 0 → f j t = .ok (signedResult st (r j)) t)
    (hzero : ∀ j t, d j = 0 → t.params.div0Traps = true → f j t = .trap ⟨64, none⟩ t) (h0 : s.params.div0Traps = true)
    (hk : k < s.elems w ∧ (s.vecMask x.mask).getLsbD k = true) (hd : d k = 0)
    (hbelow : ∀ j, j < k → (j < s.elems w ∧ (s.vecMask x.mask).getLsbD j = true) → d j ≠ 0) :
    ElementTraps c s w rt (s.vecMask x.mask) 64 none k false fun j v => v = if st then -r j else r j := by
  refine elementTraps_alu hrun hk.1 hk.2 (fun j n v hj hm => ⟨_, n, hok j _ (hbelow j hj ⟨?_, hm⟩), ?_, fun _ => rfl⟩)
    fun n v => hzero k _ hd h0
  · have := hk.1
    omega
  · exact setWidth_signExtend hw _

/-- A quotient of a vector instruction leaves no carry (41_vector R384). -/
theorem divCarry_vector (g : Signs) (st : Bool) (a b : BitVec w) (t : State) :
    (b ≠ 0 → divCarry false g st w a b t = .ok (signedResult st (g.quotient a b)) t) ∧
      (b = 0 → t.params.div0Traps = true → divCarry false g st w a b t = .trap ⟨64, none⟩ t) := by
  refine ⟨fun hb => ?_, fun hb hd => ?_⟩
  · simp only [divCarry, divide, if_neg hb, Acc.bind]
    rfl
  · simp only [divCarry, divide, if_pos hb, hd, if_true, Acc.bind]

theorem modOp_vector (g : Signs) (st : Bool) (a b : BitVec w) (t : State) :
    (b ≠ 0 → modOp g st w a b t = .ok (signedResult st (g.remainder a b)) t) ∧
      (b = 0 → t.params.div0Traps = true → modOp g st w a b t = .trap ⟨64, none⟩ t) := by
  refine ⟨fun hb => ?_, fun hb hd => ?_⟩
  · simp only [modOp, divide, if_neg hb, Acc.map, Acc.bind]
    rfl
  · simp only [modOp, divide, if_pos hb, hd, if_true, Acc.map, Acc.bind]

theorem r2M_vector {d : Deco} {g : (w : Nat) → BitVec w → BitVec w → State → Acc Word} {o : R2} (h : o.vec ≠ .scalar)
    (hp : s.predOk = true) (hc : exec c s = r2M d g o x s) :
    exec c s = finish (extLen x) s
      (alu o.size.bits true o.rt x.mask (fun k => g o.size.bits (o.a d s k) (o.b d x.tail s k)) s) := by
  have hv : vbitsVec o.vec = true := by simpa [vbitsVec] using h
  rw [hc, r2M, hv, runExt_enabled ⟨hp, .inl rfl⟩]

theorem riM_vector {d : Deco} {g : (w : Nat) → BitVec w → BitVec w → State → Acc Word} {o : RI} (h : o.vec = true)
    (hp : s.predOk = true) (hc : exec c s = riM d g o x s) :
    exec c s = finish (extLen x) s
      (alu o.size.bits true o.rt x.mask (fun k => g o.size.bits (o.a d s k) (o.b x.tail)) s) := by
  rw [hc, riM, h, runExt_enabled ⟨hp, .inl rfl⟩]

/-- The division instructions of the register format trap at the first zero divisor. -/
theorem elementTraps_quotient {o : R2} {g : Signs} {k : Nat} (hp : s.predOk = true) (h0 : s.params.div0Traps = true)
    (hv : o.vec ≠ .scalar) (hc : exec c s = r2M .neg (divCarry (!vbitsVec o.vec) g o.st) o x s)
    (hk : k < s.elems o.size.bits ∧ (s.vecMask x.mask).getLsbD k = true) (hd : o.b .neg x.tail s k = 0)
    (hbelow : ∀ j, j < k → (j < s.elems o.size.bits ∧ (s.vecMask x.mask).getLsbD j = true) → o.b .neg x.tail s j ≠ 0) :
    ElementTraps c s o.size.bits o.rt (s.vecMask x.mask) 64 none k false fun j v =>
      v = if o.st then -g.quotient (o.a .neg s j) (o.b .neg x.tail s j)
        else g.quotient (o.a .neg s j) (o.b .neg x.tail s j) := by
  have hvec : vbitsVec o.vec = true := by simpa [vbitsVec] using hv
  rw [hvec] at hc
  exact elementTraps_div (size_bits_le o.size) (r2M_vector hv hp hc) (fun j t => (divCarry_vector g o.st _ _ t).1)
    (fun j t => (divCarry_vector g o.st _ _ t).2) h0 hk hd hbelow

/-- And so do those that give the remainder. -/
theorem elementTraps_remainder {o : R2} {g : Signs} {k : Nat} (hp : s.predOk = true) (h0 : s.params.div0Traps = true)
    (hv : o.vec ≠ .scalar) (hc : exec c s = r2M .neg (modOp g o.st) o x s)
    (hk : k < s.elems o.size.bits ∧ (s.vecMask x.mask).getLsbD k = true) (hd : o.b .neg x.tail s k = 0)
    (hbelow : ∀ j, j < k → (j < s.elems o.size.bits ∧ (s.vecMask x.mask).getLsbD j = true) → o.b .neg x.tail s j ≠ 0) :
    ElementTraps c s o.size.bits o.rt (s.vecMask x.mask) 64 none k false fun j v =>
      v = if o.st then -g.remainder (o.a .neg s j) (o.b .neg x.tail s j)
        else g.remainder (o.a .neg s j) (o.b .neg x.tail s j) :=
  elementTraps_div (size_bits_le o.size) (r2M_vector hv hp hc) (fun _ t => (modOp_vector g o.st _ _ t).1)
    (fun _ t => (modOp_vector g o.st _ _ t).2) h0 hk hd hbelow

/-- DIVI traps at the first zero divisor, its operands swapped or not (40_integer R334). -/
theorem elementTraps_divi {o : RI} {k : Nat} (hp : s.predOk = true) (h0 : s.params.div0Traps = true) (hv : o.vec = true)
    (hk : k < s.elems o.size.bits ∧ (s.vecMask x.mask).getLsbD k = true)
    (hd : (if o.sw then o.a .neg s k else o.b x.tail) = 0)
    (hbelow : ∀ j, j < k → (j < s.elems o.size.bits ∧ (s.vecMask x.mask).getLsbD j = true) →
      (if o.sw then o.a .neg s j else o.b x.tail) ≠ 0) :
    ElementTraps (.divi o x) s o.size.bits o.rt (s.vecMask x.mask) 64 none k false fun j v =>
      v = if o.st then -(if o.sw then (o.b x.tail).sdiv (o.a .neg s j) else (o.a .neg s j).sdiv (o.b x.tail))
        else if o.sw then (o.b x.tail).sdiv (o.a .neg s j) else (o.a .neg s j).sdiv (o.b x.tail) := by
  have hrun := riM_vector (c := .divi o x) (g := fun w a b s => if o.sw then divCarry (!o.vec) .ss o.st w b a s
    else divCarry (!o.vec) .ss o.st w a b s) hv hp rfl
  simp only [hv, Bool.not_true] at hrun
  cases hsw : o.sw
  · simp only [hsw, Bool.false_eq_true, if_false] at hrun hd hbelow ⊢
    simp only [← Signs.quotient_ss]
    exact elementTraps_div (size_bits_le o.size) hrun (fun j t => (divCarry_vector .ss o.st _ _ t).1)
      (fun j t => (divCarry_vector .ss o.st _ _ t).2) h0 hk hd hbelow
  · simp only [hsw, if_true] at hrun hd hbelow ⊢
    simp only [← Signs.quotient_ss]
    exact elementTraps_div (size_bits_le o.size) hrun (fun j t => (divCarry_vector .ss o.st _ _ t).1)
      (fun j t => (divCarry_vector .ss o.st _ _ t).2) h0 hk hd hbelow

end Sys2Proof.Machine

/-! Bits of floating-point formats taken apart, and the exact conversion of a narrower format to quad precision (42_float
R405). -/

namespace Sys2Proof.Machine

variable {s : State} {f : Fmt} {neg : Bool} {ex sig : Nat}

theorem Fmt.withSign_fields (f : Fmt) (neg : Bool) (ex sig : Nat) :
    f.withSign neg (ex * 2 ^ f.m + sig) = (neg.toNat * 2 ^ f.e + ex) * 2 ^ f.m + sig := by
  cases neg
  · simp [Fmt.withSign]
  · simp only [Fmt.withSign, if_true, Fmt.signBit, Nat.pow_add, Bool.toNat_true]
    ring

/-- A sign, an exponent field and a significand field are the bits they make (42_float R402). -/
theorem Fmt.withSign_lt (hex : ex < 2 ^ f.e) (hsig : sig < 2 ^ f.m) :
    f.withSign neg (ex * 2 ^ f.m + sig) < 2 ^ (1 + f.e + f.m) := by
  rw [Fmt.withSign_fields, Nat.pow_add, Nat.pow_add]
  have hneg : neg.toNat ≤ 1 := Bool.toNat_le neg
  have hhigh : neg.toNat * 2 ^ f.e + ex < 2 ^ 1 * 2 ^ f.e := by
    have := Nat.mul_le_mul_right (2 ^ f.e) hneg
    omega
  calc _ < (neg.toNat * 2 ^ f.e + ex + 1) * 2 ^ f.m := by rw [Nat.add_one_mul]; omega
    _ ≤ _ := Nat.mul_le_mul_right _ hhigh

theorem Fmt.value_withSign (hex : ex < 2 ^ f.e) (hsig : sig < 2 ^ f.m) :
    f.value (f.withSign neg (ex * 2 ^ f.m + sig)) =
      if ex = 2 ^ f.e - 1 then if sig = 0 then .inf neg else .nan
      else if ex = 0 then .fin neg sig f.minExp else .fin neg (2 ^ f.m + sig) (ex - f.bias - f.m) := by
  have hm : 0 < 2 ^ f.m := Nat.two_pow_pos _
  have hlow : ((neg.toNat * 2 ^ f.e + ex) * 2 ^ f.m + sig) % 2 ^ f.m = sig := by
    rw [Nat.mul_add_mod_self_right, Nat.mod_eq_of_lt hsig]
  have hhigh : ((neg.toNat * 2 ^ f.e + ex) * 2 ^ f.m + sig) / 2 ^ f.m = neg.toNat * 2 ^ f.e + ex := by
    rw [Nat.add_comm, Nat.add_mul_div_right _ _ hm, Nat.div_eq_of_lt hsig, Nat.zero_add]
  have hexp : (neg.toNat * 2 ^ f.e + ex) % 2 ^ f.e = ex := by rw [Nat.mul_add_mod_self_right, Nat.mod_eq_of_lt hex]
  have hsign : ((neg.toNat * 2 ^ f.e + ex) * 2 ^ f.m + sig) / f.signBit % 2 = neg.toNat := by
    rw [Fmt.signBit, Nat.add_comm f.e, Nat.pow_add, ← Nat.div_div_eq_div_mul, hhigh,
      Nat.add_comm, Nat.add_mul_div_right _ _ (Nat.two_pow_pos _), Nat.div_eq_of_lt hex, Nat.zero_add]
    cases neg <;> rfl
  rw [Fmt.withSign_fields, Fmt.value]
  simp only [hlow, hhigh, hexp, hsign]
  cases neg <;> rfl

theorem Fmt.value_infBits (f : Fmt) (neg : Bool) : f.value (f.withSign neg f.infBits) = .inf neg := by
  have hinf := Fmt.value_withSign (f := f) (neg := neg) (Nat.sub_lt (Nat.two_pow_pos f.e) Nat.one_pos) (Nat.two_pow_pos f.m)
  rwa [if_pos rfl, if_pos rfl] at hinf

/-- What a NaN's bits are drawn from is a NaN (42_float R404; log 8). -/
theorem Fmt.value_quietNan (hm : 0 < f.m) (bits : Nat) :
    f.value (f.quietNan bits) = .nan ∧ f.quietNan bits < 2 ^ (1 + f.e + f.m) := by
  have hhalf : 2 ^ (f.m - 1) + 2 ^ (f.m - 1) = 2 ^ f.m := by rw [← Nat.two_mul, ← Nat.pow_succ']; congr 1; omega
  have hpos : 0 < 2 ^ (f.m - 1) := Nat.two_pow_pos _
  have hdraw : bits % 2 ^ (f.m - 1) < 2 ^ (f.m - 1) := Nat.mod_lt _ hpos
  have hex : 2 ^ f.e - 1 < 2 ^ f.e := Nat.sub_lt (Nat.two_pow_pos _) Nat.one_pos
  have hsig : 2 ^ (f.m - 1) + bits % 2 ^ (f.m - 1) < 2 ^ f.m := by omega
  rw [Fmt.quietNan, Fmt.infBits, Nat.add_assoc]
  refine ⟨?_, Fmt.withSign_lt hex hsig⟩
  rw [Fmt.value_withSign hex hsig, if_pos rfl, if_neg (by omega)]

theorem Fmt.overflow_le (f : Fmt) (rm : RoundMode) (neg : Bool) : f.overflow rm neg ≤ f.infBits := by
  cases rm with
  | nearestEven | nearestAway => exact Nat.le_refl _
  | towardZero => exact Nat.sub_le _ _
  | up | down => cases neg <;> simp [Fmt.overflow]

/-- What a conversion gives fits the format. -/
theorem Fmt.convert_lt {rm : RoundMode} {a : FVal} {v : Nat} (hv : f.convert rm a = some v) :
    v < 2 ^ (1 + f.e + f.m) := by
  have hfit : ∀ neg mag, mag < 2 ^ (f.e + f.m) → f.withSign neg mag < 2 ^ (1 + f.e + f.m) := fun neg mag h => by
    have hdouble : 2 ^ (1 + f.e + f.m) = 2 * 2 ^ (f.e + f.m) := by rw [Nat.add_assoc, Nat.pow_add]
    rw [Fmt.withSign, Fmt.signBit]
    split <;> omega
  have hinf : f.infBits < 2 ^ (f.e + f.m) := by
    rw [Fmt.infBits, Nat.pow_add]
    exact Nat.mul_lt_mul_of_pos_right (Nat.sub_lt (Nat.two_pow_pos _) Nat.one_pos) (Nat.two_pow_pos _)
  have hcap : ∀ mag top, top ≤ f.infBits → (if f.infBits ≤ mag then top else mag) < 2 ^ (f.e + f.m) :=
    fun mag top htop => by split <;> omega
  cases a with
  | nan => cases hv
  | inf n => cases hv; exact hfit n _ hinf
  | fin n sg e =>
    cases hv
    unfold Fmt.round
    split
    · exact hfit n 0 (Nat.two_pow_pos _)
    · exact hfit n _ (hcap _ _ (f.overflow_le rm n))

/-! Quad precision holds the numbers of the narrower formats. -/

theorem logFloor_one {num : Nat} (h : num ≠ 0) : logFloor num 1 = num.log2 := by
  have hlog : Nat.log2 1 = 0 := by decide
  have hle : 2 ^ num.log2 ≤ num := Nat.log2_self_le h
  simp only [logFloor, hlog, Nat.cast_zero, Int.sub_zero]
  rw [if_pos]
  rwa [Int.toNat_natCast, Int.toNat_neg_natCast, Nat.pow_zero, Nat.mul_one, Nat.one_mul]

/-- A number with up to 113 significant bits and an exponent in range is one of quad precision. -/
theorem quad_round_exact {num : Nat} {exp : Int} (rm : RoundMode) (hnum : num < 2 ^ 113) (hlo : -16000 ≤ exp)
    (hhi : exp ≤ 16000) : (Fmt.quad.value (Fmt.quad.round rm neg num 1 exp)).same (.fin neg num exp) := by
  by_cases h0 : num = 0
  · have hzero := Fmt.value_withSign (f := .quad) (neg := neg) (ex := 0) (sig := 0) (by decide) (by decide)
    rw [Nat.zero_mul] at hzero
    rw [Fmt.round, if_pos h0, hzero]
    simp [FVal.same, h0, Fmt.quad]
  · have hlog : num.log2 < 113 := (Nat.log2_lt h0).2 hnum
    have hle : 2 ^ num.log2 ≤ num := Nat.log2_self_le h0
    have hlt : num < 2 ^ (num.log2 + 1) := Nat.lt_log2_self
    obtain ⟨sh, hsh⟩ : ∃ sh, num.log2 + sh = 112 := ⟨112 - num.log2, by omega⟩
    have hq : 2 ^ 112 ≤ num * 2 ^ sh := by
      rw [← hsh, Nat.pow_add]; exact Nat.mul_le_mul_right _ hle
    have hq' : num * 2 ^ sh < 2 ^ 113 := by
      rw [show 113 = num.log2 + 1 + sh by omega, Nat.pow_add]
      exact Nat.mul_lt_mul_of_pos_right hlt (Nat.two_pow_pos _)
    obtain ⟨ex, hex⟩ : ∃ ex : Nat, (ex : Int) = num.log2 + exp + 16383 := ⟨(num.log2 + exp + 16383).toNat, by omega⟩
    have hunit : max (logFloor num 1 + exp - Fmt.quad.m) Fmt.quad.minExp = exp - sh := by
      rw [logFloor_one h0]
      show max (_ - ((112 : Nat) : Int)) (1 - (2 ^ 14 - 1) - ((112 : Nat) : Int)) = _
      omega
    have hround : Fmt.quad.round rm neg num 1 exp =
        Fmt.quad.withSign neg (ex * 2 ^ Fmt.quad.m + (num * 2 ^ sh - 2 ^ 112)) := by
      have hup : ∀ q, roundsUp rm neg q 0 1 = false := fun q => by cases rm <;> simp [roundsUp]
      have hmag : (exp - sh + Fmt.quad.bias + Fmt.quad.m).toNat = ex := by
        show (exp - sh + (2 ^ 14 - 1) + ((112 : Nat) : Int)).toNat = _
        omega
      rw [Fmt.round, if_neg h0]
      simp only [hunit, show exp - (exp - sh) = (sh : Int) by omega, show exp - (sh : Int) - exp = -(sh : Int) by omega,
        Int.toNat_natCast, Int.toNat_neg_natCast, Nat.pow_zero, Nat.mul_one, Nat.div_one, Nat.mod_one, hup, hmag,
        Bool.false_eq_true, if_false]
      have hnormal : ¬ num * 2 ^ sh < 2 ^ Fmt.quad.m := Nat.not_lt.2 hq
      have hfits : ¬ Fmt.quad.infBits ≤ ex * 2 ^ Fmt.quad.m + (num * 2 ^ sh - 2 ^ Fmt.quad.m) := by
        show ¬ (2 ^ 15 - 1) * 2 ^ 112 ≤ ex * 2 ^ 112 + (num * 2 ^ sh - 2 ^ 112)
        omega
      rw [if_neg hnormal, if_neg hfits]
      rfl
    rw [hround, Fmt.value_withSign (by show ex < 2 ^ 15; omega) (by show _ < 2 ^ 112; omega),
      if_neg (by show ¬ ex = 2 ^ 15 - 1; omega), if_neg (by omega)]
    refine ⟨rfl, ?_⟩
    have hsig : 2 ^ Fmt.quad.m + (num * 2 ^ sh - 2 ^ 112) = num * 2 ^ sh := by
      show 2 ^ 112 + _ = _
      omega
    have hexp : (ex : Int) - Fmt.quad.bias - Fmt.quad.m = exp - sh := by
      show (ex : Int) - (2 ^ 14 - 1) - ((112 : Nat) : Int) = _
      omega
    rw [hsig, hexp, Nat.cast_mul, Nat.cast_pow, Nat.cast_ofNat, mul_assoc, ← zpow_natCast,
      ← zpow_add₀ (by norm_num), add_sub_cancel]

/-- The finite numbers of the narrower formats are small. -/
theorem precFmt_value_fin {p : Prec} (hp : p ≠ .q) {v sg : Nat} {e : Int} (h : (precFmt p).value v = .fin neg sg e) :
    sg < 2 ^ 53 ∧ -16000 ≤ e ∧ e ≤ 16000 := by
  have hbounds : ∀ f : Fmt, 2 ^ f.m + 2 ^ f.m ≤ 2 ^ 53 → -16000 ≤ f.minExp → f.minExp + 2 ^ f.e ≤ 16000 →
      f.value v = .fin neg sg e → sg < 2 ^ 53 ∧ -16000 ≤ e ∧ e ≤ 16000 := fun f hm hlo hhi hval => by
    have hsig : v % 2 ^ f.m < 2 ^ f.m := Nat.mod_lt _ (Nat.two_pow_pos _)
    have hex : v / 2 ^ f.m % 2 ^ f.e < 2 ^ f.e := Nat.mod_lt _ (Nat.two_pow_pos _)
    simp only [Fmt.value] at hval
    split at hval
    · split at hval <;> cases hval
    · split at hval <;> cases hval
      · have hpos : (0 : Int) < 2 ^ f.e := Int.pow_pos (by decide)
        exact ⟨by omega, hlo, by omega⟩
      · have hcast : ((v / 2 ^ f.m % 2 ^ f.e : Nat) : Int) < 2 ^ f.e := by exact_mod_cast hex
        have hmin : f.minExp = 1 - f.bias - f.m := rfl
        exact ⟨by omega, by omega, by omega⟩
  cases p with
  | h => exact hbounds .half (by decide) (by decide) (by decide) h
  | s => exact hbounds .single (by decide) (by decide) (by decide) h
  | d => exact hbounds .double (by decide) (by decide) (by decide) h
  | q => exact absurd rfl hp

theorem quadVal_ofNat {v : Nat} (h : v < 2 ^ 128) : quadVal (.ofNat 128 v) = Fmt.quad.value v := by
  rw [quadVal, BitVec.toNat_ofNat, Nat.mod_eq_of_lt h]

/-- FLOAD's conversion gives the same number, infinity or a NaN, whose bits are drawn (42_float R405; log 8). -/
theorem toQuad_same {p : Prec} (hp : p ≠ .q) (v : Nat) (s : State) :
    ∃ r d, toQuad p v s = .ok r { s with draws := d } ∧ (quadVal r).same ((precFmt p).value v) := by
  rw [toQuad, if_neg hp]
  cases hval : (precFmt p).value v with
  | nan =>
    obtain ⟨hnan, hlt⟩ := Fmt.value_quietNan (f := .quad) (by decide) (Config.nanBits s.draws).toNat
    refine ⟨_, s.draws + 1, rfl, ?_⟩
    rw [quadVal_ofNat hlt, hnan]
    trivial
  | inf n =>
    refine ⟨_, s.draws, rfl, ?_⟩
    rw [quadVal_ofNat (Fmt.convert_lt (f := .quad) (a := .inf n) (rm := .nearestEven) rfl)]
    exact (Fmt.quad.value_infBits n).symm ▸ rfl
  | fin n sg e =>
    obtain ⟨hsg, hlo, hhi⟩ := precFmt_value_fin hp hval
    refine ⟨_, s.draws, rfl, ?_⟩
    rw [quadVal_ofNat (Fmt.convert_lt (f := .quad) (a := .fin n sg e) (rm := .nearestEven) rfl)]
    exact quad_round_exact .nearestEven (by omega) hlo hhi

end Sys2Proof.Machine

/-! Vector loads with an element that reaches a byte nothing claims (47_memory_ops R587; 20_memory R106, R113). -/

namespace Sys2Proof.Machine

variable {s : State} {x : Ext} {c : Instr} {rt : Reg} {w n k b : Nat} {at_ : Nat → Addr} {z : Size} {p : Prec}

/-- A vector load whose element `k` is the first that reaches a byte nothing claims. -/
structure VectorGap (s : State) (m : Word) (w n k b : Nat) (at_ : Nat → Addr) : Prop where
  on : k < s.elems w ∧ m.getLsbD k = true
  below : ∀ j, j < k → m.getLsbD j = true → s.ram (at_ j) n
  gap : s.Gap (at_ k) n b

theorem elementTraps_memRead {take : Nat → State → Acc Word} {drawn : Bool} {P : Nat → BitVec w → Prop} (hn : n ≤ 16384)
    (hrun : exec c s = finish (extLen x) s (alu w true rt x.mask (fun j t => (memRead (at_ j) n t).bind take) s))
    (h : VectorGap s (s.vecMask x.mask) w n k b at_)
    (htake : ∀ j d v, j < k → ∃ r d', take (s.data (at_ j) n) (s.withVec rt v d) = .ok r (s.withVec rt v d') ∧
      P j (r.setWidth w) ∧ (drawn = false → d' = d)) :
    ElementTraps c s w rt (s.vecMask x.mask) 2 (some (at_ k + .ofNat 64 b)) k drawn P := by
  refine elementTraps_alu hrun h.on.1 h.on.2 (fun j d v hj hm => ?_) fun d v => ?_
  · have hram : (s.withVec rt v d).ram (at_ j) n := h.below j hj hm
    have hdata : (s.withVec rt v d).data (at_ j) n = s.data (at_ j) n :=
      State.data_mem (s := s) (t := s.withVec rt v d) rfl _ _
    rw [memRead_ram hram hn, hdata]
    exact htake j d v hj
  · have hgap : (s.withVec rt v d).Gap (at_ k) n b :=
      ⟨h.gap.flat, h.gap.lt, h.gap.device, h.gap.below, h.gap.unclaimed⟩
    show (memReadAs _ _ _ _ _).bind _ = _
    rw [hgap.memReadAs hn]
    rfl

theorem size_bytes_le (z : Size) : z.bytes ≤ 16384 := by cases z <;> decide

theorem prec_bytes_le (p : Prec) : p.bytes ≤ 16384 := by cases p <;> decide

theorem elementTraps_getSigned
    (hrun : exec c s = finish (extLen x) s (alu z.bits true rt x.mask (fun j => getSigned z (at_ j)) s))
    (h : VectorGap s (s.vecMask x.mask) z.bits z.bytes k b at_) :
    ElementTraps c s z.bits rt (s.vecMask x.mask) 2 (some (at_ k + .ofNat 64 b)) k false fun j r =>
      r = .ofNat z.bits (s.data (at_ j) z.bytes) :=
  elementTraps_memRead (size_bytes_le z) hrun h fun _ d _ _ =>
    ⟨_, d, rfl, setWidth_signExtend (size_bits_le z) _, fun _ => rfl⟩

theorem elementTraps_getZero
    (hrun : exec c s = finish (extLen x) s (alu z.bits true rt x.mask (fun j => getZero z (at_ j)) s))
    (h : VectorGap s (s.vecMask x.mask) z.bits z.bytes k b at_) :
    ElementTraps c s z.bits rt (s.vecMask x.mask) 2 (some (at_ k + .ofNat 64 b)) k false fun j r =>
      r = .ofNat z.bits (s.data (at_ j) z.bytes) :=
  elementTraps_memRead (size_bytes_le z) hrun h fun _ d _ _ =>
    ⟨_, d, rfl, BitVec.setWidth_setWidth_of_le _ (size_bits_le z) |>.trans (BitVec.setWidth_eq _), fun _ => rfl⟩

theorem FVal.same_refl (a : FVal) : a.same a := by
  cases a with
  | nan => trivial
  | inf n => rfl
  | fin n sg e => exact ⟨rfl, rfl⟩

/-- FLOAD's elements: a quad number as it is, another converted. -/
theorem toQuad_element (p : Prec) (v d : Nat) (u : BitVec 512) (hv : v < 256 ^ p.bytes) :
    ∃ r d', toQuad p v (s.withVec rt u d) = .ok r (s.withVec rt u d') ∧
      ((p = .q → r = .ofNat 128 v) ∧ (quadVal r).same ((precFmt p).value v)) ∧ (true = false → d' = d) := by
  by_cases hp : p = .q
  · subst hp
    refine ⟨_, d, rfl, ⟨fun _ => rfl, ?_⟩, fun _ => rfl⟩
    rw [quadVal_ofNat hv]
    exact FVal.same_refl _
  · obtain ⟨r, d', hr, hsame⟩ := toQuad_same hp v (s.withVec rt u d)
    exact ⟨r, d', hr, ⟨fun h => absurd h hp, hsame⟩, nofun⟩

theorem elementTraps_getFloat
    (hrun : exec c s = finish (extLen x) s (alu 128 true rt x.mask (fun j => getFloat p (at_ j)) s))
    (h : VectorGap s (s.vecMask x.mask) 128 p.bytes k b at_) :
    ElementTraps c s 128 rt (s.vecMask x.mask) 2 (some (at_ k + .ofNat 64 b)) k true fun j r =>
      (p = .q → r = .ofNat 128 (s.data (at_ j) 16)) ∧ FVal.same (quadVal r) ((precFmt p).value (s.data (at_ j) p.bytes)) :=
  elementTraps_memRead (prec_bytes_le p) hrun h fun j d v _ => by
    obtain ⟨r, d', hr, ⟨hquad, hsame⟩, hd⟩ := toQuad_element (s := s) (rt := rt) p _ d v (s.data_lt (at_ j) p.bytes)
    refine ⟨r, d', hr, ?_, hd⟩
    rw [BitVec.setWidth_eq]
    exact ⟨fun hp => by subst hp; exact hquad rfl, hsame⟩

end Sys2Proof.Machine

/-! Vector stores with an element that reaches a byte nothing claims (47_memory_ops R587; 20_memory R106, R113). -/

namespace Sys2Proof.Machine

variable {s t u : State} {x : Ext} {c : Instr} {rt : Reg} {w n k b : Nat} {at_ : Nat → Addr} {z : Size} {p : Prec}

/-- The state `s` with the memory of `t` and the count `d` of values drawn. -/
def State.storing (s t : State) (d : Nat) : State := { s with mem := t.mem, stale := t.stale, draws := d }

/-- What stores to the bytes `done` names leave in `t`: each byte is that of the value of the last element written there, and
every other byte and the rest of the state are as in `s`. -/
structure Written (s t : State) (at_ : Nat → Addr) (done : Nat → Nat → Prop) (rs : Nat → Nat) : Prop where
  frame : t = s.storing t t.draws
  wf : Memory.wf t.mem = true
  last : ∀ j i, done j i → (∀ h l, j < h → done h l → at_ h + .ofNat 64 l ≠ at_ j + .ofNat 64 i) →
    t.byte (at_ j + .ofNat 64 i).toNat = .ofNat 8 (rs j / 256 ^ i)
  other : ∀ a, (∀ j i, done j i → a ≠ (at_ j + .ofNat 64 i).toNat) → t.byte a = s.byte a

theorem Written.refl (hw : Memory.wf s.mem = true) {rs : Nat → Nat} : Written s s at_ (fun _ _ => False) rs :=
  ⟨rfl, hw, nofun, fun _ _ => rfl⟩

theorem Written.congr {done done' : Nat → Nat → Prop} {rs : Nat → Nat} (h : Written s t at_ done rs)
    (hd : ∀ j i, done j i ↔ done' j i) : Written s t at_ done' rs := by
  rwa [← show done = done' from funext fun j => funext fun i => propext (hd j i)]

/-- One more element written, beyond those before. -/
theorem Written.store {done : Nat → Nat → Prop} {rs : Nat → Nat} {m r : Nat} (h : Written s t at_ done rs)
    (hlt : ∀ j i, done j i → j < k) (hs : Stored t u (at_ k) m r) (hu : u = t.storing u u.draws)
    (hw : Memory.wf u.mem = true) :
    Written s u at_ (fun j i => done j i ∨ j = k ∧ i < m) (Function.update rs k r) where
  frame := by
    have hframe := h.frame
    rw [hu, hframe]
    rfl
  wf := hw
  last j i hd hlast := by
    obtain ⟨hbyte, hother⟩ := hs
    obtain hd | ⟨rfl, hi⟩ := hd
    · have hjk : j < k := hlt j i hd
      rw [Function.update_of_ne (Nat.ne_of_lt hjk), hother]
      · exact h.last j i hd fun g l hg hgl => hlast g l hg (.inl hgl)
      · intro l hl heq
        exact hlast k l hjk (.inr ⟨rfl, hl⟩) (BitVec.eq_of_toNat_eq heq.symm)
    · rw [Function.update_self]
      exact hbyte i hi
  other a ha := by
    rw [hs.2 a fun i hi => ha k i (.inr ⟨rfl, hi⟩)]
    exact h.other a fun j i hd => ha j i (.inl hd)

/-- A piece of memory written of a state that has drawn values. -/
theorem storing_of_store {d : Nat} (h : u = { t.storing t d with mem := u.mem, stale := u.stale }) :
    u = t.storing u u.draws := by
  have hd : u.draws = d := by rw [h]; rfl
  rw [hd]
  exact h

/-! The loop over the elements of a store. -/

/-- The loop over the elements of a store, in two parts. -/
theorem storeLoop_add (m : Word) (put : Put) (a b k : Nat) (s : State) :
    storeLoop w rt m put at_ (a + b) k s =
      (storeLoop w rt m put at_ a k s).bind fun _ t => storeLoop w rt m put at_ b (k + a) t := by
  induction a generalizing k s with
  | zero => rw [Nat.zero_add]; rfl
  | succ a ih =>
    rw [show a + 1 + b = (a + b) + 1 by omega, show k + (a + 1) = k + 1 + a by omega]
    simp only [storeLoop]
    split
    · cases put (at_ k) ((s.elem w rt k).setWidth 128) s with
      | ok r t => exact ih _ _
      | trap e t => rfl
      | refuse r => rfl
    · exact ih _ _

/-- An element is stored as a value of `n` bytes, drawing values or not. -/
def PutsElement (s : State) (put : Put) (w : Nat) (rt : Reg) (at_ : Nat → Addr) (n : Nat) (drawn : Bool)
    (value : Nat → Nat → Prop) : Prop :=
  ∀ j t, t = s.storing t t.draws → ∃ r d, put (at_ j) ((s.elem w rt j).setWidth 128) t = memWrite (at_ j) n r (t.storing t d) ∧
    (r < 256 ^ n ∧ value j r) ∧ (drawn = false → d = t.draws)

theorem PutsElement.mono {put : Put} {drawn : Bool} {value value' : Nat → Nat → Prop}
    (h : PutsElement s put w rt at_ n drawn value) (hv : ∀ j r, value j r → value' j r) :
    PutsElement s put w rt at_ n drawn value' := fun j t ht =>
  let ⟨r, d, hr, ⟨hlt, hval⟩, hd⟩ := h j t ht
  ⟨r, d, hr, ⟨hlt, hv j r hval⟩, hd⟩

/-- The elements below `k`, stored. -/
theorem storeLoop_below {m : Word} {put : Put} {drawn : Bool} {value : Nat → Nat → Prop} (hn : n ≤ 16384)
    (hput : PutsElement s put w rt at_ n drawn value) (hw : Memory.wf s.mem = true) (k : Nat)
    (hram : ∀ j, j < k → m.getLsbD j = true → s.ram (at_ j) n) :
    ∃ t rs, storeLoop w rt m put at_ k 0 s = .ok () t ∧
      Written s t at_ (fun j i => i < n ∧ j < k ∧ m.getLsbD j = true) rs ∧ (drawn = false → t.draws = s.draws) ∧
      ∀ j, j < k → m.getLsbD j = true → rs j < 256 ^ n ∧ value j (rs j) := by
  induction k with
  | zero =>
    exact ⟨s, fun _ => 0, rfl, (Written.refl hw).congr fun _ _ => ⟨False.elim, by omega⟩, fun _ => rfl, nofun⟩
  | succ k ih =>
    obtain ⟨t, rs, hloop, hwr, hd, hrs⟩ := ih fun j hj => hram j (by omega)
    rw [storeLoop_add, hloop]
    simp only [Acc.bind, storeLoop, Nat.zero_add]
    by_cases hm : m.getLsbD k = true
    · have helem : t.elem w rt k = s.elem w rt k := by rw [hwr.frame]; rfl
      obtain ⟨r, d, hr, hv, hdr⟩ := hput k t hwr.frame
      have hramt : (t.storing t d).ram (at_ k) n := by rw [hwr.frame]; exact hram k (by omega) hm
      obtain ⟨u, hu, hs, hframe, hwu⟩ := memWrite_ram (v := r) hramt hn hwr.wf
      have hdu : u.draws = d := by rw [hframe]; rfl
      simp only [hm, if_true, helem, hr, hu]
      refine ⟨u, _, rfl, (hwr.store (fun j i h => h.2.1) hs (storing_of_store hframe) hwu).congr fun j i => ?_, fun h => ?_,
        fun j hj hmj => ?_⟩
      · constructor
        · rintro (⟨hi, hj, hmj⟩ | ⟨rfl, hi⟩)
          · exact ⟨hi, by omega, hmj⟩
          · exact ⟨hi, by omega, hm⟩
        · rintro ⟨hi, hj, hmj⟩
          obtain hj | rfl : j < k ∨ j = k := by omega
          · exact .inl ⟨hi, hj, hmj⟩
          · exact .inr ⟨rfl, hi⟩
      · rw [hdu, hdr h, hd h]
      · obtain hj | rfl : j < k ∨ j = k := by omega
        · rw [Function.update_of_ne (Nat.ne_of_lt hj)]
          exact hrs j hj hmj
        · rw [Function.update_self]
          exact hv
    · simp only [hm]
      refine ⟨t, rs, rfl, hwr.congr fun j i => ?_, hd, fun j hj hmj => ?_⟩
      · refine and_congr_right fun _ => and_congr_left fun hmj => ?_
        have hjk : j ≠ k := fun h => hm (h ▸ hmj)
        omega
      · have hjk : j ≠ k := fun h => hm (h ▸ hmj)
        exact hrs j (by omega) hmj

/-- A vector store whose element `k` reaches a byte nothing claims. -/
theorem stores_trap {put : Put} {drawn : Bool} {value : Nat → Nat → Prop} (hn : n ≤ 16384)
    (hrun : exec c s = finish (extLen x) s (storeVec w put rt x.mask at_ s))
    (hput : PutsElement s put w rt at_ n drawn value) (h : VectorGap s (s.vecMask x.mask) w n k b at_)
    (hw : Memory.wf s.mem = true) :
    ∃ (u : State) (rs : Nat → Nat),
      (∀ a, u.handler 2 a → exec c s = .next { u.took 2 s.pc (some (at_ k + .ofNat 64 b)) a with retire := .fault }) ∧
      u = (s.storing u u.draws).stopped k ∧ (drawn = false → u.draws = s.draws) ∧
      (∀ j, j ≤ k → (s.vecMask x.mask).getLsbD j = true → rs j < 256 ^ n ∧ value j (rs j)) ∧
      ∃ t, t.mem = u.mem ∧ Written s t at_ (fun j i => i < n ∧ (j < k ∧ (s.vecMask x.mask).getLsbD j = true ∨
        j = k ∧ i < writtenBefore (at_ k) b)) rs := by
  obtain ⟨t, rs, hloop, hwr, hd, hrs⟩ := storeLoop_below hn hput hw k h.below
  have helem : t.elem w rt k = s.elem w rt k := by rw [hwr.frame]; rfl
  obtain ⟨r, d, hr, hv, hdr⟩ := hput k t hwr.frame
  have hgap : (t.storing t d).Gap (at_ k) n b := by
    rw [hwr.frame]
    exact ⟨h.gap.flat, h.gap.lt, h.gap.device, h.gap.below, h.gap.unclaimed⟩
  obtain ⟨u, hu, hs, hframe, hwu⟩ := hgap.memWriteAs hn (t.storing t d).dataMode r hwr.wf
  have hdu : u.draws = d := by rw [hframe]; rfl
  have hwritten := hwr.store (fun j i h => h.2.1) hs (storing_of_store hframe) hwu
  have htrap : storeVec w put rt x.mask at_ s = .trap ⟨2, some (at_ k + .ofNat 64 b)⟩ (u.stopped k) := by
    obtain ⟨e, he⟩ : ∃ e, s.elems w = k + (e + 1) := ⟨s.elems w - k - 1, by have := h.on.1; omega⟩
    rw [storeVec, he, storeLoop_add, hloop]
    simp only [Acc.bind, storeLoop, Nat.zero_add, h.on.2, if_true, helem, hr, memWrite, hu]
    rfl
  refine ⟨u.stopped k, Function.update rs k r, fun a ha => ?_, ?_, fun hf => ?_, fun j hj hm => ?_, u, rfl,
    hwritten.congr fun j i => ?_⟩
  · rw [hrun, htrap]
    exact finish_trap ha
  · have hu := hwritten.frame
    rw [hu]
    rfl
  · show u.draws = s.draws
    rw [hdu, hdr hf, hd hf]
  · obtain hj | rfl : j < k ∨ j = k := by omega
    · rw [Function.update_of_ne (Nat.ne_of_lt hj)]
      exact hrs j hj hm
    · rw [Function.update_self]
      exact hv
  · have hb := h.gap.lt
    have hle : writtenBefore (at_ k) b ≤ b := by unfold writtenBefore; split <;> omega
    constructor
    · rintro (⟨hi, hj⟩ | ⟨hj, hi⟩)
      · exact ⟨hi, .inl hj⟩
      · exact ⟨by omega, .inr ⟨hj, hi⟩⟩
    · rintro ⟨hi, hj | hj⟩
      · exact .inl ⟨hi, hj⟩
      · exact .inr hj

/-! What each instruction stores. -/

theorem putsElement_low : PutsElement s (putLow z) z.bits rt at_ z.bytes false fun j r => r = (s.elem z.bits rt j).toNat := by
  intro j t _
  refine ⟨_, t.draws, rfl, ⟨?_, ?_⟩, fun _ => rfl⟩
  · have hbits : 256 ^ z.bytes = 2 ^ z.bits := by cases z <;> rfl
    rw [hbits]
    exact BitVec.isLt _
  · rw [BitVec.setWidth_setWidth_of_le _ (size_bits_le z), BitVec.setWidth_eq]

/-- What FSTORE stores of a quad number: its bits, or the value converted, and a NaN for a NaN (47_memory_ops R606; log 8). -/
structure FloatStored (p : Prec) (rm : RoundMode) (v : Word) (r : Nat) : Prop where
  quad : p = .q → r = v.toNat
  number : p ≠ .q → ∀ m, (precFmt p).convert rm (quadVal v) = some m → r = m
  nan : p ≠ .q → (precFmt p).convert rm (quadVal v) = none → (precFmt p).value r = .nan

theorem fromQuad_stored (p : Prec) (rm : RoundMode) (v : Word) (t : State) :
    ∃ r d, fromQuad p rm v t = .ok r (t.storing t d) ∧ r < 256 ^ p.bytes ∧ FloatStored p rm v r := by
  have hbytes : 256 ^ p.bytes = 2 ^ (1 + (precFmt p).e + (precFmt p).m) := by cases p <;> rfl
  have hm : 0 < (precFmt p).m := by cases p <;> decide
  rw [hbytes]
  by_cases hp : p = .q
  · subst hp
    exact ⟨v.toNat, t.draws, rfl, v.isLt, fun _ => rfl, fun h => absurd rfl h, fun h => absurd rfl h⟩
  · rw [fromQuad, if_neg hp]
    cases hv : (precFmt p).convert rm (quadVal v) with
    | some m =>
      exact ⟨m, t.draws, rfl, Fmt.convert_lt hv, fun h => absurd h hp, fun _ m' h => Option.some.inj (hv.symm.trans h),
        fun _ h => nomatch hv.symm.trans h⟩
    | none =>
      obtain ⟨hnan, hlt⟩ := Fmt.value_quietNan hm (Config.nanBits t.draws).toNat
      exact ⟨_, t.draws + 1, rfl, hlt, fun h => absurd h hp, fun _ m' h => (nomatch hv.symm.trans h), fun _ _ => hnan⟩

theorem putsElement_float : PutsElement s (putFloat p) 128 rt at_ p.bytes true fun j r =>
    FloatStored p s.rmImm (s.elem 128 rt j) r := by
  intro j t ht
  have hrm : t.rmImm = s.rmImm := by rw [ht]; rfl
  obtain ⟨r, d, hr, hlt, hv⟩ := fromQuad_stored p s.rmImm (s.elem 128 rt j) t
  refine ⟨r, d, ?_, ⟨hlt, hv⟩, nofun⟩
  rw [BitVec.setWidth_eq, putFloat, hrm, hr]
  rfl

end Sys2Proof.Machine

/-! A trap at an element of a vector instruction leaves it restartable (41_vector R383). -/

namespace Sys2Proof.Machine

variable {s : State} {x : Ext} {c : Instr} {rt : Reg} {w n k b : Nat}

theorem loadDisp_vector {get : Get} {o : MemD} (hv : o.vd = true) (hp : s.predOk = true) :
    loadDisp n w get o x s = finish (extLen x) s
      (alu w true o.rt x.mask (fun k => get (eaDisp o x.tail s + .ofNat 64 (k * n))) s) := by
  rw [loadDisp, runExt_enabled ⟨hp, .inl hv⟩, if_pos hv]

theorem loadIndexed_vector {get : Get} {o : MemX} (hv : o.vec ≠ .scalar) (hp : s.predOk = true) :
    loadIndexed n w get o x s = finish (extLen x) s
      (alu w true o.rt x.mask (fun k => get (elemAddr o n w x.tail s k)) s) := by
  rw [loadIndexed, runExt_enabled ⟨hp, .inl (by simpa using hv)⟩, if_neg hv]

theorem storeDisp_vector {put : Put} {v : State → Word} {o : MemD} (hv : o.vd = true) (hp : s.predOk = true) :
    storeDisp n w put v o x s = finish (extLen x) s
      (storeVec w put o.rt x.mask (fun k => eaDisp o x.tail s + .ofNat 64 (k * n)) s) := by
  rw [storeDisp, runExt_enabled ⟨hp, .inl hv⟩, if_pos hv]

theorem storeIndexed_vector {put : Put} {v : State → Word} {o : MemX} (hv : o.vec ≠ .scalar) (hp : s.predOk = true) :
    storeIndexed n w put v o x s = finish (extLen x) s (storeVec w put o.rt x.mask (elemAddr o n w x.tail s) s) := by
  rw [storeIndexed, runExt_enabled ⟨hp, .inl (by simpa using hv)⟩, if_neg hv]

/-- The bytes of the first page, where the gap is beyond it. -/
theorem lt_writtenBefore {va : Addr} {i : Nat} :
    i < writtenBefore va b ↔ 16384 - va.toNat % 16384 ≤ b ∧ i < 16384 - va.toNat % 16384 := by
  unfold writtenBefore
  split <;> omega

/-- Settles O16: the loop over the elements up to the one that traps (`elementTraps_alu`, `stores_trap`), for a zero divisor
and for an element with a gap. -/
theorem vectorTrapIsRestartable : Obligations.VectorTrapIsRestartable := by
  refine ⟨fun o i x s k hp h0 => ⟨fun hv => ?_, fun hv hk hd hbelow => elementTraps_divi hp h0 hv hk hd hbelow⟩,
    fun z p o q x s k b hp hflat => ?_⟩
  · refine ⟨fun hk hd hbelow => ?_, fun hk hd hbelow => ?_, fun hk hd hbelow => ?_, fun hk hd hbelow => ?_,
      fun hk hd hbelow => ?_⟩
    · simpa only [Signs.quotient_ss] using elementTraps_quotient (g := .ss) (c := .div o x) hp h0 hv rfl hk hd hbelow
    · simpa only [Signs.quotient_uu] using elementTraps_quotient (g := .uu) (c := .divu o x) hp h0 hv rfl hk hd hbelow
    · exact elementTraps_quotient (g := .su) (c := .divsu o x) hp h0 hv rfl hk hd hbelow
    · simpa only [Signs.remainder_ss] using elementTraps_remainder (g := .ss) (c := .mod o x) hp h0 hv rfl hk hd hbelow
    · simpa only [Signs.remainder_uu] using elementTraps_remainder (g := .uu) (c := .modu o x) hp h0 hv rfl hk hd hbelow
  · intro m ready loads floads stores plain fstores row
    have hgap : ∀ {w n at_}, ready w n at_ → VectorGap s m w n k b at_ := fun ⟨hk, hb, hram, hdev, hclaimed, hun⟩ =>
      ⟨hk, fun j hj hm => hram j hj (hj.trans hk.1) hm, hflat, hb, hdev, hclaimed, hun⟩
    have hstore : ∀ {c w n rt at_ drawn put} {value : Nat → Nat → Prop}, n ≤ 16384 →
        exec c s = finish (extLen x) s (storeVec w put rt x.mask at_ s) → PutsElement s put w rt at_ n drawn value →
        stores c w n at_ drawn value := fun {c w n rt at_ drawn put value} hn hrun hput hr hw => by
      obtain ⟨u, rs, htook, hu, hd, hrs, t, ht, hwr⟩ := stores_trap hn hrun hput (hgap hr) hw
      have hbyte : ∀ a, u.byte a = t.byte a := fun a => by rw [State.byte, State.byte, ht]
      have hbelow : ∀ j, j < k → j < s.elems w := fun j hj => hj.trans hr.1.1
      have hwr := hwr.congr fun j i =>
        show _ ↔ i < n ∧ (j < k ∧ (j < s.elems w ∧ m.getLsbD j = true) ∨
          j = k ∧ 16384 - (at_ k).toNat % 16384 ≤ b ∧ i < 16384 - (at_ k).toNat % 16384) by
        refine and_congr_right fun _ => or_congr ?_ (and_congr_right fun _ => lt_writtenBefore)
        exact and_congr_right fun hj => ⟨fun hm => ⟨hbelow j hj, hm⟩, fun hm => hm.2⟩
      refine ⟨u, rs, htook, hu, hd, fun j hj hon => hrs j hj hon.2, fun j i hdone hlast => ?_, fun a ha => ?_⟩
      · rw [hbyte]
        exact hwr.last j i hdone hlast
      · rw [hbyte]
        exact hwr.other a ha
    have hplain : ∀ {c rt at_}, exec c s = finish (extLen x) s (storeVec z.bits (putLow z) rt x.mask at_ s) →
        plain c rt at_ := fun hrun => hstore (size_bytes_le z) hrun putsElement_low
    have hfloat : ∀ {c rt at_}, exec c s = finish (extLen x) s (storeVec 128 (putFloat p) rt x.mask at_ s) →
        fstores c rt at_ := fun {c rt at_} hrun => by
      unfold fstores
      clear_value stores
      refine hstore (prec_bytes_le p) hrun (putsElement_float.mono fun j r h => ?_)
      split
      · exact h.quad ‹_›
      · split
        · exact h.number ‹_› _ ‹_›
        · exact h.nan ‹_› ‹_›
    refine ⟨fun hv => ⟨fun hr => ?_, fun hr => ?_, fun hr => ?_, hplain ?_, hfloat ?_⟩,
      fun hv => ⟨fun hr => ?_, fun hr => ?_, fun hr => ?_, hplain ?_, hfloat ?_⟩⟩
    · exact elementTraps_getSigned ((exec_load z o x s).trans (loadDisp_vector hv hp)) (hgap hr)
    · exact elementTraps_getZero ((exec_loadz z o x s).trans (loadDisp_vector hv hp)) (hgap hr)
    · exact elementTraps_getFloat ((exec_fload p o x s).trans (loadDisp_vector hv hp)) (hgap hr)
    · exact (exec_store z o x s).trans (storeDisp_vector hv hp)
    · exact (exec_fstore p o x s).trans (storeDisp_vector hv hp)
    · exact elementTraps_getSigned ((exec_loadX z q x s).trans (loadIndexed_vector hv hp)) (hgap hr)
    · exact elementTraps_getZero ((exec_loadzX z q x s).trans (loadIndexed_vector hv hp)) (hgap hr)
    · exact elementTraps_getFloat ((exec_floadX p q x s).trans (loadIndexed_vector hv hp)) (hgap hr)
    · exact (exec_storeX z q x s).trans (storeIndexed_vector hv hp)
    · exact (exec_fstoreX p q x s).trans (storeIndexed_vector hv hp)

end Sys2Proof.Machine

/-! Translation through the TLB, in numbers (20_memory R122 to R128, R144 to R150, R155). -/

namespace Sys2Proof.Machine

variable {s : State} {va : Addr} {way : Nat} {k : Kind} {m : BitVec 2} {n : Nat} {e : TlbEntry} {slot pa : Nat}
  {r : Rights}

/-- The number of the entry of a way that an address indexes (20_memory R144). -/
def wayPage (way : Nat) (va : Addr) : Nat := if way = 4 then va.toNat / 2 ^ 24 % 2 ^ 10 else va.toNat / 2 ^ 14 % 2 ^ 10

theorem waySlot_eq (way : Nat) (va : Addr) : waySlot way va = way * 1024 + wayPage way va := by
  unfold waySlot wayPage tlbSlot
  split <;> rw [BitVec.extractLsb'_toNat, Nat.shiftRight_eq_div_pow]

/-- The stored bits of the page number, as a number (20_memory R145, R146). -/
theorem entryVpnIs_iff {v : Addr} : entryVpnIs e v = true ↔ (e.vpn.extractLsb' 0 75).toNat = v.toNat := by
  have hv := v.isLt
  rw [entryVpnIs, Bool.and_eq_true, beq_iff_eq, beq_iff_eq, ← BitVec.toNat_inj, ← BitVec.toNat_inj]
  have hzero : (0 : BitVec 11).toNat = 0 := rfl
  simp only [BitVec.extractLsb'_toNat, Nat.shiftRight_eq_div_pow, hzero]
  omega

theorem State.wayHits_iff {e : TlbEntry} (he : s.tlb.get (waySlot way va) = e) :
    s.wayHits va way = true ↔ e.pte.getLsbD 31 = true ∧ e.count = s.tlb.count ∧
      (e.vpn.extractLsb' 0 75).toNat = va.toNat / 2 ^ (if way = 4 then 34 else 24) ∧
      (e.pte.getLsbD 18 = true ∨ e.vpn.extractLsb' 80 12 = s.asid) := by
  have hshift : (if way = 4 then va >>> 34 else va >>> 24).toNat = va.toNat / 2 ^ (if way = 4 then 34 else 24) := by
    split <;> rw [BitVec.toNat_ushiftRight, Nat.shiftRight_eq_div_pow]
  simp only [State.wayHits, he, Bool.and_eq_true, Bool.or_eq_true, beq_iff_eq, entryVpnIs_iff, hshift, and_assoc]
  rfl

/-- The physical address of a hit, before it is reduced to PA_BITS (20_memory R147). -/
def pagePhys (e : TlbEntry) (way : Nat) (va : Addr) : Nat :=
  if way = 4 then (e.pte.extractLsb' 42 54).toNat * 2 ^ 24 + va.toNat % 2 ^ 24
  else (e.pte.extractLsb' 32 64).toNat * 2 ^ 14 + va.toNat % 2 ^ 14

theorem toNat_append_extractLsb' {w : Nat} (a : BitVec w) (va : Addr) (l : Nat) :
    (a ++ va.extractLsb' 0 l).toNat = a.toNat * 2 ^ l + va.toNat % 2 ^ l := by
  rw [BitVec.toNat_append, ← Nat.shiftLeft_add_eq_or_of_lt (BitVec.isLt _), Nat.shiftLeft_eq, BitVec.extractLsb'_toNat,
    Nat.shiftRight_zero]

/-- A super page holds the pages up to its last (20_memory R147). -/
theorem entryPhys_eq (e : TlbEntry) (way : Nat) (va : Addr) :
    entryPhys e way va = if way = 4 ∧ (e.pte.extractLsb' 32 10).toNat < va.toNat / 2 ^ 14 % 2 ^ 10 then none
      else some (pagePhys e way va) := by
  have hpage : (va.extractLsb' 14 10).toNat = va.toNat / 2 ^ 14 % 2 ^ 10 := by
    rw [BitVec.extractLsb'_toNat, Nat.shiftRight_eq_div_pow]
  by_cases h4 : way = 4
  · simp only [entryPhys, pagePhys, h4, if_true, true_and, hpage, toNat_append_extractLsb', ← Nat.not_le, ite_not]
  · simp only [entryPhys, pagePhys, h4, if_false, false_and, toNat_append_extractLsb']

/-- The attributes of the region an entry selects, for a mode (20_memory R121). -/
def State.regionAttr (s : State) (e : TlbEntry) (m : BitVec 2) : BitVec 32 :=
  (s.regions[(e.pte.extractLsb' 23 3).toFin.val]).at_.extractLsb' (32 * m.toNat) 32

theorem entryRgn_lt (e : TlbEntry) : entryRgn e < 8 := (e.pte.extractLsb' 23 3).isLt

theorem extractLsb'_extractLsb' {w : Nat} (v : BitVec w) {a b i l : Nat} (h : i + l ≤ b) :
    (v.extractLsb' a b).extractLsb' i l = v.extractLsb' (a + i) l := by
  refine BitVec.eq_of_getLsbD_eq fun j hj => ?_
  simp only [BitVec.getLsbD_extractLsb', hj, show i + j < b by omega, decide_true, Bool.true_and, Nat.add_assoc]

theorem State.rwx_eq (s : State) (e : TlbEntry) (m : BitVec 2) :
    s.rwx e m = if e.pte.extractLsb' (3 * m.toNat) 3 = 0 then (s.regionAttr e m).extractLsb' 0 3
      else e.pte.extractLsb' (3 * m.toNat) 3 := by
  rw [State.regionAttr, extractLsb'_extractLsb' _ (by decide)]
  simp only [State.rwx, Vector.getElem?_eq_getElem (entryRgn_lt e), bne_iff_ne, ite_not]
  rfl

theorem State.granularOk_eq_false : s.granularOk e m k va n = false ↔
    k ≠ .execute ∧ (n < 2 ^ ((s.regionAttr e m).extractLsb' 8 3).toNat ∨
      va.toNat % 2 ^ ((s.regionAttr e m).extractLsb' 8 3).toNat ≠ 0) := by
  rw [State.regionAttr, extractLsb'_extractLsb' _ (by decide)]
  simp only [State.granularOk, Vector.getElem?_eq_getElem (entryRgn_lt e), Bool.or_eq_false_iff, Bool.and_eq_false_iff,
    beq_eq_false_iff_ne, decide_eq_false_iff_not, Nat.not_le]
  rfl

theorem State.rightsOk_iff {r : Rights} : s.rightsOk k r = true ↔
    (r.pl = 0 ∨ r.pl.toNat ≤ s.cpl.toNat ∨ (k = .execute ∧ r.n = true)) ∧ (r.key = 0 ∨ r.key ∈ s.keys.toList) := by
  have hkey : (s.keys.toList.any fun key => key == r.key) = true ↔ r.key ∈ s.keys.toList := by
    simp only [List.any_eq_true, beq_iff_eq, exists_eq_right]
  simp only [State.rightsOk, Bool.and_eq_true, Bool.or_eq_true, beq_iff_eq, decide_eq_true_eq, hkey, or_assoc]

/-- The page of a physical address is numbered from the start of the region its entry selects (20_memory R124). -/
theorem State.pmteAddr_eq (s : State) (e : TlbEntry) (pa : Nat) :
    s.pmteAddr e pa = s.phys ((s.regions[(e.pte.extractLsb' 23 3).toFin.val]).pmt.toNat +
      16 * ((pa - (s.params.regionRange[(e.pte.extractLsb' 23 3).toFin.val]).1) / 16384)) := by
  simp only [State.pmteAddr, Vector.getElem?_eq_getElem (entryRgn_lt e)]
  rfl

/-- The rights of a page: those cached, or those of its page management table entry (20_memory R124, R125). -/
def State.pageRights (s : State) (e : TlbEntry) (pa : Nat) : Rights := e.rights.getD (s.pmteRights (s.pmteAddr e pa))

/-- The checks of a hit, in their order (20_memory R150). -/
theorem checkHit_eq (hs : waySlot way va = slot) (he : s.tlb.get slot = e) (hpa : s.phys (pagePhys e way va) = pa)
    (hr : s.pageRights e pa = r) :
    checkHit k m va n way s =
      if way = 4 ∧ (e.pte.extractLsb' 32 10).toNat < va.toNat / 2 ^ 14 % 2 ^ 10 then tlbMiss va s
      else if kindAllowed k (s.rwx e m) = false then .trap ⟨8, some va⟩ s
      else if s.granularOk e m k va n = false then .trap ⟨3, some va⟩ s
      else if s.rightsOk k r = true then .ok pa { s with tlb := s.tlb.put slot { e with rights := some r } }
      else .trap ⟨8, some va⟩ { s with tlb := s.tlb.put slot { e with rights := some r } } := by
  simp only [checkHit, hs, he, entryPhys_eq]
  by_cases hout : way = 4 ∧ (e.pte.extractLsb' 32 10).toNat < va.toNat / 2 ^ 14 % 2 ^ 10
  · simp only [if_pos hout, Option.map_none]
  · simp only [if_neg hout, Option.map_some, hpa, Bool.not_eq_true', ← hr, State.pageRights]
    cases e.rights <;> rfl

theorem State.pageRights_eq (s : State) (e : TlbEntry) (pa : Nat) :
    s.pageRights e pa = e.rights.getD (s.pmteRights (s.phys ((s.regions[(e.pte.extractLsb' 23 3).toFin.val]).pmt.toNat +
      16 * ((pa - (s.params.regionRange[(e.pte.extractLsb' 23 3).toFin.val]).1) / 16384)))) := by
  rw [State.pageRights, State.pmteAddr_eq]

/-! A lookup, by the number of ways that hit (20_memory R150, R155). -/

theorem locate_hit (ht : s.params.translate = .tlb) (h : s.hits va = [way]) :
    locate k m va n s = checkHit k m va n way s := by
  simp only [locate, ht, h]

theorem locate_hits (ht : s.params.translate = .tlb) {v w : Nat} {l : List Nat} (h : s.hits va = v :: w :: l) :
    locate k m va n s = .refuse .tlbMultiHit := by
  simp only [locate, ht, h]

theorem locate_soft (ht : s.params.translate = .tlb) (h : s.hits va = []) (hs : s.ptbr.getLsbD 3 = true) :
    locate k m va n s = tlbMiss va s := by
  simp only [locate, ht, h, hs, if_true]

theorem locate_unmapped (ht : s.params.translate = .tlb) (h : s.hits va = []) (hs : s.ptbr.getLsbD 3 = false)
    (hw : s.walk s.asid va = none) : locate k m va n s = tlbMiss va s := by
  simp only [locate, ht, h, hs, hw, Bool.false_eq_true, if_false]

/-- A walk's entry is stored and looked up (20_memory R155). -/
theorem locate_walk (ht : s.params.translate = .tlb) (h : s.hits va = []) (hs : s.ptbr.getLsbD 3 = false) {f : WalkHit}
    (hw : s.walk s.asid va = some f) :
    (∀ way, (s.refill va f).hits va = [way] → locate k m va n s = checkHit k m va n way (s.refill va f)) ∧
      (∀ v w l, (s.refill va f).hits va = v :: w :: l → locate k m va n s = .refuse .tlbMultiHit) ∧
      ((s.refill va f).hits va = [] → locate k m va n s = tlbMiss va (s.refill va f)) := by
  simp only [locate, ht, h, hs, hw, Bool.false_eq_true, if_false]
  exact ⟨fun way h => by rw [h], fun v w l h => by rw [h], fun h => by rw [h]⟩

end Sys2Proof.Machine

/-! The walk of the page tables, in numbers (20_memory R132 to R142). -/

namespace Sys2Proof.Machine

variable {s : State} {t : WalkTables} {asid : BitVec 12} {va : Addr}

theorem readN_lt (l : List Host.Cell) (a n : Nat) : Memory.readN l a n < 256 ^ n := by
  induction n generalizing a with
  | zero => exact Nat.one_pos
  | succ n ih =>
    have hrest := ih (a + 1)
    have hbyte := (Memory.read l a).isLt
    rw [Memory.readN, Nat.pow_succ]
    omega

/-- A search of groups, one after the other, finds the first entry that matches. -/
theorem findSome?_range_eq_some {α : Type} {q : α → Bool} {entry : Nat → Nat → α} {groups count i j : Nat} (hi : i < groups)
    (hj : j < count) (hq : q (entry i j) = true)
    (hfirst : ∀ i' j', (i' < i ∨ i' = i ∧ j' < j) → j' < count → q (entry i' j') = false) :
    ((List.range groups).findSome? fun i => ((List.range count).map (entry i)).find? q) = some (entry i j) := by
  have hgroup : ((List.range count).map (entry i)).find? q = some (entry i j) := by
    rw [List.find?_map, Option.map_eq_some_iff]
    refine ⟨j, ?_, rfl⟩
    rw [List.find?_range_eq_some]
    exact ⟨hq, by simpa using hj, fun j' hj' => by simpa using hfirst i j' (.inr ⟨rfl, hj'⟩) (by omega)⟩
  have hbefore : ∀ i', i' < i → ((List.range count).map (entry i')).find? q = none := fun i' hi' => by
    simpa using fun j' hj' => hfirst i' j' (.inl hi') hj'
  obtain ⟨d, rfl⟩ : ∃ d, groups = i + (d + 1) := ⟨groups - i - 1, by omega⟩
  rw [List.range_add, List.findSome?_append, List.findSome?_eq_none_iff.2 fun i' hi' => hbefore i' (by simpa using hi'),
    List.range_succ_eq_map]
  simp only [List.map_cons, Nat.add_zero, List.findSome?_cons, hgroup, Option.none_or]

theorem findSome?_range_eq_none {α : Type} {q : α → Bool} {entry : Nat → Nat → α} {groups count : Nat}
    (h : ∀ i j, i < groups → j < count → q (entry i j) = false) :
    ((List.range groups).findSome? fun i => ((List.range count).map (entry i)).find? q) = none := by
  simpa using fun i hi j hj => h i j hi hj

/-! The hash table. -/

/-- How many entries a group has (20_memory R134). -/
def groupCount (t : WalkTables) : Nat := if t.smallHash then 10 else 5

/-- The address of the group probed after a number of misses (20_memory R140, R141). -/
def State.groupAt (s : State) (t : WalkTables) (asid : BitVec 12) (va : Addr) (i : Nat) : Nat :=
  s.phys (t.hashBase + 128 * (((ptHash asid va).toNat + i ^ 2) % t.nptg))

/-- The entry `k` of that group (20_memory R132, R133). -/
def State.groupEntry (s : State) (t : WalkTables) (asid : BitVec 12) (va : Addr) (i k : Nat) : HashEntry :=
  if t.smallHash then .ofShpte (.ofNat 96 (Memory.readN s.mem (s.groupAt t asid va i + 12 * k) 12)) va
  else .ofHpte (.ofNat 192 (Memory.readN s.mem (s.groupAt t asid va i + 24 * k) 24)) va

theorem State.ptEntries_eq (s : State) (t : WalkTables) (asid : BitVec 12) (va : Addr) (i : Nat) :
    s.ptEntries t va (s.phys (t.hashBase + 128 * ptGroup t asid va i)) =
      (List.range (groupCount t)).map (s.groupEntry t asid va i) := by
  have hbase : s.phys (t.hashBase + 128 * ptGroup t asid va i) = s.groupAt t asid va i := by
    rw [ptGroup, ← Nat.pow_two]
    rfl
  rw [hbase]
  cases hs : t.smallHash
  · simp only [State.ptEntries, groupCount, hs, Bool.false_eq_true, if_false]
    exact List.map_congr_left fun k _ => by rw [State.groupEntry, if_neg (by rw [hs]; decide)]
  · simp only [State.ptEntries, groupCount, hs, if_true]
    exact List.map_congr_left fun k _ => by rw [State.groupEntry, if_pos hs]

theorem State.hashWalk_eq (s : State) (t : WalkTables) (asid : BitVec 12) (va : Addr) :
    s.hashWalk t asid va = ((List.range t.probes).findSome? fun i =>
      ((List.range (groupCount t)).map (s.groupEntry t asid va i)).find? fun e => e.hit asid).map
        fun e => e.ppn ++ e.attr := by
  simp only [State.hashWalk, State.ptEntries_eq]

/-- The walk of the hash table finds the first entry that matches (20_memory R140 to R142). -/
theorem State.walk_hash (ht : s.params.walk = .tables t) (h0 : s.ptbr.getLsbD 0 = false) {hit : Nat → Nat → Prop}
    (hhit : ∀ i k, hit i k ↔ i < t.probes ∧ k < groupCount t ∧ (s.groupEntry t asid va i k).hit asid = true) :
    (∀ i k, hit i k → (∀ j l, (j < i ∨ j = i ∧ l < k) → ¬ hit j l) → s.walk asid va =
      some ⟨false, (s.groupEntry t asid va i k).ppn ++ (s.groupEntry t asid va i k).attr, vpnPart false asid va⟩) ∧
      ((∀ i k, ¬ hit i k) → s.walk asid va = none) := by
  simp only [State.walk, ht, h0, Bool.false_eq_true, if_false, State.hashWalk_eq]
  refine ⟨fun i k hik hfirst => ?_, fun hnone => ?_⟩
  · obtain ⟨hi, hk, hmatch⟩ := (hhit i k).1 hik
    rw [findSome?_range_eq_some (q := fun e : HashEntry => e.hit asid) hi hk hmatch fun j l hjl hl => ?_]
    · rfl
    · have hj : j < t.probes := by omega
      exact Bool.eq_false_iff.2 fun h => hfirst j l hjl ((hhit j l).2 ⟨hj, hl, h⟩)
  · rw [findSome?_range_eq_none fun i k hi hk => Bool.eq_false_iff.2 fun h => hnone i k ((hhit i k).2 ⟨hi, hk, h⟩)]
    rfl

theorem HashEntry.hit_iff {e : HashEntry} :
    e.hit asid = true ↔ e.attr.getLsbD 31 = true ∧ e.sameVpn = true ∧ (e.attr.getLsbD 18 = true ∨ e.asid = asid) := by
  simp only [HashEntry.hit, Bool.and_eq_true, Bool.or_eq_true, beq_iff_eq, and_assoc]

theorem HashEntry.ofShpte_sameVpn {v : BitVec 96} :
    (HashEntry.ofShpte v va).sameVpn = true ↔ v.extractLsb' 58 26 = va.extractLsb' 14 26 := beq_iff_eq

theorem HashEntry.ofHpte_sameVpn {v : BitVec 192} :
    (HashEntry.ofHpte v va).sameVpn = true ↔ (v.extractLsb' 96 78).toNat = va.toNat / 2 ^ 20 := by
  have hva := va.isLt
  have hvpn : ((va.extractLsb' 20 44).setWidth 78).toNat = va.toNat / 2 ^ 20 := by
    rw [BitVec.toNat_setWidth, BitVec.extractLsb'_toNat, Nat.shiftRight_eq_div_pow]
    omega
  rw [← hvpn, BitVec.toNat_inj]
  exact beq_iff_eq

/-! The hierarchical table. -/

theorem State.walk_tree (ht : s.params.walk = .tables t) (h0 : s.ptbr.getLsbD 0 = true) :
    s.walk asid va = (s.treeWalk t va ((s.ptbr.extractLsb' 8 4).toNat + 1) (s.ptbr.extractLsb' 8 4).toNat
      (s.phys (s.ptbr.toNat / 2 ^ 14 % 2 ^ 54 * 2 ^ 14))).map fun r => ⟨r.1, r.2, vpnPart r.1 asid va⟩ := by
  simp only [State.walk, ht, h0, if_true, BitVec.extractLsb'_toNat, Nat.shiftRight_eq_div_pow]

/-- An entry of a table page, its bytes read as one of 96 bits (20_memory R136). -/
theorem State.tableEntry_eq (s : State) (t : WalkTables) (table index : Nat) :
    s.tableEntry t table index = if t.smallPte then .ofNat 96 (Memory.readN s.mem (s.phys (table + t.stride * index)) 8)
      else .ofNat 96 (Memory.readN s.mem (s.phys (table + t.stride * index)) 12) := by
  have hlt := readN_lt s.mem (s.phys (table + t.stride * index)) 8
  have hsmall : (BitVec.ofNat 64 (Memory.readN s.mem (s.phys (table + t.stride * index)) 8)).setWidth 96 =
      .ofNat 96 (Memory.readN s.mem (s.phys (table + t.stride * index)) 8) := by
    refine BitVec.eq_of_toNat_eq ?_
    simp only [BitVec.toNat_setWidth, BitVec.toNat_ofNat]
    omega
  simp only [State.tableEntry, hsmall]

theorem pagePointer_eq (e : BitVec 96) (va : Addr) :
    pagePointer e va =
      if pteLevel e = 0 then some (false, e)
      else if pteLevel e = 1 then some (true, e)
      else if pteLevel e = 2 ∧ (va.extractLsb' 14 20).toNat ≤ (e.extractLsb' 32 20).toNat then
        some (false, e.extractLsb' 52 44 ++ (va.extractLsb' 14 20 ++ e.extractLsb' 0 32))
      else none := by
  unfold pagePointer
  split
  · rename_i h
    rw [if_pos h]
  · rename_i h
    rw [if_neg (by omega), if_pos h]
  · rename_i h
    rw [if_neg (show ¬ pteLevel e = 0 by omega), if_neg (show ¬ pteLevel e = 1 by omega)]
    simp only [h, true_and]
  · rename_i h0 h1 h2
    rw [if_neg h0, if_neg h1, if_neg fun h => h2 h.1]

/-- One table page of the search: a table pointer goes on at a lower level (20_memory R136 to R138). -/
theorem State.treeWalk_eq {fuel level table : Nat} (hf : level < fuel) {e : BitVec 96}
    (he : s.tableEntry t table (va.toNat / 2 ^ (14 + 10 * level) % 2 ^ 10) = e) :
    s.treeWalk t va fuel level table =
      if e.getLsbD 31 = false then none
      else if e.getLsbD 20 = true then
        if pteLevel e < level then
          s.treeWalk t va (pteLevel e + 1) (pteLevel e) (s.phys ((e.extractLsb' 32 64).toNat * 2 ^ 14))
        else none
      else pagePointer e va := by
  obtain ⟨n, rfl⟩ : ∃ n, fuel = n + 1 := ⟨fuel - 1, by omega⟩
  have hindex : (va.extractLsb' (14 + 10 * level) 10).toNat = va.toNat / 2 ^ (14 + 10 * level) % 2 ^ 10 := by
    rw [BitVec.extractLsb'_toNat, Nat.shiftRight_eq_div_pow]
  rw [State.treeWalk]
  simp only [hindex, he, pteValid, ptePointer, ptePpn, Bool.not_eq_true']
  refine if_congr Iff.rfl rfl ?_
  cases e.getLsbD 20
  · rfl
  · simp only [Bool.true_eq_false, if_false, if_true]
    refine ite_congr rfl (fun hl => ?_) fun _ => rfl
    exact State.treeWalk_fuel s t va _ _ _ (by omega)

end Sys2Proof.Machine

/-! Translation and protection: scalar loads and stores in one or two pieces (20_memory R101, R106, R150). -/

namespace Sys2Proof.Machine

variable {s t u : State} {x : Ext} {va : Addr} {n : Nat} {k : Kind} {m : BitVec 2}

/-! The pieces of an access. -/

theorem inPage_one (h : n ≤ 16384 - va.toNat % 16384) : inPage va n = n := Nat.min_eq_left h

theorem inPage_two (h : 16384 - va.toNat % 16384 < n) : inPage va n = 16384 - va.toNat % 16384 :=
  Nat.min_eq_right (Nat.le_of_lt h)

theorem memReadAs_one (h : n ≤ 16384 - va.toNat % 16384) : memReadAs k m va n s = readPiece k m va n s := by
  simp only [memReadAs, inPage_one h, if_true]

theorem memReadAs_two (h : 16384 - va.toNat % 16384 < n) {first : Nat} (hf : 16384 - va.toNat % 16384 = first) :
    memReadAs k m va n s = (readPiece k m va first s).bind fun lo t =>
      (readPiece k m (va + .ofNat 64 first) (n - first) t).bind fun hi u => .ok (lo + 256 ^ first * hi) u := by
  simp only [memReadAs, inPage_two h, hf, if_neg (show ¬ first = n by omega)]

theorem memWriteAs_one (h : n ≤ 16384 - va.toNat % 16384) (v : Nat) : memWriteAs m va n v s = writePiece m va n v s := by
  simp only [memWriteAs, inPage_one h, if_true]

theorem memWriteAs_two (h : 16384 - va.toNat % 16384 < n) {first : Nat} (hf : 16384 - va.toNat % 16384 = first) (v : Nat) :
    memWriteAs m va n v s = (writePiece m va first (v % 256 ^ first) s).bind fun _ t =>
      writePiece m (va + .ofNat 64 first) (n - first) (v / 256 ^ first) t := by
  simp only [memWriteAs, inPage_two h, hf, if_neg (show ¬ first = n by omega)]

/-! Scalar loads and stores without a REGS list. -/

/-- A scalar load of one register. -/
theorem loadDisp_scalar {w : Nat} {get : Get} {o : MemD} (hen : s.enabled x false) (hvd : o.vd = false)
    (hregs : x.tail.regs = none) (hrt : o.rt ≠ 53) :
    loadDisp n w get o x s = finish (extLen x) s
      ((get (eaDisp o x.tail s) s).bind fun v t => .ok .seq (t.setReg o.rt v)) := by
  rw [loadDisp, runExt_enabled (by rw [hvd]; exact hen)]
  simp only [hvd, Bool.false_eq_true, if_false, loadScalar, regsList, hregs, loadMany, loadTo, if_neg hrt]
  cases get (eaDisp o x.tail s) s <;> rfl

/-- A load that does not read, to any register. -/
theorem loadDisp_trap {w : Nat} {get : Get} {o : MemD} (hen : s.enabled x false) (hvd : o.vd = false) {e : Exc}
    (he : get (eaDisp o x.tail s) s = .trap e u) :
    loadDisp n w get o x s = enter .sync e.vec s.pc e.bad { u with retire := .fault } := by
  rw [loadDisp, runExt_enabled (by rw [hvd]; exact hen)]
  simp only [hvd, Bool.false_eq_true, if_false, loadScalar, loadMany, he]
  rfl

/-- A scalar store of one register. -/
theorem storeDisp_scalar {w : Nat} {put : Put} {v : State → Word} {o : MemD} (hen : s.enabled x false) (hvd : o.vd = false)
    (hregs : x.tail.regs = none) :
    storeDisp n w put v o x s = finish (extLen x) s
      ((put (eaDisp o x.tail s) (v s) s).map fun _ => .seq) := by
  rw [storeDisp, runExt_enabled (by rw [hvd]; exact hen)]
  simp only [hvd, Bool.false_eq_true, if_false, storeScalar, regsList, hregs, storeMany]
  rfl

variable {z : Size} {o : MemD} {v : Nat} {e : Exc}

/-- LOAD and LOADZ of what MemRead gives. -/
theorem exec_load_ok (hen : s.enabled x false) (hvd : o.vd = false) (hregs : x.tail.regs = none) (hrt : o.rt ≠ 53)
    (h : memRead (eaDisp o x.tail s) z.bytes s = .ok v u) :
    exec (.load z o x) s = .next { u.setReg o.rt ((BitVec.ofNat z.bits v).signExtend 128) with
        pc := s.pc + .ofNat 64 (extLen x), retire := .seq } ∧
      exec (.loadz z o x) s = .next { u.setReg o.rt ((BitVec.ofNat z.bits v).setWidth 128) with
        pc := s.pc + .ofNat 64 (extLen x), retire := .seq } := by
  rw [exec_load, exec_loadz, execLoad, execLoadz, loadDisp_scalar hen hvd hregs hrt,
    loadDisp_scalar hen hvd hregs hrt, getSigned, getZero, h]
  exact ⟨rfl, rfl⟩

theorem exec_load_trap (hen : s.enabled x false) (hvd : o.vd = false)
    (h : memRead (eaDisp o x.tail s) z.bytes s = .trap e u) :
    exec (.load z o x) s = enter .sync e.vec s.pc e.bad { u with retire := .fault } ∧
      exec (.loadz z o x) s = enter .sync e.vec s.pc e.bad { u with retire := .fault } :=
  ⟨loadDisp_trap hen hvd (by rw [getSigned, h]; rfl), loadDisp_trap hen hvd (by rw [getZero, h]; rfl)⟩

/-- STORE, of what MemWrite does. -/
theorem exec_store_scalar (hen : s.enabled x false) (hvd : o.vd = false) (hregs : x.tail.regs = none) :
    exec (.store z o x) s = finish (extLen x) s
      ((memWrite (eaDisp o x.tail s) z.bytes ((s.storeReg o.rt).setWidth z.bits).toNat s).map fun _ => .seq) := by
  rw [exec_store, execStore, storeDisp_scalar hen hvd hregs]
  rfl

/-- Settles O51: the lookup by the number of ways that hit, the walk by the table it searches, and the pieces of an access,
each from its equation. -/
theorem translationAndProtection : Obligations.TranslationAndProtection := by
  refine ⟨fun k m va n s ht => ?_, fun s asid va => ?_, fun z o x s _ hen hregs hvd => ?_⟩
  · intro page hits miss found
    have hslot : ∀ way, waySlot way va = way * 1024 + page way := fun way => waySlot_eq way va
    have hfound : ∀ t way, checkHit k m va n way t = found t way := fun t way => by
      rw [checkHit_eq (hslot way) rfl rfl rfl, State.rwx_eq, State.pageRights_eq]
      refine if_congr Iff.rfl rfl (if_congr ?_ rfl (if_congr State.granularOk_eq_false rfl
        (if_congr State.rightsOk_iff rfl rfl)))
      cases k <;> exact Iff.rfl
    refine ⟨fun way => ?_, fun way h => (locate_hit ht h).trans (hfound s way), fun v w l h => locate_hits ht h,
      fun h hs => locate_soft ht h hs, fun h hs hw => locate_unmapped ht h hs hw, fun f h hs hw => ?_⟩
    · rw [State.mem_hits]
      exact and_congr_right fun _ => State.wayHits_iff (by rw [hslot])
    · refine ⟨if f.big then 4 else (Config.tlbWay s.draws).toNat, fun hb => by rw [if_pos hb], fun hb => ?_, ?_⟩
      · rw [if_neg (by rw [hb]; decide)]
        exact BitVec.isLt _
      · intro t
        have hrefill : s.refill va f = t := by simp only [State.refill, hslot]; rfl
        obtain ⟨hone, hmany, hnone⟩ := locate_walk (k := k) (m := m) (n := n) ht h hs hw
        rw [hrefill] at hone hmany hnone
        exact ⟨fun way h => (hone way h).trans (hfound t way), hmany, hnone⟩
  · refine ⟨fun h => State.walk_absent h asid va, fun t ht => ⟨fun h0 => ?_, fun h0 => State.walk_tree ht h0, ?_⟩⟩
    · intro hash group small large attr ppn vpn own count hit
      have hentry : ∀ i k, (s.groupEntry t asid va i k).attr = attr i k ∧ (s.groupEntry t asid va i k).ppn = ppn i k ∧
          ((s.groupEntry t asid va i k).sameVpn = true ↔ vpn i k) ∧
          (s.groupEntry t asid va i k).asid = own i k := fun i k => by
        unfold State.groupEntry attr ppn vpn own
        cases t.smallHash
        · exact ⟨rfl, rfl, HashEntry.ofHpte_sameVpn, rfl⟩
        · exact ⟨rfl, rfl, HashEntry.ofShpte_sameVpn, rfl⟩
      obtain ⟨hsome, hnone⟩ := State.walk_hash (asid := asid) (va := va) ht h0 (hit := hit) fun i k => by
        obtain ⟨hattr, -, hvpn, hown⟩ := hentry i k
        rw [HashEntry.hit_iff, hattr, hvpn, hown]
        exact Iff.rfl
      refine ⟨fun i k hik hfirst => ?_, hnone⟩
      obtain ⟨hattr, hppn, -, -⟩ := hentry i k
      rw [hsome i k hik hfirst, hattr, hppn]
      rfl
    · intro fuel level table hf at_ e lvl page
      rw [State.treeWalk_eq hf (State.tableEntry_eq s t _ _), pagePointer_eq]
      rfl
  · intro ea n first rest mode low read write raises fails done loads v
    have hstore := exec_store_scalar (z := z) hen hvd hregs
    have hread : ∀ {r u}, memRead ea n s = .ok r u → loads r u := fun h hrt => exec_load_ok hen hvd hregs hrt h
    have hfail : ∀ {e u}, memRead ea n s = .trap e u → fails e u := fun h => exec_load_trap hen hvd h
    have hwrite : ∀ {u}, memWrite ea n v s = .ok () u → done (.store z o x) u := fun h => by
      show exec _ s = _
      rw [hstore, h]
      rfl
    have hwfail : ∀ {e u}, memWrite ea n v s = .trap e u → raises (.store z o x) e u := fun h => by
      show exec _ s = _
      rw [hstore, h]
      rfl
    refine ⟨fun hn => ?_, fun hn => ?_⟩
    · have hr : memRead ea n s = read ea n s := memReadAs_one hn
      have hw : memWrite ea n v s = write ea n v s := memWriteAs_one hn v
      exact ⟨fun r u h => hread (hr.trans h), fun e u h => hfail (hr.trans h), fun u h => hwrite (hw.trans h),
        fun e u h => hwfail (hw.trans h)⟩
    · have hr : memRead ea n s = (read ea first s).bind fun l t =>
          (read rest (n - first) t).bind fun h u => .ok (l + 256 ^ first * h) u := memReadAs_two hn rfl
      have hw : memWrite ea n v s = (write ea first (v % 256 ^ first) s).bind fun _ t =>
          write rest (n - first) (v / 256 ^ first) t := memWriteAs_two hn rfl v
      refine ⟨fun e t h => hfail ?_, fun l t h => ⟨fun e u h' => hfail ?_, fun r u h' => hread ?_⟩, fun e t h => hwfail ?_,
        fun t h => ⟨fun e u h' => hwfail ?_, fun u h' => hwrite ?_⟩⟩
      · rw [hr, h]; rfl
      · rw [hr, h]; simp only [Acc.bind, h']
      · rw [hr, h]; simp only [Acc.bind, h']
      · rw [hw, h]; rfl
      · rw [hw, h]; exact h'
      · rw [hw, h]; exact h'

end Sys2Proof.Machine

/-! Atomic operations and CMPXCHG (47_memory_ops R614, R620 to R628): the read-modify-write of aligned memory, and the Address
Error of any other address. -/

namespace Sys2Proof.Machine

variable {s : State} {x : Ext} {va : Addr} {n : Nat} {f : Nat → Option Nat}

/-- An aligned operand lies in one page. -/
theorem size_in_page (z : Size) (h : va.toNat % z.bytes = 0) : z.bytes ≤ 16384 - va.toNat % 16384 := by
  cases z <;> simp only [Size.bytes] at h ⊢ <;> omega

theorem busRead_ram {w : Addr} (h : s.ram va n) (hn : n ≤ 16384 - va.toNat % 16384) :
    busRead w va.toNat n s = .ok (s.data va n) s := by
  simp only [busRead, State.target_ram h hn, State.readN_data hn]

theorem busWrite_ram {w : Addr} (h : s.ram va n) (hn : n ≤ 16384 - va.toNat % 16384) (v : Nat) :
    busWrite w va.toNat n v s = .ok () (s.store va.toNat n v) := by
  simp only [busWrite, State.target_ram h hn]

/-- Away from an aligned address nothing is done (20_memory R104). -/
theorem atomic_misaligned (hs : s.flat) (h : va.toNat % n ≠ 0) : atomic va n f s = .trap ⟨3, some va⟩ s := by
  simp only [atomic, State.virt_flat hs, if_pos h]

/-- At an aligned address the old value is given, and what `f` makes of it is stored (20_memory R173). -/
theorem atomic_ram (h : s.ram va n) (hn : n ≤ 16384 - va.toNat % 16384) (ha : va.toNat % n = 0) :
    atomic va n f s = .ok (s.data va n) (((f (s.data va n)).map fun v => s.store va.toNat n v).getD s) := by
  simp only [atomic, State.virt_flat h.1, ha, ne_eq, not_true_eq_false, if_false, locate_flat h.1, Acc.bind,
    busRead_ram h hn]
  cases f (s.data va n) with
  | none => rfl
  | some v => simp only [busWrite_ram h hn]; rfl

variable {inst : Instr} {z : Size} {rt ra : Reg} {new : BitVec z.bits → Option (BitVec z.bits)}

/-- A read-modify-write instruction at an aligned address of memory. -/
theorem exec_amo_aligned (hi : exec inst s = finish (extLen x) s (amo z rt ra new s))
    (ha : ((s.reg ra).setWidth 64 : Addr).toNat % z.bytes = 0) (h : s.ram ((s.reg ra).setWidth 64) z.bytes) :
    exec inst s = .next ((((new (.ofNat z.bits (s.data ((s.reg ra).setWidth 64) z.bytes))).map fun v =>
      s.store ((s.reg ra).setWidth 64 : Addr).toNat z.bytes v.toNat).getD s).wrote (extLen x) rt
        ((BitVec.ofNat z.bits (s.data ((s.reg ra).setWidth 64) z.bytes)).signExtend 128)) := by
  rw [hi, amo, atomic_ram h (size_in_page z ha) ha]
  cases new (.ofNat z.bits (s.data ((s.reg ra).setWidth 64) z.bytes)) <;>
    simp [Acc.bind, finish, State.wrote, State.passed]

/-- A read-modify-write instruction at any other address. -/
theorem exec_amo_misaligned (hi : exec inst s = finish (extLen x) s (amo z rt ra new s))
    (ha : ((s.reg ra).setWidth 64 : Addr).toNat % z.bytes ≠ 0) : Traps inst s 3 (some ((s.reg ra).setWidth 64)) := by
  intro a hh
  rw [hi, amo, atomic_misaligned hh.1.1 ha]
  exact finish_trap hh

/-- The second operand of an atomic operation: Rb, or a constant in its place (47_memory_ops R620). -/
theorem srcB_plain (s : State) (r : Reg) (t : Tail) (w k : Nat) :
    (srcB false r t).value .plain false s w k = (t.const.getD (s.reg r)).setWidth w := by
  unfold srcB
  cases t.const with
  | none => simp [srcOf, Src.value, decorate]
  | some c => rfl

theorem amoR_enabled (h : s.enabled x false) (g : (w : Nat) → BitVec w → BitVec w → BitVec w) (o : AmoR) :
    amoR g o x s = finish (extLen x) s (amo o.size o.rt o.ra
      (fun v => some (g o.size.bits v ((x.tail.const.getD (s.reg o.rb)).setWidth o.size.bits))) s) := by
  rw [amoR, runExt_enabled h, srcB_plain]

theorem amoI_enabled (h : s.enabled x false) (g : (w : Nat) → BitVec w → BitVec w → BitVec w) (o : AmoI) :
    amoI g o x s = finish (extLen x) s (amo o.size o.rt o.ra
      (fun v => some (g o.size.bits v ((x.tail.const.getD (o.imm.signExtend 128)).setWidth o.size.bits))) s) := by
  rw [amoI, runExt_enabled h]
  rfl

/-- Settles O32: each instruction is one read-modify-write with its own function, at an aligned address or not. -/
theorem atomicOperations : Obligations.AtomicOperations := by
  intro o i c x s hen amo b m r imm
  have hamo : ∀ {inst z rt ra} {new : BitVec (Size.bits z) → Option (BitVec z.bits)},
      exec inst s = finish (extLen x) s (Machine.amo z rt ra new s) → amo inst z rt ra new := by
    intro inst z rt ra new hi
    refine ⟨fun ha hram hw => ⟨_, exec_amo_aligned hi ha hram, ?_⟩, exec_amo_misaligned hi⟩
    cases new (.ofNat z.bits (s.data ((s.reg ra).setWidth 64) z.bytes)) with
    | none => rfl
    | some v => exact ⟨State.stored_store _ z.bytes v.toNat hw (size_in_page z ha), rfl⟩
  have hr : ∀ {inst} {g : (w : Nat) → BitVec w → BitVec w → BitVec w}, exec inst s = amoR g o x s →
      r inst fun v => g o.size.bits v b := fun hi => hamo (hi.trans (amoR_enabled hen _ o))
  have himm : ∀ {inst} {g : (w : Nat) → BitVec w → BitVec w → BitVec w}, exec inst s = amoI g i x s →
      imm inst fun v => g i.size.bits v m := fun hi => hamo (hi.trans (amoI_enabled hen _ i))
  have hmin : (fun v : BitVec o.size.bits => if b.slt v then b else v) = fun v => if b.toInt < v.toInt then b else v := by
    funext v
    simp only [BitVec.slt_iff_toInt_lt]
  have hminu : (fun v : BitVec o.size.bits => if b.ult v then b else v) = fun v => if b.toNat < v.toNat then b else v := by
    funext v
    simp only [BitVec.ult_iff_toNat_lt]
  have hxchg := runExt_enabled (body := fun s => Machine.amo c.size c.rt c.ra
    (fun v => if v = (s.reg c.rb).setWidth c.size.bits then some ((s.reg c.rc).setWidth c.size.bits) else none) s) hen
  refine ⟨hr (exec_amadd o x s), hr (exec_amand o x s), hr (exec_amor o x s), hr (exec_ameor o x s),
    hr (exec_amasl o x s), hr (exec_amlsr o x s), ?_, ?_, himm (exec_amaddImm i x s), himm (exec_amandImm i x s),
    himm (exec_amorImm i x s), himm (exec_ameorImm i x s), himm (exec_amaslImm i x s), himm (exec_amlsrImm i x s),
    hamo ((exec_cmpxchg c x s).trans hxchg)⟩
  · rw [← hmin]; exact hr (exec_ammin o x s)
  · rw [← hminu]; exact hr (exec_amminu o x s)

end Sys2Proof.Machine

/-! CACHE (47_memory_ops R612; 20_memory R145, R176): what each command leaves. -/

namespace Sys2Proof.Machine

variable {s : State} {cmd : BitVec 6} {ea : Addr}

theorem cacheCommand_instruction (h : cmd.extractLsb' 0 3 = 0 ∨ cmd.extractLsb' 0 3 = 1) :
    cacheCommand cmd ea s = { s with stale := [] } := by
  obtain h | h := h <;> simp only [cacheCommand, h] <;> rfl

theorem cacheCommand_tlb (h : cmd.extractLsb' 0 3 = 4) : cacheCommand cmd ea s = { s with tlb := s.tlb.invalidate } := by
  simp only [cacheCommand, h]
  rfl

theorem cacheCommand_entry (h : cmd.extractLsb' 0 3 = 5) : cacheCommand cmd ea s = s.tlbInvalidateEntry ea := by
  simp only [cacheCommand, h]
  rfl

theorem cacheCommand_data
    (h : cmd.extractLsb' 0 3 = 2 ∨ cmd.extractLsb' 0 3 = 3 ∨ cmd.extractLsb' 0 3 = 6 ∨ cmd.extractLsb' 0 3 = 7) :
    cacheCommand cmd ea s = s := by
  obtain h | h | h | h := h <;> simp only [cacheCommand, h] <;> rfl

/-- No command changes anything but the bytes a fetch may still see and the TLB. -/
theorem cacheCommand_frame (cmd : BitVec 6) (ea : Addr) (s : State) :
    cacheCommand cmd ea s = { s with stale := (cacheCommand cmd ea s).stale, tlb := (cacheCommand cmd ea s).tlb } := by
  unfold cacheCommand
  split <;> rfl

/-- With no old byte left, a fetch sees the byte that is there (20_memory R176). -/
theorem State.fetchByte_fresh (h : s.stale = []) (pa : Nat) : s.fetchByte pa = s.physByte pa := by
  simp only [State.fetchByte, h, List.find?_nil]

theorem dispOr_eq (field : Addr) (t : Tail) : dispOr field t = (t.const.map fun c => c.setWidth 64).getD field := by
  unfold dispOr
  cases t.const <;> rfl

/-- An index of operands of one byte is not scaled (47_memory_ops R585). -/
theorem eaIndex_one (o : MemX) (t : Tail) (idx : Word) (s : State) : eaIndex o 1 t idx s =
    (s.reg o.rb).setWidth 64 + idx.setWidth 64 + ((t.const.map fun c => c.setWidth 64).getD 0 : Addr) := by
  have hscale : indexScale o.sc 1 = 1 := by cases o.sc <;> rfl
  rw [eaIndex, hscale, dispOr_eq]
  exact congrArg (fun a => _ + a + _) (BitVec.mul_one _)

/-- CACHE completes with its command carried out. -/
theorem exec_cache_done {o : MemD} {x : Ext} (h : s.enabled x false) :
    exec (.cache o x) s = .next ((cacheCommand o.rt (eaDisp o x.tail s) s).passed (extLen x)) := by
  rw [exec_cache, execCache, runExt_enabled h, cacheCommand_frame]
  rfl

theorem exec_cacheX_done {o : MemX} {x : Ext} (h : s.enabled x false) :
    exec (.cacheX o x) s = .next ((cacheCommand o.rt (eaIndex o 1 x.tail (s.reg o.rc) s) s).passed (extLen x)) := by
  rw [exec_cacheX, execCacheX, runExt_enabled h, cacheCommand_frame]
  rfl

/-- Settles O35: each command by its equation, and the TLB's by what an invalidation leaves in every slot. -/
theorem cacheCommands : Obligations.CacheCommands := by
  intro o q x s hen kill cache
  have hcache : ∀ c cmd ea, exec c s = .next ((cacheCommand cmd ea s).passed (extLen x)) → cache c cmd ea := by
    intro c cmd ea hc
    refine ⟨_, hc, ?_, fun h => ?_, fun h => ?_, fun h => ?_, fun h => ?_⟩
    · rw [cacheCommand_frame]
      rfl
    · rw [cacheCommand_instruction h]
      exact ⟨rfl, rfl, State.fetchByte_fresh rfl⟩
    · rw [cacheCommand_tlb h]
      exact ⟨rfl, State.hits_invalidate s, rfl, Tlb.get_invalidate s.tlb⟩
    · rw [cacheCommand_entry h]
      obtain ⟨⟨es, hes⟩, hget, hhits⟩ := State.tlbInvalidateEntry_spec s ea
      exact ⟨rfl, hhits, by rw [hes]; rfl, hget⟩
    · rw [cacheCommand_data h]
  refine ⟨hcache _ _ _ (exec_cache_done hen), hcache _ _ _ ?_⟩
  rw [← eaIndex_one]
  exact exec_cacheX_done hen

end Sys2Proof.Machine

/-! The registers of the units behind the bus (20_memory R111, R114, R149; 60_exceptions R802, R814): which accesses they take,
what those give and leave. -/

namespace Sys2Proof.Machine

variable {s t : State} {d : Device} {va : Addr} {pa n off v r k : Nat} {z : Size}

theorem size_pow_bytes (z : Size) : 256 ^ z.bytes = 2 ^ z.bits := by cases z <;> rfl

theorem size_bytes_cases (z : Size) :
    (z.bytes = 1 ↔ z = .b) ∧ (z.bytes = 4 ↔ z = .t) ∧ (z.bytes = 8 ↔ z = .o) := by cases z <;> decide

theorem size_bytes_pos (z : Size) : 0 < z.bytes := by cases z <;> decide

/-! The bus. -/

/-- The `n` bytes at `pa` are those of a unit from an offset of its window on. -/
def State.unitAt (s : State) (pa n : Nat) (d : Device) (off : Nat) : Prop :=
  ∀ i, i < n → s.device (pa + i) = some (d, off + i)

theorem State.unitAt.first (h : s.unitAt pa n d off) (hn : 0 < n) : s.device pa = some (d, off) := h 0 hn

/-- The registers of a unit answer alone. -/
theorem State.target_unit (h : s.unitAt pa n d off) (hn : 0 < n) (hd : d ≠ .region) : s.target pa n = .unit d off := by
  have hstrict : ((List.range n).any fun i => s.strict (pa + i)) = true := by
    rw [List.any_eq_true]
    refine ⟨0, List.mem_range.2 hn, ?_⟩
    rw [State.strict, h 0 hn]
    cases d with
    | region => exact absurd rfl hd
    | _ => rfl
  simp only [State.target, hstrict, h.first hn, h (n - 1) (by omega), if_true]

/-- The region table answers like memory (20_memory R120). -/
theorem State.target_table (h : s.unitAt pa n .region off) (hn : 0 < n) : s.target pa n = .table := by
  have hstrict : ((List.range n).any fun i => s.strict (pa + i)) = false := by
    simpa [List.any_eq_false] using fun i hi => by rw [State.strict, h i hi]
  have hclaimed : ((List.range n).all fun i => s.claimed (pa + i)) = true := by
    simpa [List.all_eq_true] using fun i hi => by rw [State.claimed, h i hi]; rfl
  have hsome : ((List.range n).any fun i => (s.device (pa + i)).isSome) = true := by
    rw [List.any_eq_true]
    exact ⟨0, List.mem_range.2 hn, by rw [h 0 hn]; rfl⟩
  rw [State.target, hstrict, hclaimed, hsome]
  rfl

theorem busRead_unit (h : s.target pa n = .unit d off) (hr : s.deviceRead d off n = some r) :
    busRead va pa n s = .ok r s := by
  simp only [busRead, h, hr]

theorem busRead_unit_refused (h : s.target pa n = .unit d off) (hr : s.deviceRead d off n = none) :
    busRead va pa n s = .refuse .deviceAccess := by
  simp only [busRead, h, hr]

theorem busWrite_unit (h : s.target pa n = .unit d off) (hw : s.deviceWrite d off n v = .ok t) :
    busWrite va pa n v s = .ok () t := by
  simp only [busWrite, h, hw]

theorem busWrite_unit_refused (h : s.target pa n = .unit d off) {e : Refusal} (hw : s.deviceWrite d off n v = .error e) :
    busWrite va pa n v s = .refuse e := by
  simp only [busWrite, h, hw]

/-! The PIC and the PITs. -/

theorem deviceRead_pic (h : n = 4 ∧ off % 4 = 0) : s.deviceRead .pic off n = some (s.picRead off).toNat := if_pos h

theorem deviceWrite_pic (h : n = 4 ∧ off % 4 = 0) : s.deviceWrite .pic off n v =
    .ok ({ s with pic := s.pic.write off (.ofNat 32 v) } : State).samplePic := if_pos h

theorem pic_refuses (h : ¬ (n = 4 ∧ off % 4 = 0)) :
    s.deviceRead .pic off n = none ∧ s.deviceWrite .pic off n v = .error .deviceAccess := ⟨if_neg h, if_neg h⟩

/-- What an access to a register of a PIT reads: all of it, or its lowest byte (60_exceptions R814; log 36). -/
def pitBytes (off n : Nat) (w : BitVec 64) : Option Nat :=
  if n = 8 ∧ off % 8 = 0 then some w.toNat
  else if n = 1 ∧ off < 0x800 ∧ off % 32 = 0x18 then some (w.toNat % 256) else none

theorem deviceRead_pit1 : s.deviceRead .pit1 off n = pitBytes off n (s.pit1.read s.params off) := rfl

theorem deviceRead_pit2 : s.deviceRead .pit2 off n = pitBytes off n (s.pit2.read s.params off) := rfl

theorem pitBytes_octa (h : n = 8 ∧ off % 8 = 0) (w : BitVec 64) : pitBytes off n w = some w.toNat := if_pos h

theorem pitBytes_byte (h : n = 1 ∧ off < 0x800 ∧ off % 32 = 0x18) (w : BitVec 64) :
    pitBytes off n w = some (w.toNat % 256) := by
  rw [pitBytes, if_neg (by omega), if_pos h]

theorem pitBytes_none (hw : ¬ (n = 8 ∧ off % 8 = 0)) (hc : ¬ (n = 1 ∧ off < 0x800 ∧ off % 32 = 0x18)) (w : BitVec 64) :
    pitBytes off n w = none := by
  rw [pitBytes, if_neg hw, if_neg hc]

/-! The registers of the TLB. -/

theorem deviceRead_tlb (h : n = 8 ∧ off % 8 = 0) : s.deviceRead .tlb off n = some (s.tlb.readReg off).toNat := if_pos h

theorem deviceRead_tlb_none (h : ¬ (n = 8 ∧ off % 8 = 0)) : s.deviceRead .tlb off n = none := if_neg h

theorem deviceWrite_tlb (h : n = 8 ∧ off % 8 = 0) (ht : off ≠ 0x78) :
    s.deviceWrite .tlb off n v = .ok { s with tlb := s.tlb.writeReg s.params off (.ofNat 64 v) } :=
  if_pos ⟨h.1, h.2, ht⟩

theorem deviceWrite_tlb_refused (hw : ¬ (n = 8 ∧ off % 8 = 0 ∧ off ≠ 0x78)) (ht : ¬ (n = 1 ∧ 0x78 ≤ off ∧ off ≤ 0x7F)) :
    s.deviceWrite .tlb off n v = .error .deviceAccess := by
  simp only [State.deviceWrite, if_neg hw, if_neg ht]

theorem deviceWrite_unusedTrigger (h : 0x78 ≤ off ∧ off ≤ 0x7C) : s.deviceWrite .tlb off 1 v = .ok s := by
  simp only [State.deviceWrite]
  rw [if_neg (by omega), if_pos ⟨trivial, h.1, by omega⟩, if_pos h.2]

theorem deviceWrite_trigger (h : 0x7D ≤ off ∧ off ≤ 0x7F) : s.deviceWrite .tlb off 1 v =
    ((s.tlbTrigger (off == 0x7D || off == 0x7F) (off == 0x7E || off == 0x7F)).elim (.error .tlbWay) .ok) := by
  simp only [State.deviceWrite]
  rw [if_neg (by omega), if_pos ⟨trivial, by omega, h.2⟩, if_neg (by omega)]
  cases s.tlbTrigger (off == 0x7D || off == 0x7F) (off == 0x7E || off == 0x7F) <;> rfl

theorem Tlb.readReg_pteHigh (t : Tlb) : (t.readReg 0x08).toNat = (t.holdPte.extractLsb' 64 32).toNat :=
  BitVec.toNat_setWidth_of_le (b := t.holdPte.extractLsb' 64 32) (by decide)

theorem Tlb.readReg_vpnHigh (t : Tlb) : (t.readReg 0x18).toNat = (t.holdVpn.extractLsb' 64 32).toNat :=
  BitVec.toNat_setWidth_of_le (b := t.holdVpn.extractLsb' 64 32) (by decide)

/-- The ASID of the last miss stands above an address of 48 bits. -/
theorem Tlb.readReg_missAsid (t : Tlb) : (t.readReg 0x28).toNat = 2 ^ 48 * t.missAsid.toNat := by
  have hlt := t.missAsid.isLt
  have hread : t.readReg 0x28 = t.missAsid.setWidth 64 <<< 48 := rfl
  rw [hread, BitVec.toNat_shiftLeft, BitVec.toNat_setWidth_of_le (by decide), Nat.shiftLeft_eq]
  omega

/-- Beyond the miss registers only the control register has a value (20_memory R149; log 37). -/
theorem Tlb.readReg_unused (t : Tlb) (h : 0x28 < off) (hc : off ≠ 0x70) : t.readReg off = 0 := by
  unfold Tlb.readReg
  iterate 6 rw [if_neg (by omega)]
  rw [if_neg hc]

/-- A write of the miss registers, and of what is no register, changes nothing. -/
theorem Tlb.writeReg_ignored (c : Params) (t : Tlb) (h : 0x18 < off) (hc : off ≠ 0x70) (w : BitVec 64) :
    t.writeReg c off w = t := by
  unfold Tlb.writeReg
  iterate 4 rw [if_neg (by omega)]
  rw [if_neg hc]

/-- The slot of a way that the control register selects (20_memory R149). -/
def State.tlbSelected (s : State) (way : Nat) : Nat := tlbSlot way s.tlbEntryField

/-- A write's way: its own choice, or the control register's (20_memory R148). -/
def State.tlbWriteWay (s : State) : Nat := if s.tlbAuto then (Config.tlbWay s.draws).toNat else s.tlbWayField

/-- The TLB with the held entry put in the slot of a way, valid in the current count. -/
def State.tlbWritten (s : State) (way : Nat) : Tlb :=
  s.tlb.put (s.tlbSelected way) ⟨s.tlb.holdPte, s.tlb.holdVpn, s.tlb.count, 0, none⟩

theorem tlbTrigger_read (h : s.tlbWayField < 6) : s.tlbTrigger true false = some { s with
    tlb := { s.tlb with
      holdPte := (s.tlb.get (s.tlbSelected s.tlbWayField)).pte
      holdVpn := (s.tlb.get (s.tlbSelected s.tlbWayField)).vpn } } := by
  simp only [State.tlbTrigger, Bool.false_and, Bool.false_eq_true, if_false, if_pos h, if_true]
  rfl

theorem tlbTrigger_write (h : s.tlbWriteWay < 6) :
    s.tlbTrigger false true = some { s with tlb := s.tlbWritten s.tlbWriteWay, draws := s.draws + 1 } := by
  rw [State.tlbWriteWay] at h ⊢
  simp only [State.tlbTrigger, Bool.true_and, if_pos h, Bool.false_eq_true, if_false, if_true]
  rfl

theorem tlbTrigger_exchange (h : s.tlbWriteWay < 6) : s.tlbTrigger true true = some { s with
    tlb := { s.tlbWritten s.tlbWriteWay with
      holdPte := (s.tlb.get (s.tlbSelected s.tlbWriteWay)).pte
      holdVpn := (s.tlb.get (s.tlbSelected s.tlbWriteWay)).vpn }
    draws := s.draws + 1 } := by
  rw [State.tlbWriteWay] at h ⊢
  simp only [State.tlbTrigger, Bool.true_and, if_pos h, if_true]
  rfl

theorem tlbTrigger_read_absent (h : 6 ≤ s.tlbWayField) : s.tlbTrigger true false = none := by
  simp only [State.tlbTrigger, Bool.false_and, Bool.false_eq_true, if_false, if_neg (Nat.not_lt.2 h)]

theorem tlbTrigger_write_absent (h : 6 ≤ s.tlbWriteWay) (read : Bool) : s.tlbTrigger read true = none := by
  rw [State.tlbWriteWay] at h
  simp only [State.tlbTrigger, Bool.true_and, if_neg (Nat.not_lt.2 h)]

/-- With the fixed method in both registers the way is the control register's (20_memory R148). -/
theorem State.tlbWriteWay_fixed (ha : s.tlbAlField = 0) (hb : s.ptbr.extractLsb' 6 2 = 0) :
    s.tlbWriteWay = s.tlbWayField := by
  simp only [State.tlbWriteWay, State.tlbAuto, ha, hb, bne_self_eq_false, beq_self_eq_true, if_true, Bool.false_eq_true,
    if_false]

theorem State.tlbWriteWay_auto (ha : s.tlbAlField ≠ 0) (hb : s.ptbr.extractLsb' 6 2 ≠ 0) : s.tlbWriteWay < 4 := by
  have hown : (s.tlbAlField != 0) = true := bne_iff_ne.2 ha
  have hbase : (s.ptbr.extractLsb' 6 2 != 0) = true := bne_iff_ne.2 hb
  simp only [State.tlbWriteWay, State.tlbAuto, hown, hbase, beq_self_eq_true, if_true]
  exact BitVec.isLt _

/-- Where the registers disagree, one or the other (log 56). -/
theorem State.tlbWriteWay_either (s : State) : s.tlbWriteWay = s.tlbWayField ∨ s.tlbWriteWay < 4 := by
  unfold State.tlbWriteWay
  split
  · exact .inr (BitVec.isLt _)
  · exact .inl rfl

/-! The region table. -/

theorem extract_putByte {w : Nat} (x : BitVec w) {i k : Nat} (hk : 8 * k + 8 ≤ w) (hi : 8 * i + 8 ≤ w) (b : Byte) :
    (putByte x k b).extractLsb' (8 * i) 8 = if i = k then b else x.extractLsb' (8 * i) 8 := by
  apply BitVec.eq_of_getLsbD_eq
  intro j hj
  have hone : ∀ j, (0xFF#8).getLsbD j = decide (j < 8) := fun _ => BitVec.getLsbD_allOnes
  simp only [putByte, BitVec.getLsbD_extractLsb', BitVec.getLsbD_or, BitVec.getLsbD_and, BitVec.getLsbD_not,
    BitVec.getLsbD_shiftLeft, BitVec.getLsbD_setWidth, hone, hj, decide_true, Bool.true_and]
  have hw : 8 * i + j < w := by omega
  obtain hlt | rfl | hgt := Nat.lt_trichotomy i k
  · have hbelow : 8 * i + j < 8 * k := by omega
    simp [hw, hj, hbelow, Nat.ne_of_lt hlt]
  · have hsub : 8 * i + j - 8 * i = j := by omega
    have hjw : j < w := by omega
    simp [hw, hsub, hj, hjw]
  · have habove : ¬ 8 * i + j - 8 * k < 8 := by omega
    simp [hw, hj, habove, BitVec.getLsbD_of_ge b _ (Nat.not_lt.1 habove), Nat.ne_of_gt hgt]

/-- A register of a region; the fourth is not used (20_memory R120). -/
def regionField (e : Region) : Nat → BitVec 128
  | 0 => e.pmt
  | 1 => e.cta
  | 2 => e.at_
  | _ => 0

/-- A region with one register set. -/
def setRegionField (e : Region) (x : BitVec 128) : Nat → Region
  | 0 => { e with pmt := x }
  | 1 => { e with cta := x }
  | 2 => { e with at_ := x }
  | _ => e

theorem regionField_setRegionField (e : Region) (x : BitVec 128) (c q : Nat) :
    regionField (setRegionField e x c) q = if q = c ∧ c < 3 then x else regionField e q := by
  rcases c with _ | _ | _ | c <;> rcases q with _ | _ | _ | q <;> simp [regionField, setRegionField]

theorem regionField_eq (e : Region) (c : Nat) :
    regionField e c = if c = 0 then e.pmt else if c = 1 then e.cta else if c = 2 then e.at_ else 0 := by
  rcases c with _ | _ | _ | c <;> rfl

theorem regionReg_eq (rs : Vector Region 8) (k : Nat) :
    regionReg rs k = (rs[k / 4]?.map fun e => regionField e (k % 4)).getD 0 := by
  unfold regionReg
  cases rs[k / 4]? <;> rfl

theorem setRegionReg_eq (rs : Vector Region 8) (k : Nat) (x : BitVec 128) :
    setRegionReg k x rs = modifyAt rs (k / 4) fun e => setRegionField e x (k % 4) := rfl

/-- A register written reads back, if the table has it and uses it; every other one is as it was (20_memory R120). -/
theorem regionReg_setRegionReg (rs : Vector Region 8) (k q : Nat) (x : BitVec 128) :
    regionReg (setRegionReg k x rs) q = if q = k ∧ k < 32 ∧ k % 4 ≠ 3 then x else regionReg rs q := by
  rw [regionReg_eq, regionReg_eq, setRegionReg_eq, getElem?_modifyAt]
  by_cases hreg : k / 4 = q / 4
  · rw [if_pos hreg, Option.map_map]
    by_cases h32 : k < 32
    · rw [Vector.getElem?_eq_getElem (by omega)]
      simp only [Option.map_some, Option.getD_some, Function.comp_apply, regionField_setRegionField]
      exact if_congr (by omega) rfl rfl
    · rw [Vector.getElem?_eq_none (by omega), if_neg (by omega)]
      rfl
  · rw [if_neg hreg, if_neg (fun h => hreg (by rw [h.1]))]

theorem regionByte_none {rs : Vector Region 8} {j : Nat} (h : rs[j / 64]? = none) : regionByte rs j = 0 := by
  rw [regionByte, regionReg_eq, Nat.div_div_eq_div_mul, h]
  exact BitVec.extractLsb'_zero

theorem regionByte_some {rs : Vector Region 8} {j : Nat} {e : Region} (h : rs[j / 64]? = some e) :
    regionByte rs j = (if j / 16 % 4 = 0 then e.pmt else if j / 16 % 4 = 1 then e.cta
      else if j / 16 % 4 = 2 then e.at_ else 0).extractLsb' (8 * (j % 16)) 8 := by
  rw [regionByte, regionReg_eq, Nat.div_div_eq_div_mul, h, ← regionField_eq]
  rfl

/-- A byte written reads back likewise (log 32). -/
theorem regionByte_setRegionByte (rs : Vector Region 8) (off j : Nat) (b : Byte) :
    regionByte (setRegionByte off b rs) j =
      if j = off ∧ off < 512 ∧ off / 16 % 4 ≠ 3 then b else regionByte rs j := by
  simp only [regionByte, setRegionByte, regionReg_setRegionReg]
  by_cases hreg : j / 16 = off / 16 ∧ off / 16 < 32 ∧ off / 16 % 4 ≠ 3
  · rw [if_pos hreg, extract_putByte _ (by omega) (by omega), ← hreg.1]
    exact if_congr (by omega) rfl rfl
  · rw [if_neg hreg, if_neg (by omega)]

/-- The region table after bytes are written from an offset on. -/
def setRegionBytes (off : Nat) : List Byte → Vector Region 8 → Vector Region 8
  | [], rs => rs
  | b :: bs, rs => setRegionBytes (off + 1) bs (setRegionByte off b rs)

theorem regionByte_setRegionBytes (rs : Vector Region 8) (off j : Nat) (bs : List Byte) :
    regionByte (setRegionBytes off bs rs) j =
      if off ≤ j ∧ j < off + bs.length ∧ j < 512 ∧ j / 16 % 4 ≠ 3 then bs.getD (j - off) 0 else regionByte rs j := by
  induction bs generalizing off rs with
  | nil => rw [if_neg (by rw [List.length_nil]; omega)]; rfl
  | cons b bs ih =>
    rw [setRegionBytes, ih, regionByte_setRegionByte, List.length_cons]
    by_cases hj : j = off
    · subst hj
      rw [if_neg (by omega), Nat.sub_self]
      exact if_congr (by omega) rfl rfl
    · rw [if_neg (show ¬ (j = off ∧ _) from fun h => hj h.1)]
      by_cases hlt : off < j
      · rw [show j - off = j - (off + 1) + 1 by omega, List.getD_cons_succ]
        exact if_congr (by omega) rfl rfl
      · rw [if_neg (by omega), if_neg (by omega)]

/-- Bytes of the region table are stored there, and memory keeps its own. -/
theorem State.physWrite_table (bs : List Byte) (h : s.unitAt pa bs.length .region off) :
    ∃ st, s.physWrite pa bs = { s with regions := setRegionBytes off bs s.regions, stale := st } := by
  induction bs generalizing s pa off with
  | nil => exact ⟨_, rfl⟩
  | cons b bs ih =>
    have hput : s.putPhys pa b = { s with
        regions := setRegionByte off b s.regions, stale := Memory.note pa (s.physByte pa) s.stale } := by
      simp only [State.putPhys, h.first (Nat.succ_pos _)]
    obtain ⟨st, hst⟩ := ih (s := s.putPhys pa b) (pa := pa + 1) (off := off + 1) fun i hi => by
      rw [hput, Nat.add_assoc, Nat.add_assoc]
      exact h (1 + i) (by rw [List.length_cons]; omega)
    exact ⟨st, by rw [State.physWrite, hst, hput]; rfl⟩

theorem State.physByte_region (h : s.device pa = some (.region, off)) : s.physByte pa = regionByte s.regions off := by
  simp only [State.physByte, h]

/-- Each byte of a read of several. -/
theorem State.physRead_byte (s : State) (pa : Nat) {n i : Nat} (hi : i < n) :
    BitVec.ofNat 8 (s.physRead pa n / 256 ^ i) = s.physByte (pa + i) := by
  induction n generalizing pa i with
  | zero => omega
  | succ n ih =>
    have hlt := (s.physByte pa).isLt
    cases i with
    | zero =>
      apply BitVec.eq_of_toNat_eq
      simp only [State.physRead, BitVec.toNat_ofNat, Nat.pow_zero, Nat.div_one, Nat.add_zero]
      omega
    | succ i =>
      have hdiv : s.physRead pa (n + 1) / 256 = s.physRead (pa + 1) n := by
        simp only [State.physRead]
        omega
      rw [Nat.pow_succ', ← Nat.div_div_eq_div_mul, hdiv, ih (pa + 1) (by omega), Nat.add_assoc, Nat.add_comm 1]

theorem toBytes_getD (n v : Nat) {i : Nat} (hi : i < n) : (toBytes n v).getD i 0 = .ofNat 8 (v / 256 ^ i) := by
  have hl : i < (toBytes n v).length := by rw [toBytes_length]; exact hi
  rw [List.getD_eq_getElem _ _ hl, toBytes_get]

theorem busRead_table (h : s.target pa n = .table) : busRead va pa n s = .ok (s.physRead pa n) s := by
  simp only [busRead, h]

theorem busWrite_table (h : s.target pa n = .table) : busWrite va pa n v s = .ok () (s.physWrite pa (toBytes n v)) := by
  simp only [busWrite, h]

/-! Scalar loads and stores that reach the bus in one piece. -/

/-- A load or a store of one register executes, under flat translation, on bytes of one page. -/
structure OnePiece (z : Size) (o : MemD) (x : Ext) (s : State) : Prop where
  enabled : s.enabled x false
  regs : x.tail.regs = none
  scalar : o.vd = false
  flat : s.flat
  page : (eaDisp o x.tail s).toNat % 16384 + z.bytes ≤ 16384

variable {o : MemD} {x : Ext}

theorem readPiece_flat {kd : Kind} {m : BitVec 2} (hs : s.flat) :
    readPiece kd m va n s = busRead va va.toNat n s := by
  simp only [readPiece, State.virt_flat hs, locate_flat hs, Acc.bind]

theorem writePiece_flat {m : BitVec 2} (hs : s.flat) : writePiece m va n v s = busWrite va va.toNat n v s := by
  simp only [writePiece, State.virt_flat hs, locate_flat hs, Acc.bind]

namespace OnePiece

theorem memRead (h : OnePiece z o x s) : Machine.memRead (eaDisp o x.tail s) z.bytes s =
    busRead (eaDisp o x.tail s) (eaDisp o x.tail s).toNat z.bytes s := by
  have hpage := h.page
  rw [Machine.memRead, memReadAs_one (by omega), readPiece_flat h.flat]

theorem memWrite (h : OnePiece z o x s) : Machine.memWrite (eaDisp o x.tail s) z.bytes v s =
    busWrite (eaDisp o x.tail s) (eaDisp o x.tail s).toNat z.bytes v s := by
  have hpage := h.page
  rw [Machine.memWrite, memWriteAs_one (by omega), writePiece_flat h.flat]

theorem loads (h : OnePiece z o x s)
    (hb : busRead (eaDisp o x.tail s) (eaDisp o x.tail s).toNat z.bytes s = .ok r s) (hrt : o.rt ≠ 53) :
    exec (.loadz z o x) s = .next (s.wrote (extLen x) o.rt ((BitVec.ofNat z.bits r).setWidth 128)) ∧
      exec (.load z o x) s = .next (s.wrote (extLen x) o.rt ((BitVec.ofNat z.bits r).signExtend 128)) := by
  obtain ⟨hload, hloadz⟩ := exec_load_ok h.enabled h.scalar h.regs hrt (h.memRead.trans hb)
  rw [hload, hloadz]
  simp only [State.wrote, State.passed, State.pc_setReg, and_self]

theorem load_refused (h : OnePiece z o x s) {e : Refusal}
    (hb : busRead (eaDisp o x.tail s) (eaDisp o x.tail s).toNat z.bytes s = .refuse e) :
    exec (.loadz z o x) s = .refused e ∧ exec (.load z o x) s = .refused e := by
  have hdisp : ∀ {get : Get}, get (eaDisp o x.tail s) s = .refuse e → loadDisp z.bytes z.bits get o x s = .refused e := by
    intro get hget
    rw [loadDisp, runExt_enabled (by rw [h.scalar]; exact h.enabled)]
    simp only [h.scalar, Bool.false_eq_true, if_false, loadScalar, loadMany, hget]
    rfl
  rw [exec_load, exec_loadz, execLoad, execLoadz, hdisp (get := getSigned z) (by rw [getSigned, h.memRead, hb]; rfl),
    hdisp (get := getZero z) (by rw [getZero, h.memRead, hb]; rfl)]
  exact ⟨rfl, rfl⟩

theorem stores (h : OnePiece z o x s)
    (hb : busWrite (eaDisp o x.tail s) (eaDisp o x.tail s).toNat z.bytes ((s.storeReg o.rt).setWidth z.bits).toNat s =
      .ok () t) (hpc : t.pc = s.pc) : exec (.store z o x) s = .next (t.passed (extLen x)) := by
  rw [exec_store_scalar h.enabled h.scalar h.regs, h.memWrite, hb, State.passed, hpc]
  rfl

theorem store_refused (h : OnePiece z o x s) {e : Refusal}
    (hb : busWrite (eaDisp o x.tail s) (eaDisp o x.tail s).toNat z.bytes ((s.storeReg o.rt).setWidth z.bits).toNat s =
      .refuse e) : exec (.store z o x) s = .refused e := by
  rw [exec_store_scalar h.enabled h.scalar h.regs, h.memWrite, hb]
  rfl

end OnePiece

/-- A load of bytes of which nothing claims the `k`-th raises Bus Error (20_memory R106, R113). -/
theorem State.Gap.loads_trap (h : s.Gap (eaDisp o x.tail s) z.bytes k) (hen : s.enabled x false) (hvd : o.vd = false) :
    Traps (.load z o x) s 2 (some (eaDisp o x.tail s + .ofNat 64 k)) ∧
      Traps (.loadz z o x) s 2 (some (eaDisp o x.tail s + .ofNat 64 k)) := by
  obtain ⟨hload, hloadz⟩ := exec_load_trap hen hvd (h.memReadAs (size_bytes_le z) .read s.dataMode)
  constructor <;> intro a hh
  · rw [hload]
    exact finish_trap (len := 0) (s0 := s) hh
  · rw [hloadz]
    exact finish_trap (len := 0) (s0 := s) hh

theorem State.Gap.store_traps (h : s.Gap (eaDisp o x.tail s) z.bytes k) (hp : OnePiece z o x s) :
    Traps (.store z o x) s 2 (some (eaDisp o x.tail s + .ofNat 64 k)) := by
  intro a hh
  have hpage := hp.page
  rw [exec_store_scalar hp.enabled hp.scalar hp.regs, Machine.memWrite, memWriteAs_one (by omega),
    h.writePiece (by omega)]
  exact finish_trap hh

/-! What a load or a store of one register does, by the unit it reaches. -/

/-- A load of one register completes with the low bytes of `r`; r53 is left out. -/
def LoadGives (z : Size) (o : MemD) (x : Ext) (s : State) (r : Nat) : Prop := o.rt ≠ 53 →
  exec (.loadz z o x) s = .next (s.wrote (extLen x) o.rt ((BitVec.ofNat z.bits r).setWidth 128)) ∧
    exec (.load z o x) s = .next (s.wrote (extLen x) o.rt ((BitVec.ofNat z.bits r).signExtend 128))

/-- A store of one register completes, having made `t` of the state. -/
def StoreLeaves (z : Size) (o : MemD) (x : Ext) (s t : State) : Prop :=
  exec (.store z o x) s = .next (t.passed (extLen x))

/-- No access of this size is taken there (20_memory R114). -/
def AccessRefused (z : Size) (o : MemD) (x : Ext) (s : State) : Prop :=
  exec (.loadz z o x) s = .refused .deviceAccess ∧ exec (.load z o x) s = .refused .deviceAccess ∧
    exec (.store z o x) s = .refused .deviceAccess

namespace OnePiece

variable (h : OnePiece z o x s)

include h

section

variable (hu : s.unitAt (eaDisp o x.tail s).toNat z.bytes d off) (hd : d ≠ .region)

include hu hd

theorem unit_loads
    (hr : (s.deviceRead d off z.bytes).map (BitVec.ofNat z.bits) = some (BitVec.ofNat z.bits r)) : LoadGives z o x s r := by
  intro hrt
  obtain ⟨r', hr', he⟩ := Option.map_eq_some_iff.1 hr
  rw [← he]
  exact h.loads (busRead_unit (State.target_unit hu (size_bytes_pos z) hd) hr') hrt

theorem unit_load_refused (hr : s.deviceRead d off z.bytes = none) :
    exec (.loadz z o x) s = .refused .deviceAccess ∧ exec (.load z o x) s = .refused .deviceAccess :=
  h.load_refused (busRead_unit_refused (State.target_unit hu (size_bytes_pos z) hd) hr)

theorem unit_stores (hw : s.deviceWrite d off z.bytes ((s.storeReg o.rt).setWidth z.bits).toNat = .ok t)
    (hpc : t.pc = s.pc) : StoreLeaves z o x s t :=
  h.stores (busWrite_unit (State.target_unit hu (size_bytes_pos z) hd) hw) hpc

theorem unit_store_refused {e : Refusal}
    (hw : s.deviceWrite d off z.bytes ((s.storeReg o.rt).setWidth z.bits).toNat = .error e) :
    exec (.store z o x) s = .refused e :=
  h.store_refused (busWrite_unit_refused (State.target_unit hu (size_bytes_pos z) hd) hw)

theorem unit_refused (hr : s.deviceRead d off z.bytes = none)
    (hw : s.deviceWrite d off z.bytes ((s.storeReg o.rt).setWidth z.bits).toNat = .error .deviceAccess) :
    AccessRefused z o x s := by
  obtain ⟨hloadz, hload⟩ := h.unit_load_refused hu hd hr
  exact ⟨hloadz, hload, h.unit_store_refused hu hd hw⟩

end

/-- A register of the PIC (60_exceptions R802). -/
theorem pic_access (hu : s.unitAt (eaDisp o x.tail s).toNat z.bytes .pic off) :
    (z = .t ∧ off % 4 = 0 → LoadGives z o x s (s.picRead off).toNat ∧ StoreLeaves z o x s
      ({ s with pic := s.pic.write off ((s.storeReg o.rt).setWidth 32) } : State).samplePic) ∧
    (¬ (z = .t ∧ off % 4 = 0) → AccessRefused z o x s) := by
  obtain ⟨-, hfour, -⟩ := size_bytes_cases z
  rw [← hfour]
  have hd : Device.pic ≠ .region := by decide
  refine ⟨fun ht => ⟨h.unit_loads hu hd ?_, h.unit_stores hu hd ?_ rfl⟩, fun ht => ?_⟩
  · rw [deviceRead_pic ht]
    rfl
  · obtain rfl := hfour.1 ht.1
    rw [deviceWrite_pic ht, BitVec.ofNat_toNat]
    rfl
  · obtain ⟨hr, hw⟩ := pic_refuses (s := s) (v := ((s.storeReg o.rt).setWidth z.bits).toNat) ht
    exact h.unit_refused hu hd hr hw

/-- A register of a PIT, `after` being the state with the timers as they are after a write (60_exceptions R814). -/
theorem pit_access {p : Pit} {after : Pit → State} (hu : s.unitAt (eaDisp o x.tail s).toNat z.bytes d off)
    (hd : d ≠ .region) (hr : s.deviceRead d off z.bytes = pitBytes off z.bytes (p.read s.params off))
    (hw : ∀ v, s.deviceWrite d off z.bytes v =
      if (z.bytes = 8 ∧ off % 8 = 0) ∨ (z.bytes = 1 ∧ off < 0x800 ∧ off % 32 = 0x18) then
        .ok (after (p.write s.params off (.ofNat 64 v))) else .error .deviceAccess)
    (hpc : ∀ q, (after q).pc = s.pc) :
    ((z = .o ∧ off % 8 = 0) ∨ (z = .b ∧ off < 0x800 ∧ off % 32 = 0x18) → LoadGives z o x s (p.read s.params off).toNat ∧
      StoreLeaves z o x s (after (p.write s.params off (((s.storeReg o.rt).setWidth z.bits).setWidth 64)))) ∧
    (¬ (z = .o ∧ off % 8 = 0) → ¬ (z = .b ∧ off < 0x800 ∧ off % 32 = 0x18) → AccessRefused z o x s) := by
  obtain ⟨hone, -, height⟩ := size_bytes_cases z
  rw [← hone, ← height]
  refine ⟨fun ht => ⟨h.unit_loads hu hd ?_, h.unit_stores hu hd ?_ (hpc _)⟩, fun ho hc => h.unit_refused hu hd ?_ ?_⟩
  · obtain ho | hc := ht
    · rw [hr, pitBytes_octa ho]
      rfl
    · obtain rfl := hone.1 hc.1
      rw [hr, pitBytes_byte hc, Option.map_some]
      exact congrArg some (BitVec.eq_of_toNat_eq (Nat.mod_mod _ _))
  · rw [hw, if_pos ht, BitVec.ofNat_toNat]
  · rw [hr, pitBytes_none ho hc]
  · rw [hw, if_neg (not_or.2 ⟨ho, hc⟩)]

section

variable (hu : s.unitAt (eaDisp o x.tail s).toNat z.bytes .tlb off)

include hu

/-- An octa of the TLB's window (20_memory R149). -/
theorem tlb_octa (hz : z = .o ∧ off % 8 = 0) : LoadGives z o x s (s.tlb.readReg off).toNat ∧
    (off ≠ 0x78 → StoreLeaves z o x s
      { s with tlb := s.tlb.writeReg s.params off ((s.storeReg o.rt).setWidth 64) }) := by
  obtain ⟨rfl, hoff⟩ := hz
  refine ⟨h.unit_loads hu (by decide) ?_, fun ht => h.unit_stores hu (by decide) ?_ rfl⟩
  · rw [deviceRead_tlb (n := Size.o.bytes) ⟨rfl, hoff⟩]
    rfl
  · rw [deviceWrite_tlb (n := Size.o.bytes) ⟨rfl, hoff⟩ ht, BitVec.ofNat_toNat]
    rfl

/-- A trigger of the TLB, where the way it selects exists (20_memory R149). -/
theorem tlb_trigger (hz : z = .b) (hoff : 0x7D ≤ off ∧ off ≤ 0x7F)
    (ht : s.tlbTrigger (off == 0x7D || off == 0x7F) (off == 0x7E || off == 0x7F) = some t) (hpc : t.pc = s.pc) :
    StoreLeaves z o x s t := by
  subst hz
  refine h.unit_stores hu (by decide) ?_ hpc
  exact (deviceWrite_trigger hoff).trans (by rw [ht]; rfl)

theorem tlb_trigger_absent (hz : z = .b) (hoff : 0x7D ≤ off ∧ off ≤ 0x7F)
    (ht : s.tlbTrigger (off == 0x7D || off == 0x7F) (off == 0x7E || off == 0x7F) = none) :
    exec (.store z o x) s = .refused .tlbWay := by
  subst hz
  refine h.unit_store_refused hu (by decide) ?_
  exact (deviceWrite_trigger hoff).trans (by rw [ht]; rfl)

/-- The triggers that write, with the way that a write takes. -/
theorem tlb_writes (hz : z = .b) (hk : s.tlbWriteWay = k) (h6 : k < 6) :
    (off = 0x7E → StoreLeaves z o x s { s with tlb := s.tlbWritten k, draws := s.draws + 1 }) ∧
    (off = 0x7F → StoreLeaves z o x s { s with
      tlb := { s.tlbWritten k with
        holdPte := (s.tlb.get (s.tlbSelected k)).pte, holdVpn := (s.tlb.get (s.tlbSelected k)).vpn }
      draws := s.draws + 1 }) := by
  subst hk
  constructor <;> rintro rfl
  · exact h.tlb_trigger hu hz (by decide) (tlbTrigger_write h6) rfl
  · exact h.tlb_trigger hu hz (by decide) (tlbTrigger_exchange h6) rfl

theorem tlb_writes_absent (hz : z = .b) (h6 : 6 ≤ s.tlbWriteWay) (hlo : 0x7E ≤ off) (hhi : off ≤ 0x7F) :
    exec (.store z o x) s = .refused .tlbWay := by
  refine h.tlb_trigger_absent hu hz ⟨by omega, hhi⟩ ?_
  have hwrite : (off == 0x7E || off == 0x7F) = true := by
    simp only [Bool.or_eq_true, beq_iff_eq]
    omega
  rw [hwrite, tlbTrigger_write_absent h6]

theorem tlb_reads (hz : z = .b) (hoff : off = 0x7D) :
    (s.tlbWayField < 6 → StoreLeaves z o x s { s with
      tlb := { s.tlb with
        holdPte := (s.tlb.get (s.tlbSelected s.tlbWayField)).pte
        holdVpn := (s.tlb.get (s.tlbSelected s.tlbWayField)).vpn } }) ∧
    (6 ≤ s.tlbWayField → exec (.store z o x) s = .refused .tlbWay) := by
  subst hoff
  exact ⟨fun h6 => h.tlb_trigger hu hz (by decide) (tlbTrigger_read h6) rfl,
    fun h6 => h.tlb_trigger_absent hu hz (by decide) (tlbTrigger_read_absent h6)⟩

end

/-- Accesses to the region table, of any size (20_memory R120; log 32). -/
theorem region_access (hu : s.unitAt (eaDisp o x.tail s).toNat z.bytes .region off) :
    (∃ r, (∀ i, i < z.bytes → BitVec.ofNat 8 (r / 256 ^ i) = regionByte s.regions (off + i)) ∧ LoadGives z o x s r) ∧
    ∃ t : State, StoreLeaves z o x s t ∧ t = { s with regions := t.regions, stale := t.stale } ∧
      ∀ j, regionByte t.regions j = if off ≤ j ∧ j < off + z.bytes ∧ j < 512 ∧ j / 16 % 4 ≠ 3
        then .ofNat 8 ((s.storeReg o.rt).toNat / 256 ^ (j - off)) else regionByte s.regions j := by
  have htarget := State.target_table hu (size_bytes_pos z)
  refine ⟨⟨_, fun i hi => ?_, h.loads (busRead_table htarget)⟩, ?_⟩
  · rw [State.physRead_byte s _ hi, State.physByte_region (hu i hi)]
  · have hlen := toBytes_length z.bytes ((s.storeReg o.rt).setWidth z.bits).toNat
    obtain ⟨st, hst⟩ := State.physWrite_table (toBytes z.bytes ((s.storeReg o.rt).setWidth z.bits).toNat)
      (by rw [hlen]; exact hu)
    refine ⟨_, h.stores (busWrite_table htarget) (by rw [hst]), by rw [hst], fun j => ?_⟩
    simp only [hst, regionByte_setRegionBytes, hlen]
    refine ite_congr rfl (fun hj => ?_) fun _ => rfl
    rw [toBytes_getD _ _ (by omega), BitVec.toNat_setWidth, ← size_pow_bytes, ofNat_byte_mod _ (by omega)]

end OnePiece

/-- Settles O36: a byte nothing claims raises Bus Error, and each unit answers by its access lemma; the TLB's window goes by
its registers and triggers. -/
theorem unitRegistersAndUnclaimedAddresses : Obligations.UnitRegistersAndUnclaimedAddresses := by
  intro z o x s hen hregs hvd hflat ea n v stored loaded refused
  refine ⟨fun k hk hdev hbelow hgap => ?_, fun off hpage => ?_⟩
  · have h : s.Gap ea n k := ⟨hflat, hk, hdev, hbelow, hgap⟩
    obtain ⟨hload, hloadz⟩ := h.loads_trap hen hvd
    exact ⟨hload, hloadz, fun hpage => h.store_traps ⟨hen, hregs, hvd, hflat, hpage⟩⟩
  · intro unit wide ctrl
    have h : OnePiece z o x s := ⟨hen, hregs, hvd, hflat, hpage⟩
    refine ⟨h.pic_access, fun hu => ?_, fun hu => ?_, fun hu => ?_, fun hu => ?_⟩
    · exact h.pit_access (after := fun q => ({ s with pit1 := q } : State).samplePic) hu (by decide) deviceRead_pit1
        (fun _ => rfl) fun _ => rfl
    · exact h.pit_access (after := fun q => ({ s with pit2 := q } : State).samplePic) hu (by decide) deviceRead_pit2
        (fun _ => rfl) fun _ => rfl
    · intro t w put fields way slot al al2 absent writes fixed automatic
      obtain ⟨hone, -, height⟩ := size_bytes_cases z
      have hocta : ∀ {k r : Nat} {t' : Tlb}, k ≠ 0x78 → (t.readReg k).toNat = r → t.writeReg s.params k w = t' →
          wide → off = k → loaded r ∧ put t' := by
        rintro k r t' ht rfl rfl hz rfl
        obtain ⟨hload, hstore⟩ := h.tlb_octa hu hz
        exact ⟨hload, hstore ht⟩
      have hidle : ∀ {k r : Nat}, 0x18 < k → k ≠ 0x70 → k ≠ 0x78 → (t.readReg k).toNat = r →
          wide → off = k → loaded r ∧ put t :=
        fun hlo hc ht hr => hocta ht hr (Tlb.writeReg_ignored _ t hlo hc w)
      have hfixed : z = .b → s.tlbWriteWay = s.tlbWayField → fixed := fun hz hk =>
        ⟨h.tlb_writes hu hz hk, fun h6 => h.tlb_writes_absent hu hz (hk ▸ h6)⟩
      have hauto : z = .b → s.tlbWriteWay < 4 → automatic := fun hz h4 => ⟨_, h4, h.tlb_writes hu hz rfl (by omega)⟩
      refine ⟨hocta (by decide) rfl rfl, hocta (by decide) t.readReg_pteHigh rfl, hocta (by decide) rfl rfl,
        hocta (by decide) t.readReg_vpnHigh rfl, hidle (by decide) (by decide) (by decide) rfl,
        hidle (by decide) (by decide) (by decide) t.readReg_missAsid, hocta (by decide) rfl rfl, ?_,
        fun hz hoff => h.tlb_reads hu hz hoff, ?_, ?_, ?_, ?_, ?_⟩
      · rintro rfl hlo hhi
        exact h.unit_stores hu (by decide) (deviceWrite_unusedTrigger ⟨hlo, hhi⟩) rfl
      · exact fun hz => ⟨fun ha hb => hfixed hz (State.tlbWriteWay_fixed (not_not.1 ha) (not_not.1 hb)),
          fun ha hb => hauto hz (State.tlbWriteWay_auto ha hb),
          fun _ => s.tlbWriteWay_either.imp (hfixed hz) (hauto hz)⟩
      · rintro rfl hlo hhi
        exact h.unit_load_refused hu (by decide) (deviceRead_tlb_none fun hz => absurd hz.1 (by decide))
      · rintro hz rfl
        obtain ⟨hload, -⟩ := h.tlb_octa hu hz
        exact ⟨hload, h.unit_store_refused hu (by decide)
          (deviceWrite_tlb_refused (fun hw => hw.2.2 rfl) fun hw => absurd (hz.1.symm.trans (hone.1 hw.1)) (by decide))⟩
      · exact fun hz hlo hc ht => hidle (by omega) hc ht (by rw [Tlb.readReg_unused t hlo hc]; rfl) hz rfl
      · intro hz ht
        have hsize : ¬ (n = 8 ∧ off % 8 = 0) := fun hn => hz ⟨height.1 hn.1, hn.2⟩
        refine h.unit_refused hu (by decide) (deviceRead_tlb_none hsize)
          (deviceWrite_tlb_refused (fun hn => hsize ⟨hn.1, hn.2.1⟩) fun hn => ?_)
        have hout := ht (hone.1 hn.1)
        omega
    · intro byte
      have hbyte : byte = regionByte := by
        funext rs j
        cases hrs : rs[j / 64]? with
        | none => simp only [byte, hrs, regionByte_none hrs]; rfl
        | some e => simp only [byte, hrs, regionByte_some hrs]
      rw [hbyte]
      exact h.region_access hu

end Sys2Proof.Machine

/-! Sums and products outside a CARRY window, high halves and ABS (40_integer R305 to R308, R340 to R345; 41_vector R384 to
R386). -/

namespace Sys2Proof.Machine

variable {s : State} {x : Ext} {c : Instr} {w : Nat}

/-- An instruction runs its body on the state it begins with. -/
theorem runExt_congr {vec : Bool} {f g : State → Acc Flow} (h : f s = g s) : runExt x vec f s = runExt x vec g s := by
  rw [runExt, runExt, h]

/-- A carry plays no part: the form is a vector one, or no CARRY window is open (41_vector R384; 49_modifiers R714). -/
def State.carryless (s : State) (vec : Bool) : Prop := vec = true ∨ s.win.carry = none

theorem State.carryless_r2 {o : R2} (h : s.win.carry = none ∨ o.vec ≠ .scalar) : s.carryless (vbitsVec o.vec) :=
  h.elim .inr fun hv => .inl (by simpa [vbitsVec] using hv)

/-- Results of the elements before leave the windows as they were. -/
theorem State.carryless.withVec {vec : Bool} {rt : Reg} {v : BitVec 512} {d : Nat} (h : s.carryless vec) :
    (s.withVec rt v d).carryless vec := h

theorem State.carryCode_none (h : s.win.carry = none) : s.carryCode = (false, false) := by simp [State.carryCode, h]

theorem addOp_carryless {vec : Bool} (h : s.carryless vec) (st : Bool) (a b : BitVec w) :
    addOp vec st w a b s = .ok (signedResult st (a + b)) s := by
  cases vec with
  | true => rfl
  | false =>
    have hcode := State.carryCode_none (h.resolve_left Bool.false_ne_true)
    have hsum : BitVec.ofNat w (a.toNat + b.toNat) = a + b := rfl
    simp [addOp, addCarry, hcode, State.setCarry, hsum, result, Fill.word, decorate, signedResult]

theorem Signs.ofInt_product (g : Signs) (a b : BitVec w) : BitVec.ofInt w (g.fst a * g.snd b) = a * b := by
  rw [BitVec.ofInt_mul]
  cases g <;> simp [Signs.fst, Signs.snd]

/-- The low half of a number reduced to both halves. -/
theorem ofNat_emod_two_mul (p : Int) : BitVec.ofNat w (p % 2 ^ (2 * w)).toNat = BitVec.ofInt w p := by
  have hdvd : (2 ^ w : Int) ∣ 2 ^ (2 * w) := pow_dvd_pow 2 (by omega)
  refine BitVec.eq_of_toNat_eq ?_
  rw [← BitVec.ofInt_natCast, Int.toNat_of_nonneg (Int.emod_nonneg _ (by positivity))]
  simp [BitVec.toNat_ofInt, Int.emod_emod_of_dvd _ hdvd]

theorem mulOp_carryless {vec : Bool} (h : s.carryless vec) (g : Signs) (st : Bool) (a b : BitVec w) :
    mulOp vec g st w a b s = .ok (signedResult st (a * b)) s := by
  cases vec with
  | true =>
    simp only [mulOp, if_true, Signs.ofInt_product]
    rfl
  | false =>
    have hcode := State.carryCode_none (h.resolve_left Bool.false_ne_true)
    simp only [mulOp, mulCarry, hcode, State.setCarry, Bool.false_eq_true, if_false, Int.add_zero, ofNat_emod_two_mul,
      Signs.ofInt_product]
    rfl

theorem emod_mul_self_ediv_emod (p : Int) {m : Int} (hm : m ≠ 0) : p % (m * m) / m % m = p / m % m := by
  have hp : p = p % (m * m) + m * (m * (p / (m * m))) := by rw [← mul_assoc, Int.emod_add_mul_ediv]
  conv_rhs => rw [hp, Int.add_mul_ediv_left _ _ hm, Int.add_mul_emod_self_left]

/-- The high half of a number's two halves. -/
theorem extractLsb'_ofInt (p : Int) : (BitVec.ofInt (2 * w) p).extractLsb' w w = BitVec.ofInt w (p / 2 ^ w) := by
  refine BitVec.eq_of_toNat_eq (Int.ofNat_inj.1 ?_)
  have hpow : (2 : Int) ^ (2 * w) = 2 ^ w * 2 ^ w := by rw [two_mul, pow_add]
  have h0 : (2 : Int) ^ w ≠ 0 := by positivity
  rw [BitVec.extractLsb'_toNat, Nat.shiftRight_eq_div_pow, BitVec.toNat_ofInt, BitVec.toNat_ofInt]
  push_cast
  rw [Int.toNat_of_nonneg (Int.emod_nonneg _ (by positivity)), Int.toNat_of_nonneg (Int.emod_nonneg _ h0), hpow,
    emod_mul_self_ediv_emod _ h0]

theorem mulh_high (a b : BitVec w) :
    (a.signExtend (2 * w) * b.signExtend (2 * w)).extractLsb' w w = BitVec.ofInt w (a.toInt * b.toInt / 2 ^ w) := by
  rw [← extractLsb'_ofInt, BitVec.ofInt_mul, BitVec.signExtend, BitVec.signExtend]

theorem muluh_high (a b : BitVec w) :
    (a.setWidth (2 * w) * b.setWidth (2 * w)).extractLsb' w w = BitVec.ofNat w (a.toNat * b.toNat / 2 ^ w) := by
  have hcast : ((a.toNat * b.toNat / 2 ^ w : Nat) : Int) = (a.toNat : Int) * b.toNat / 2 ^ w := by push_cast; rfl
  rw [← BitVec.ofInt_natCast, hcast, ← extractLsb'_ofInt, BitVec.ofInt_mul, BitVec.ofInt_natCast, BitVec.ofInt_natCast,
    BitVec.ofNat_toNat, BitVec.ofNat_toNat]

/-- The magnitude of a negative number is its negation (40_integer R305). -/
theorem abs_eq (a : BitVec w) : (if a.msb then -a else a) = if a.toInt < 0 then -a else a := by
  simp only [BitVec.msb_eq_toInt, decide_eq_true_eq]

/-- The operand of SUB: a constant as it is, all ones for r0, else the register negated (40_integer R308; 10_state R21). -/
theorem sub_operand (o : R2) (t : Tail) (s : State) (k : Nat) (a : BitVec o.size.bits) :
    a + { o with sb := true }.b .neg t s k =
      if t.const.isSome then a + { o with sb := false }.b .neg t s k
      else if o.vec ≠ .vv ∧ o.rb = 0 then a + BitVec.allOnes o.size.bits else a - { o with sb := false }.b .neg t s k := by
  unfold R2.b srcB
  cases ht : t.const with
  | some v => rfl
  | none =>
    by_cases hv : o.vec = .vv
    · simp [hv, srcOf, Src.value, decorate, BitVec.sub_eq_add_neg]
    · by_cases h0 : o.rb = 0#6 <;> simp [hv, h0, srcOf, Src.value, decorate, BitVec.sub_eq_add_neg]

/-- The register format, where the S bits negate. -/
theorem computes_r2_neg {f : (w : Nat) → BitVec w → BitVec w → BitVec w} {o : R2}
    (hc : exec c s = r2 .neg .neg .sign f o x s) :
    Computes c s x (o.vec != .scalar) o.size.bits o.rt fun k =>
      signedResult o.st (f o.size.bits (o.a .neg s k) (o.b .neg x.tail s k)) :=
  computes_r2 hc fun _ => rfl

/-- The format of one operand, where the S bits negate. -/
theorem computes_r1_neg {f : (w : Nat) → BitVec w → BitVec w} {o : R1} (hc : exec c s = r1 .neg .neg .sign f o x s) :
    Computes c s x (o.vec != .scalar) o.size.bits o.rt fun k =>
      signedResult o.st (f o.size.bits ((srcOf (o.vec != .scalar) o.ra).value .neg o.sa s o.size.bits k)) :=
  computes_r1 hc fun _ => rfl

/-- Settles O4: sums and products by what ADD and the products do without a carry, SUB by its operand, high halves and ABS by
what they compute. -/
theorem sumsAndProducts : Obligations.SumsAndProducts := by
  intro o i u x s w r2 ri a b p n
  have hadd {c : Instr} (hs : s.carryless (vbitsVec o.vec))
      (hc : exec c s = r2M .neg (addOp (vbitsVec o.vec) o.st) { o with sb := false } x s) : r2 c fun k => a k + p k :=
    computes_r2M (o := { o with sb := false }) hc fun _ _ _ => addOp_carryless hs.withVec _ _ _
  have hmul {c : Instr} {g : Signs} (hs : s.carryless (vbitsVec o.vec))
      (hc : exec c s = r2M .neg (mulOp (vbitsVec o.vec) g o.st) o x s) : r2 c fun k => a k * b k :=
    computes_r2M hc fun _ _ _ => mulOp_carryless hs.withVec _ _ _ _
  have haddi {c : Instr} (hs : s.carryless i.vec) (hc : exec c s = riM .neg (addOp i.vec i.st) i x s) :
      ri c fun k => n k + i.b x.tail := computes_riM hc fun _ _ _ => addOp_carryless hs.withVec _ _ _
  have hmuli {c : Instr} {g : Signs} (hs : s.carryless i.vec) (hc : exec c s = riM .neg (mulOp i.vec g i.st) i x s) :
      ri c fun k => n k * i.b x.tail := computes_riM hc fun _ _ _ => mulOp_carryless hs.withVec _ _ _ _
  refine ⟨fun h => ?_, ?_, ?_, fun h => ?_, ?_⟩
  · have hs := State.carryless_r2 h
    refine ⟨hadd hs (exec_add o x s), ?_, hadd hs (exec_vaddVV o x s), hadd hs (exec_vaddVS o x s),
      hmul hs (exec_mul o x s), hmul hs (exec_mulu o x s), hmul hs (exec_mulsu o x s)⟩
    have hsub := computes_r2_neg ((exec_sub o x s).trans (execSub_eq_r2 h))
    simp only [sub_operand] at hsub
    exact hsub
  · have hmulh := computes_r2_neg (exec_mulh o x s)
    simp only [← mulh_high] at hmulh
    exact hmulh
  · have hmuluh := computes_r2_neg (exec_muluh o x s)
    simp only [← muluh_high] at hmuluh
    exact hmuluh
  · have hs : s.carryless i.vec := h.symm
    exact ⟨haddi hs (exec_addi i x s), haddi hs (exec_vaddImm i x s), hmuli hs (exec_muli i x s),
      hmuli hs (exec_mului i x s)⟩
  · have habs := computes_r1_neg (exec_abs u x s)
    simp only [abs_eq] at habs
    exact habs

end Sys2Proof.Machine

/-! Division and remainder outside a CARRY window, zero divisors among them (40_integer R333 to R339). -/

namespace Sys2Proof.Machine

variable {s : State} {x : Ext} {c : Instr} {rt : Reg} {w : Nat}

/-- What a division by `b` whose result is `q` does: it gives the result; of a zero divisor it raises vector 64, or gives a
free value (40_integer R337; log 7). -/
structure Divided (st : Bool) (b q : BitVec w) (s : State) (r : Acc Word) : Prop where
  result : b ≠ 0 → r = .ok (signedResult st q) s
  traps : b = 0 → s.params.div0Traps = true → r = .trap ⟨64, none⟩ s
  free : b = 0 → s.params.div0Traps = false → ∃ v : BitVec w, r = .ok (signedResult st v) { s with draws := s.draws + 1 }

/-- A zero divisor that does not trap gives free values. -/
theorem divide_free (g : Signs) (a : BitVec w) (h : s.params.div0Traps = false) :
    divide g w a 0 s = .ok (Config.divZeroQuotient s.draws w, Config.divZeroRemainder s.draws w)
      { s with draws := s.draws + 1 } := by
  simp [divide, h, draw]

theorem modOp_divided (g : Signs) (st : Bool) (a b : BitVec w) :
    Divided st b (g.remainder a b) s (modOp g st w a b s) where
  result := (modOp_vector g st a b s).1
  traps := (modOp_vector g st a b s).2
  free hb h := by
    subst hb
    refine ⟨Config.divZeroRemainder s.draws w, ?_⟩
    rw [modOp, divide_free g a h]
    rfl

/-- No carry goes out of a quotient where a carry plays no part. -/
theorem divCarry_carryless {vec : Bool} (h : s.carryless vec) (g : Signs) (st : Bool) (a b : BitVec w) :
    divCarry (!vec) g st w a b s = divCarry false g st w a b s := by
  cases vec with
  | true => rfl
  | false =>
    have hwin := h.resolve_left Bool.false_ne_true
    by_cases hb : b = 0
    · subst hb
      cases hd : s.params.div0Traps with
      | true => simp only [divCarry, divide, hd, if_true, Acc.bind]
      | false =>
        have hcode : State.carryCode { s with draws := s.draws + 1 } = (false, false) := State.carryCode_none hwin
        simp only [divCarry, divide_free g a hd, Acc.bind, hcode, Bool.and_false]
    · simp only [divCarry, divide, if_neg hb, Acc.bind, State.carryCode_none hwin, Bool.and_false]

theorem divCarry_divided {vec : Bool} (h : s.carryless vec) (g : Signs) (st : Bool) (a b : BitVec w) :
    Divided st b (g.quotient a b) s (divCarry (!vec) g st w a b s) := by
  rw [divCarry_carryless h]
  refine ⟨(divCarry_vector g st a b s).1, (divCarry_vector g st a b s).2, fun hb hd => ?_⟩
  subst hb
  refine ⟨Config.divZeroQuotient s.draws w, ?_⟩
  rw [divCarry, divide_free g a hd]
  rfl

theorem State.wrote_leaving (s : State) (len : Nat) (rt : Reg) (v : Word) (d : Nat) :
    (s.wrote len rt v).leaving s.win d = { s.wrote len rt v with draws := d } := by
  simp [State.leaving, State.wrote, State.passed]

theorem State.wrote_leaving_self (s : State) (len : Nat) (rt : Reg) (v : Word) :
    (s.wrote len rt v).leaving s.win s.draws = s.wrote len rt v := by
  simp [State.leaving, State.wrote, State.passed]

/-- An instruction that divides at each element, and does nothing else. -/
theorem divides_alu {vec : Bool} {g : Nat → State → Acc Word} {st : Bool} {d q : Nat → BitVec w} (hw : w ≤ 128)
    (hc : exec c s = runExt x vec (fun s => alu w vec rt x.mask g s) s)
    (hg : ∀ k v n, Divided st (d k) (q k) (s.withVec rt v n) (g k (s.withVec rt v n))) :
    Divides c s x vec w rt d fun k => if st then -q k else q k := by
  intro he
  have hself : ∀ k, Divided st (d k) (q k) s (g k s) := fun k => by
    have h := hg k (s.vec rt) s.draws
    rwa [State.withVec_self] at h
  cases vec with
  | false =>
    refine ⟨fun hd => ?_, fun hd h0 => exec_scalar_trap he hc ((hself 0).traps hd h0), fun hd h0 => ?_⟩
    · exact (exec_scalar_ok he hc ((hself 0).result hd)).trans (congrArg _ (s.wrote_leaving_self _ _ _))
    · obtain ⟨v, hv⟩ := (hself 0).free hd h0
      exact ⟨if st then -v else v, (exec_scalar_ok he hc hv).trans (congrArg _ (s.wrote_leaving _ _ _ _))⟩
  | true =>
    intro hz
    have helem : ∀ k n v, k < s.elems w → (s.vecMask x.mask).getLsbD k = true → ∃ r n',
        g k (s.withVec rt v n) = .ok r (s.withVec rt v n') ∧ (d k ≠ 0 → r.setWidth w = if st then -q k else q k) ∧ True := by
      intro k n v hk hm
      by_cases hd : d k = 0
      · have h0 : s.params.div0Traps = false := hz.resolve_right fun hn => hn k hk hm hd
        obtain ⟨r, hr⟩ := (hg k v n).free hd h0
        exact ⟨_, n + 1, hr, fun hn => absurd hd hn, trivial⟩
      · exact ⟨_, n, (hg k v n).result hd, fun _ => setWidth_signExtend hw _, trivial⟩
    obtain ⟨t, ht, hl, -⟩ := alu_vec (len := extLen x) (P := fun k r => d k ≠ 0 → r = if st then -q k else q k)
      (D := fun _ _ => True) (fun _ => trivial) (fun _ _ _ _ _ => trivial) helem
    exact ⟨t, by rw [hc, runExt_enabled he]; exact ht, hl⟩

/-- The register format. -/
theorem divides_r2M {g : (w : Nat) → BitVec w → BitVec w → State → Acc Word} {o : R2}
    {f : (w : Nat) → BitVec w → BitVec w → BitVec w} (hc : exec c s = r2M .neg g o x s)
    (hg : ∀ (a b : BitVec o.size.bits) v n,
      Divided o.st b (f _ a b) (s.withVec o.rt v n) (g _ a b (s.withVec o.rt v n))) :
    Divides c s x (o.vec != .scalar) o.size.bits o.rt (fun k => o.b .neg x.tail s k) fun k =>
      if o.st then -f _ (o.a .neg s k) (o.b .neg x.tail s k) else f _ (o.a .neg s k) (o.b .neg x.tail s k) :=
  divides_alu (size_bits_le o.size) (hc.trans (runExt_congr rfl)) fun _ v n => hg _ _ v n

/-- Settles O5: quotients and remainders by what a division does at each element. -/
theorem quotientsAndRemainders : Obligations.QuotientsAndRemainders := by
  intro o i x s w r2 a b n m
  refine ⟨fun h => ?_, ?_, ?_, fun h => ?_⟩
  · have hs := State.carryless_r2 h
    have hquot {c : Instr} (g : Signs) (hc : exec c s = r2M .neg (divCarry (!vbitsVec o.vec) g o.st) o x s) :
        r2 c fun k => g.quotient (a k) (b k) :=
      divides_r2M (f := fun _ => g.quotient) hc fun a b _ _ => divCarry_divided hs.withVec g o.st a b
    simp only [← Signs.quotient_ss, ← Signs.quotient_uu]
    exact ⟨hquot .ss (exec_div o x s), hquot .uu (exec_divu o x s), hquot .su (exec_divsu o x s)⟩
  · simp only [← Signs.remainder_ss]
    exact divides_r2M (f := fun _ => Signs.ss.remainder) (exec_mod o x s) fun a b _ _ => modOp_divided .ss o.st a b
  · simp only [← Signs.remainder_uu]
    exact divides_r2M (f := fun _ => Signs.uu.remainder) (exec_modu o x s) fun a b _ _ => modOp_divided .uu o.st a b
  · have hs : s.carryless i.vec := h.symm
    simp only [← Signs.quotient_ss]
    cases hsw : i.sw with
    | false =>
      refine divides_alu (size_bits_le i.size) ((exec_divi i x s).trans ?_) fun k v d =>
        divCarry_divided hs.withVec .ss i.st (n k) m
      simp only [execDivi, riM, hsw]
      exact runExt_congr rfl
    | true =>
      refine divides_alu (size_bits_le i.size) ((exec_divi i x s).trans ?_) fun k v d =>
        divCarry_divided hs.withVec .ss i.st m (n k)
      simp only [execDivi, riM, hsw]
      exact runExt_congr rfl

end Sys2Proof.Machine

/-! Bitwise logic (40_integer R309 to R322; 41_vector R387). -/

namespace Sys2Proof.Machine

variable {s : State} {x : Ext} {c : Instr}

/-- A result under an St bit that complements (30_encoding R217). -/
theorem result_compl {w : Nat} (st : Bool) (v : BitVec w) :
    result .compl st .sign v = (if st then ~~~v else v).signExtend 128 := rfl

/-- The register format, where the S bits complement. -/
theorem computes_r2_compl {f : (w : Nat) → BitVec w → BitVec w → BitVec w} {o : R2}
    (hc : exec c s = r2 .compl .compl .sign f o x s) :
    Computes c s x (o.vec != .scalar) o.size.bits o.rt fun k =>
      (if o.st then ~~~f o.size.bits (o.a .compl s k) (o.b .compl x.tail s k)
        else f o.size.bits (o.a .compl s k) (o.b .compl x.tail s k)).signExtend 128 :=
  computes_r2 hc fun _ => result_compl o.st _

/-- The immediate format, where the S bits complement. -/
theorem computes_ri_compl {f : (w : Nat) → BitVec w → BitVec w → BitVec w} {o : RI}
    (hc : exec c s = ri .compl .compl .sign f o x s) :
    Computes c s x o.vec o.size.bits o.rt fun k =>
      (if o.st then ~~~f o.size.bits (o.a .compl s k) (o.b x.tail)
        else f o.size.bits (o.a .compl s k) (o.b x.tail)).signExtend 128 :=
  computes_ri hc fun _ => result_compl o.st _

/-- Settles O6: each instruction is one of AND, OR and EOR with its St bit held at 0, or at 1 for the complement. -/
theorem bitwiseLogic : Obligations.BitwiseLogic := by
  intro o i x s r2 ri a b n m
  have hr {c : Instr} (f : (w : Nat) → BitVec w → BitVec w → BitVec w)
      (hc : exec c s = Machine.r2 .compl .compl .sign f { o with st := false } x s) : r2 c fun k => f _ (a k) (b k) :=
    computes_r2_compl (f := f) hc
  have hrNot {c : Instr} (f : (w : Nat) → BitVec w → BitVec w → BitVec w)
      (hc : exec c s = Machine.r2 .compl .compl .sign f { o with st := true } x s) : r2 c fun k => ~~~f _ (a k) (b k) :=
    computes_r2_compl (f := f) hc
  have hi {c : Instr} (f : (w : Nat) → BitVec w → BitVec w → BitVec w)
      (hc : exec c s = Machine.ri .compl .compl .sign f { i with st := false } x s) : ri c fun k => f _ (n k) m :=
    computes_ri_compl (f := f) hc
  have hiNot {c : Instr} (f : (w : Nat) → BitVec w → BitVec w → BitVec w)
      (hc : exec c s = Machine.ri .compl .compl .sign f { i with st := true } x s) : ri c fun k => ~~~f _ (n k) m :=
    computes_ri_compl (f := f) hc
  exact ⟨hr (fun _ => (· &&& ·)) rfl, hrNot (fun _ => (· &&& ·)) rfl, hr (fun _ => (· ||| ·)) rfl,
    hrNot (fun _ => (· ||| ·)) rfl, hr (fun _ => (· ^^^ ·)) rfl, hrNot (fun _ => (· ^^^ ·)) rfl,
    hr (fun _ => (· &&& ·)) rfl, hr (fun _ => (· &&& ·)) rfl, hi (fun _ => (· &&& ·)) rfl,
    hiNot (fun _ => (· &&& ·)) rfl, hi (fun _ => (· ||| ·)) rfl, hiNot (fun _ => (· ||| ·)) rfl,
    hi (fun _ => (· ^^^ ·)) rfl, hiNot (fun _ => (· ^^^ ·)) rfl, hi (fun _ => (· &&& ·)) rfl⟩

end Sys2Proof.Machine

/-! Leading zeros and ones, bits set, bits reversed, square roots (40_integer R327 to R329, R346, R347). -/

namespace Sys2Proof.Machine

variable {s : State} {x : Ext} {c : Instr} {w : Nat}

/-! What the functions count, reverse and bound. -/

theorem leadingZeros_le (a : BitVec w) : leadingZeros a ≤ w := by
  unfold leadingZeros
  split <;> omega

theorem leadingZeros_zero : leadingZeros (0 : BitVec w) = w := if_pos rfl

/-- The highest bit set is the one below the leading zeros. -/
theorem log2_toNat_eq {a : BitVec w} (h : a ≠ 0) : a.toNat ≠ 0 ∧ a.toNat.log2 + leadingZeros a + 1 = w := by
  have h0 : a.toNat ≠ 0 := fun h0 => h (BitVec.eq_of_toNat_eq h0)
  have hlt : a.toNat.log2 < w := (Nat.log2_lt h0).2 a.isLt
  refine ⟨h0, ?_⟩
  rw [leadingZeros, if_neg h]
  omega

theorem getLsbD_of_leadingZeros (a : BitVec w) {i : Nat} (hi : w - leadingZeros a ≤ i) : a.getLsbD i = false := by
  by_cases h : a = 0
  · rw [h]
    exact BitVec.getLsbD_zero
  · obtain ⟨h0, hw⟩ := log2_toNat_eq h
    rw [← BitVec.testBit_toNat]
    exact Nat.testBit_lt_two_pow ((Nat.log2_lt h0).1 (by omega))

theorem getLsbD_below_leadingZeros (a : BitVec w) (h : leadingZeros a < w) : a.getLsbD (w - 1 - leadingZeros a) = true := by
  have ha : a ≠ 0 := by
    rintro rfl
    exact absurd h (by rw [leadingZeros_zero]; omega)
  obtain ⟨h0, hw⟩ := log2_toNat_eq ha
  rw [show w - 1 - leadingZeros a = a.toNat.log2 by omega, ← BitVec.testBit_toNat]
  exact Nat.testBit_log2 h0

theorem popCount_eq_card (a : BitVec w) : popCount a = ((Finset.range w).filter fun i => a.getLsbD i = true).card := by
  rw [← List.toFinset_range, List.nodup_range.card_eq_countP]
  simp [popCount]

/-- The low `n` bits in reverse order, as a number. -/
def reversed (a : BitVec w) (n : Nat) : Nat := (List.range n).foldl (fun r i => 2 * r + (a.getLsbD i).toNat) 0

theorem reversed_succ (a : BitVec w) (n : Nat) : reversed a (n + 1) = 2 * reversed a n + (a.getLsbD n).toNat := by
  simp [reversed, List.range_succ]

theorem testBit_reversed (a : BitVec w) (n i : Nat) :
    (reversed a n).testBit i = (decide (i < n) && a.getLsbD (n - 1 - i)) := by
  induction n generalizing i with
  | zero => simp [reversed]
  | succ n ih =>
    rw [reversed_succ]
    cases i with
    | zero => cases h : a.getLsbD n <;> simp [h, Nat.testBit_zero, Nat.add_mod]
    | succ i =>
      have hhalf : (2 * reversed a n + (a.getLsbD n).toNat) / 2 = reversed a n := by
        have := Bool.toNat_lt (a.getLsbD n)
        omega
      rw [Nat.testBit_succ, hhalf, ih]
      simp [Nat.sub_sub, Nat.add_comm]

theorem getLsbD_reverseBits (a : BitVec w) {i : Nat} (hi : i < w) : (reverseBits a).getLsbD i = a.getLsbD (w - 1 - i) := by
  have hrev : reverseBits a = BitVec.ofNat w (reversed a w) := rfl
  rw [hrev, BitVec.getLsbD_ofNat, testBit_reversed]
  simp [hi]

/-- The root found from bit `k - 1` down is the floor of the square root, if the bits above are right. -/
theorem isqrt_bounds {n : Nat} (k : Nat) {r : Nat} (hlo : r * r ≤ n) (hhi : n < (r + 2 ^ k) * (r + 2 ^ k)) :
    isqrt n k r * isqrt n k r ≤ n ∧ n < (isqrt n k r + 1) * (isqrt n k r + 1) := by
  induction k generalizing r with
  | zero => exact ⟨hlo, hhi⟩
  | succ k ih =>
    rw [isqrt]
    split
    · next hle =>
      refine ih hle ?_
      rwa [Nat.add_assoc, ← Nat.two_mul, ← Nat.pow_succ']
    · next hgt => exact ih hlo (Nat.lt_of_not_le hgt)

/-- The root of a number of `w` bits, `w` being even, has half as many. -/
theorem isqrt_half (hw : w % 2 = 0) (a : BitVec w) :
    isqrt a.toNat (w / 2) 0 * isqrt a.toNat (w / 2) 0 ≤ a.toNat ∧
      a.toNat < (isqrt a.toNat (w / 2) 0 + 1) * (isqrt a.toNat (w / 2) 0 + 1) := by
  refine isqrt_bounds _ (Nat.zero_le _) ?_
  rw [Nat.zero_add, ← Nat.pow_add, show w / 2 + w / 2 = w by omega]
  exact a.isLt

theorem size_bits_even (z : Size) : z.bits % 2 = 0 := by cases z <;> rfl

/-! The operands and the instructions. -/

/-- An operand under an S bit that complements is complemented (30_encoding R216). -/
theorem srcOf_value_compl (vec : Bool) (r : Reg) (on : Bool) (s : State) (w k : Nat) :
    (srcOf vec r).value .compl on s w k =
      if on then ~~~(srcOf vec r).value .plain false s w k else (srcOf vec r).value .plain false s w k := by
  cases vec <;> cases on <;> simp [srcOf, Src.value, decorate]

/-- The format of one operand with a count, zero-extended, where the S bits complement. -/
theorem computes_r1_count {f : {w : Nat} → BitVec w → Nat} {o : R1}
    (hc : exec c s = r1 .compl .compl .zero (fun w a => .ofNat w (f a)) o x s) :
    let v := fun k => (srcOf (o.vec != .scalar) o.ra).value .plain false s o.size.bits k
    let n := fun k => f (if o.sa then ~~~v k else v k)
    Computes c s x (o.vec != .scalar) o.size.bits o.rt fun k =>
      (if o.st then ~~~BitVec.ofNat o.size.bits (n k) else BitVec.ofNat o.size.bits (n k)).setWidth 128 :=
  computes_r1 hc fun k => by rw [srcOf_value_compl]; rfl

/-- Settles O10: each result is what its function counts, reverses or bounds of the operand; CNTLO counts the leading zeros
of the complement. -/
theorem countsReversalAndRoot : Obligations.CountsReversalAndRoot := by
  intro o x s w raw a m counts
  refine ⟨⟨fun k => leadingZeros (raw k), fun k => ?_, ?_⟩, ⟨fun k => leadingZeros (~~~raw k), fun k => ?_, ?_⟩,
    ⟨fun k => popCount (a k), fun k => popCount_eq_card (a k), ?_⟩,
    ⟨fun k => reverseBits (a k), fun k i => getLsbD_reverseBits (a k), ?_⟩,
    ⟨fun k => isqrt (m k).toNat (w / 2) 0, fun k => isqrt_half (size_bits_even o.size) (m k), ?_⟩⟩
  · exact ⟨leadingZeros_le _, fun i => getLsbD_of_leadingZeros _, getLsbD_below_leadingZeros _⟩
  · exact computes_r1_count (f := leadingZeros) (o := { o with sa := false }) (exec_cntlz o x s)
  · have hbit : ∀ i, i < w → (~~~raw k).getLsbD i = !(raw k).getLsbD i := fun i hi => by simp [hi]
    refine ⟨leadingZeros_le _, fun i hlo hi => ?_, fun hlt => ?_⟩
    · simpa [hbit i hi] using getLsbD_of_leadingZeros (~~~raw k) hlo
    · simpa [hbit _ (show w - 1 - leadingZeros (~~~raw k) < w by omega)] using getLsbD_below_leadingZeros (~~~raw k) hlt
  · exact computes_r1_count (f := leadingZeros) (o := { o with sa := true }) (exec_cntlo o x s)
  · exact computes_r1_count (f := popCount) (exec_cntpop o x s)
  · refine computes_r1 (exec_revbit o x s) fun k => ?_
    rw [srcOf_value_compl]
    rfl
  · exact computes_r1 (exec_sqrt o x s) fun k => rfl

end Sys2Proof.Machine

/-! Carry-less products, byte maps and character search (40_integer R323 to R326; 43_string_block R467). -/

namespace Sys2Proof.Machine

variable {s : State} {x : Ext} {c : Instr} {w : Nat}

/-! Carry-less products. -/

/-- The sum without carries of `a` shifted by the number of each bit set among the low `n` of `b`. -/
def clmulPart (a b : BitVec w) (n : Nat) : BitVec w :=
  (List.range n).foldl (fun r i => if b.getLsbD i then r ^^^ (a <<< i) else r) 0

theorem clmulFn_eq (a b : BitVec w) : clmulFn w a b = clmulPart a b w := rfl

theorem clmulPart_succ (a b : BitVec w) (n : Nat) :
    clmulPart a b (n + 1) = if b.getLsbD n then clmulPart a b n ^^^ (a <<< n) else clmulPart a b n := by
  simp [clmulPart, List.range_succ]

/-- Of the low `n` bits of `b`, those that meet a bit of `a` at bit `j` of the product. -/
def clmulPairs (a b : BitVec w) (j n : Nat) : Finset Nat :=
  (Finset.range n).filter fun l => l ≤ j ∧ a.getLsbD (j - l) = true ∧ b.getLsbD l = true

theorem clmulPairs_succ (a b : BitVec w) (j n : Nat) : (clmulPairs a b j (n + 1)).card =
    (clmulPairs a b j n).card + (decide (n ≤ j) && (a.getLsbD (j - n) && b.getLsbD n)).toNat := by
  unfold clmulPairs
  rw [Finset.range_add_one, Finset.filter_insert]
  split
  · next h =>
    obtain ⟨hn, ha, hb⟩ := h
    simp [hn, ha, hb]
  · next h =>
    have hc : (decide (n ≤ j) && (a.getLsbD (j - n) && b.getLsbD n)) = false := by
      simpa only [← Bool.not_eq_true, Bool.and_eq_true, decide_eq_true_eq] using h
    rw [hc]
    rfl

/-- Whether one more is counted is added to the parity. -/
theorem decide_odd_add (n : Nat) (c : Bool) : decide ((n + c.toNat) % 2 = 1) = (decide (n % 2 = 1) ^^ c) := by
  cases c with
  | false => simp
  | true =>
    rw [Bool.xor_true, ← decide_not, decide_eq_decide, Bool.toNat_true]
    omega

/-- Bit `j` of the sum is the parity of the pairs that meet there. -/
theorem getLsbD_clmulPart (a b : BitVec w) {j : Nat} (hj : j < w) (n : Nat) :
    (clmulPart a b n).getLsbD j = decide ((clmulPairs a b j n).card % 2 = 1) := by
  induction n with
  | zero => simp [clmulPart, clmulPairs]
  | succ n ih =>
    rw [clmulPart_succ, clmulPairs_succ, decide_odd_add, ← ih]
    cases b.getLsbD n with
    | false => simp
    | true =>
      rw [if_pos rfl, BitVec.getLsbD_xor, BitVec.getLsbD_shiftLeft]
      simp [hj, ← decide_not]

theorem getLsbD_clmulFn (a b : BitVec w) {j : Nat} (hj : j < w) : (clmulFn w a b).getLsbD j =
    decide (((Finset.range (j + 1)).filter fun l => a.getLsbD (j - l) = true ∧ b.getLsbD l = true).card % 2 = 1) := by
  have hpairs : clmulPairs a b j w =
      (Finset.range (j + 1)).filter fun l => a.getLsbD (j - l) = true ∧ b.getLsbD l = true := by
    ext l
    simp only [clmulPairs, Finset.mem_filter, Finset.mem_range]
    constructor
    · exact fun ⟨_, hl, hp⟩ => ⟨by omega, hp⟩
    · exact fun ⟨hl, hp⟩ => ⟨by omega, by omega, hp⟩
  rw [← hpairs, clmulFn_eq]
  exact getLsbD_clmulPart a b hj w

/-! Byte maps. -/

/-- The field of the map for source byte `l`. -/
def mapField (map : BitVec 64) (l : Nat) : Nat := (map.extractLsb' (4 * l) 4).toNat

/-- The map applied to the low `n` bytes of the source. -/
def scatterPart (a : BitVec 128) (map : BitVec 64) (n : Nat) : BitVec 128 :=
  (List.range n).foldl (fun r i => putByte r (mapField map i) (a.extractLsb' (8 * i) 8)) 0

theorem scatter_eq (a : BitVec 128) (map : BitVec 64) : scatter a map = scatterPart a map 16 := rfl

theorem scatterPart_succ (a : BitVec 128) (map : BitVec 64) (n : Nat) :
    scatterPart a map (n + 1) = putByte (scatterPart a map n) (mapField map n) (a.extractLsb' (8 * n) 8) := by
  simp [scatterPart, List.range_succ]

theorem mapField_lt (map : BitVec 64) (l : Nat) : mapField map l < 16 := (map.extractLsb' (4 * l) 4).isLt

theorem extract_scatterPart_succ (a : BitVec 128) (map : BitVec 64) (n : Nat) {j : Nat} (hj : j < 16) :
    (scatterPart a map (n + 1)).extractLsb' (8 * j) 8 =
      if j = mapField map n then a.extractLsb' (8 * n) 8 else (scatterPart a map n).extractLsb' (8 * j) 8 := by
  have := mapField_lt map n
  rw [scatterPart_succ, extract_putByte _ (by omega) (by omega)]

/-- A byte no field names is zero. -/
theorem extract_scatterPart_unnamed (a : BitVec 128) (map : BitVec 64) {j : Nat} (hj : j < 16) (n : Nat)
    (h : ∀ l, l < n → mapField map l ≠ j) : (scatterPart a map n).extractLsb' (8 * j) 8 = 0 := by
  induction n with
  | zero => simp [scatterPart]
  | succ n ih =>
    rw [extract_scatterPart_succ a map n hj, if_neg fun hn => h n (Nat.lt_succ_self n) hn.symm]
    exact ih fun l hl => h l (by omega)

/-- A byte is the source byte of the highest number whose field names it. -/
theorem extract_scatterPart_named (a : BitVec 128) (map : BitVec 64) {j l : Nat} (hj : j < 16) (n : Nat) (hl : l < n)
    (hname : mapField map l = j) (habove : ∀ l', l < l' → l' < n → mapField map l' ≠ j) :
    (scatterPart a map n).extractLsb' (8 * j) 8 = a.extractLsb' (8 * l) 8 := by
  induction n with
  | zero => omega
  | succ n ih =>
    rw [extract_scatterPart_succ a map n hj]
    by_cases hln : l = n
    · rw [if_pos (hln ▸ hname.symm), hln]
    · rw [if_neg fun hn => habove n (by omega) (Nat.lt_succ_self n) hn.symm]
      exact ih (by omega) fun l' hlo hhi => habove l' hlo (by omega)

/-- The fields of a map are those of its low 64 bits. -/
theorem mapField_setWidth (b : Word) {l : Nat} (hl : l < 16) :
    mapField (b.setWidth 64) l = (b.extractLsb' (4 * l) 4).toNat := by
  refine congrArg BitVec.toNat (BitVec.eq_of_getLsbD_eq fun i hi => ?_)
  simp [hi, show 4 * l + i < 64 by omega]

/-- What a map instruction gives of a source and a map (40_integer R323; log 48). -/
def Mapped (p : Params) (a b r : Word) : Prop :=
  if p.bmap = .other then r = Config.bmapResult a (b.setWidth 64) else ∀ j, j < 16 →
    (∀ l, l < 16 → (b.extractLsb' (4 * l) 4).toNat = j →
      (∀ l', l < l' → l' < 16 → (b.extractLsb' (4 * l') 4).toNat ≠ j) →
        r.extractLsb' (8 * j) 8 = a.extractLsb' (8 * l) 8) ∧
    ((∀ l, l < 16 → (b.extractLsb' (4 * l) 4).toNat ≠ j) → r.extractLsb' (8 * j) 8 = 0)

theorem mapped_bmapFn (p : Params) (a b : Word) : Mapped p a b (bmapFn p a (b.setWidth 64)) := by
  unfold Mapped bmapFn
  cases p.bmap with
  | other => rw [if_pos rfl]
  | scatter =>
    simp only [scatter_eq]
    rw [if_neg (by decide)]
    refine fun j hj => ⟨fun l hl hname habove => ?_, fun hnone => ?_⟩
    · refine extract_scatterPart_named a (b.setWidth 64) hj 16 hl ?_ fun l' hlo hhi => ?_
      · rw [mapField_setWidth b hl, hname]
      · rw [mapField_setWidth b hhi]
        exact habove l' hlo hhi
    · refine extract_scatterPart_unnamed a (b.setWidth 64) hj 16 fun l hl => ?_
      rw [mapField_setWidth b hl]
      exact hnone l hl

/-! Character search. -/

/-- The index of the first of `n` characters that is the one sought, minus one without one (43_string_block R467). -/
def FirstFound (n : Nat) (ch : Nat → BitVec w) (want : BitVec w) (r : Word) : Prop :=
  (∀ i, i < n → ch i = want → (∀ j, j < i → ch j ≠ want) → r = .ofNat 128 i) ∧
    ((∀ i, i < n → ch i ≠ want) → r = -1)

theorem firstFound_charIndex (n : Nat) (a : Word) (want : BitVec w) :
    FirstFound n (fun i => a.extractLsb' (w * i) w) want (charIndex w n a want) := by
  refine ⟨fun i hi hch hbelow => ?_, fun hnone => ?_⟩
  · have hfind : (List.range n).find? (fun i => a.extractLsb' (w * i) w == want) = some i :=
      List.find?_range_eq_some.2 ⟨by simpa using hch, List.mem_range.2 hi, fun j hj => by simpa using hbelow j hj⟩
    rw [charIndex, hfind]
  · have hfind : (List.range n).find? (fun i => a.extractLsb' (w * i) w == want) = none :=
      List.find?_range_eq_none.2 fun i hi => by simpa using hnone i hi
    rw [charIndex, hfind]
    rfl

theorem extractLsb'_setWidth_zero (hw : w ≤ 128) (v : BitVec w) : (v.setWidth 128).extractLsb' (w * 0) w = v := by
  refine BitVec.eq_of_getLsbD_eq fun i hi => ?_
  simp [hi, show i < 128 by omega]

theorem FirstFound.congr {n : Nat} {ch ch' : Nat → BitVec w} {want : BitVec w} {r : Word} (h : FirstFound n ch want r)
    (hch : ∀ i, i < n → ch' i = ch i) : FirstFound n ch' want r := by
  obtain ⟨hfirst, hnone⟩ := h
  refine ⟨fun i hi hi' hbelow => hfirst i hi ((hch i hi).symm.trans hi') fun j hj => ?_, fun h => hnone fun i hi => ?_⟩
  · rw [← hch j (by omega)]
    exact hbelow j hj
  · rw [← hch i hi]
    exact h i hi

/-- A scalar form searches the whole of Ra, a vector form each element by itself (log 21). -/
theorem computes_chrndx {size : Size} {vec : Bool} {rt ra : Reg} {st sa : Bool} {b : State → Nat → BitVec size.bits}
    (hc : exec c s = chrndxOp size vec rt st ra sa b x s) : ∃ f : Nat → Word,
      (∀ k, if vec then FirstFound 1 (fun _ => (Src.vec ra).value .compl sa s size.bits k) (b s k) (f k)
        else FirstFound (128 / size.bits)
          (fun i => ((Src.reg ra).value .compl sa s 128 k).extractLsb' (size.bits * i) size.bits) (b s k) (f k)) ∧
      Computes c s x vec size.bits rt fun k => if st then ~~~f k else f k := by
  refine ⟨fun k => if vec then charIndex size.bits 1 (((srcOf true ra).value .compl sa s size.bits k).setWidth 128) (b s k)
    else charIndex size.bits (128 / size.bits) ((srcOf false ra).value .compl sa s 128 k) (b s k), fun k => ?_, ?_⟩
  · cases vec with
    | false => exact firstFound_charIndex _ _ _
    | true =>
      refine (firstFound_charIndex 1 (((Src.vec ra).value .compl sa s size.bits k).setWidth 128) (b s k)).congr fun i hi => ?_
      obtain rfl : i = 0 := by omega
      exact (extractLsb'_setWidth_zero (size_bits_le size) _).symm
  · refine computes_alu (g := fun k s' => .ok (decorate .compl st _) s') (hc.trans ?_) fun k v d => rfl
    exact runExt_congr rfl

/-! The instructions. -/

/-- The 8-bit field of an immediate format, unless a constant of the postfixes replaces it (40_integer R326). -/
theorem immOf_b (e : R2I) (t : Tail) : (immOf e).b t = (t.const.getD (e.imm.signExtend 128)).setWidth e.size.bits := by
  have hext : (e.imm.signExtend 15).signExtend 128 = e.imm.signExtend 128 := by
    refine BitVec.eq_of_toInt_eq ?_
    simp only [BitVec.toInt_signExtend_of_le, show 8 ≤ 15 by decide, show 15 ≤ 128 by decide, show 8 ≤ 128 by decide]
  rw [← hext]
  rfl

/-- A result of 128 bits under an St bit that complements. -/
theorem result_whole (st : Bool) (v : Word) : result .compl st .sign (v.setWidth 128) = if st then ~~~v else v := by
  rw [result_compl, BitVec.setWidth_eq, BitVec.signExtend_eq]

/-- Settles O11: products, maps and searches by what their functions give of the operands. -/
theorem carrylessProductsMapsAndSearch : Obligations.CarrylessProductsMapsAndSearch := by
  refine ⟨fun o e i x s => ?_, fun o e x s => ?_⟩
  · intro product mapped oh ih
    refine ⟨⟨fun k => clmulFn _ (o.a .compl s k) (o.b .compl x.tail s k), fun k j => getLsbD_clmulFn _ _,
        computes_r2_compl (exec_clmul o x s)⟩,
      ⟨fun k => clmulFn _ ((immOf e).a .compl s k) ((immOf e).b x.tail), fun k j hj => ?_,
        computes_ri_compl (exec_clmulImm e x s)⟩,
      ⟨fun k => bmapFn s.params (oh.a .compl s k) ((oh.b .compl x.tail s k).setWidth 64), fun k => mapped_bmapFn _ _ _, ?_⟩,
      ⟨fun k => bmapFn s.params (ih.a .compl s k) ((ih.b x.tail).setWidth 64), fun k => mapped_bmapFn _ _ _, ?_⟩⟩
    · rw [← immOf_b]
      exact getLsbD_clmulFn _ _ hj
    · refine computes_r2 (o := oh) (exec_bmap o x s) fun k => ?_
      have ha : (oh.a .compl s k).setWidth 128 = oh.a .compl s k := BitVec.setWidth_eq _
      exact (result_whole _ _).trans (by rw [ha])
    · refine computes_ri (o := ih) (exec_bmapImm i x s) fun k => ?_
      have ha : (ih.a .compl s k).setWidth 128 = ih.a .compl s k := BitVec.setWidth_eq _
      exact (result_whole _ _).trans (by rw [ha])
  · intro found search
    exact ⟨computes_chrndx (exec_chrndx o x s), computes_chrndx (exec_chrndxImm e x s)⟩

end Sys2Proof.Machine

/-! Bounds checks (40_integer R330 to R332; 41_vector R383). -/

namespace Sys2Proof.Machine

variable {s : State} {x : Ext} {c : Instr} {w : Nat}

/-- The condition of CHK: bit 1 of Cn3 makes the lower bound strict, bit 0 makes the upper one inclusive, bit 2 negates
(40_integer R330). -/
def BoundsHold (cn : BitVec 3) (a lo hi : BitVec w) : Prop :=
  let low := if cn.getLsbD 1 then lo.toInt < a.toInt else lo.toInt ≤ a.toInt
  let high := if cn.getLsbD 0 then a.toInt ≤ hi.toInt else a.toInt < hi.toInt
  if cn.getLsbD 2 then ¬ (low ∧ high) else low ∧ high

theorem low_two_bits (cn : BitVec 3) :
    (cn.extractLsb' 0 2).toNat = 2 * (cn.getLsbD 1).toNat + (cn.getLsbD 0).toNat := by
  revert cn
  decide

theorem chkHolds_eq (cn : BitVec 3) (a lo hi : BitVec w) :
    let inside := (if cn.getLsbD 1 then lo.slt a else lo.sle a) && (if cn.getLsbD 0 then a.sle hi else a.slt hi)
    chkHolds cn a lo hi = if cn.getLsbD 2 then !inside else inside := by
  unfold chkHolds
  rw [low_two_bits]
  cases cn.getLsbD 1 <;> cases cn.getLsbD 0 <;> rfl

theorem chkHolds_iff (cn : BitVec 3) (a lo hi : BitVec w) : chkHolds cn a lo hi = true ↔ BoundsHold cn a lo hi := by
  have hlow : (if cn.getLsbD 1 then lo.slt a else lo.sle a) = true ↔
      if cn.getLsbD 1 then lo.toInt < a.toInt else lo.toInt ≤ a.toInt := by
    split
    · exact BitVec.slt_iff_toInt_lt
    · exact BitVec.sle_iff_toInt_le
  have hhigh : (if cn.getLsbD 0 then a.sle hi else a.slt hi) = true ↔
      if cn.getLsbD 0 then a.toInt ≤ hi.toInt else a.toInt < hi.toInt := by
    split
    · exact BitVec.sle_iff_toInt_le
    · exact BitVec.slt_iff_toInt_lt
  have hin := and_congr hlow hhigh
  rw [← Bool.and_eq_true] at hin
  unfold BoundsHold
  rw [chkHolds_eq]
  cases cn.getLsbD 2 with
  | false => exact hin
  | true => exact (iff_of_eq (Bool.not_eq_true' _)).trans (Bool.eq_false_iff.trans (not_congr hin))

/-- The loop goes past an element that is not enabled, or that passes. -/
theorem chkLoop_succ {m : Word} {f : Nat → Bool} (n k : Nat) (t : State) (h : m.getLsbD k = true → f k = true) :
    chkLoop m f (n + 1) k t = chkLoop m f n (k + 1) t := by
  have hk : (m.getLsbD k && !f k) = false := by
    cases hm : m.getLsbD k with
    | false => rfl
    | true => simp [h hm]
  rw [chkLoop, hk]
  rfl

/-- Where every enabled element passes, the loop does nothing. -/
theorem chkLoop_passes {m : Word} {f : Nat → Bool} (n k : Nat) (t : State)
    (h : ∀ j, k ≤ j → j < k + n → m.getLsbD j = true → f j = true) : chkLoop m f n k t = .ok () t := by
  induction n generalizing k with
  | zero => rfl
  | succ n ih =>
    rw [chkLoop_succ n k t (h k (Nat.le_refl k) (by omega))]
    exact ih (k + 1) fun j hj hjn => h j (by omega) (by omega)

/-- The loop stops at the first enabled element that fails (41_vector R383). -/
theorem chkLoop_stops {m : Word} {f : Nat → Bool} {j : Nat} (n k : Nat) (t : State) (hj : k ≤ j ∧ j < k + n)
    (hm : m.getLsbD j = true) (hf : f j = false) (hbelow : ∀ l, k ≤ l → l < j → m.getLsbD l = true → f l = true) :
    chkLoop m f n k t = .trap ⟨t.params.chkVector, none⟩ (t.stopped j) := by
  induction n generalizing k with
  | zero => omega
  | succ n ih =>
    by_cases hjk : j = k
    · subst hjk
      rw [chkLoop, hm, hf]
      rfl
    · rw [chkLoop_succ n k t (hbelow k (Nat.le_refl k) (by omega))]
      exact ih (k + 1) (by omega) fun l hl => hbelow l (by omega)

/-- The instruction, when it executes, passes where the condition `P` holds, of every enabled element in a vector form, and
else takes the exception of the CHK vector, in a vector form at the first element that fails. -/
def Checks (c : Instr) (s : State) (x : Ext) (vec : Bool) (w : Nat) (P : Nat → Prop) : Prop :=
  s.enabled x vec →
    if vec then
      ((∀ k, (k < s.elems w ∧ (s.vecMask x.mask).getLsbD k = true) → P k) →
        exec c s = .next { s.passed (extLen x) with vrm := BitVec.allOnes 128 }) ∧
      ∀ k a, (k < s.elems w ∧ (s.vecMask x.mask).getLsbD k = true) → ¬ P k →
        (∀ j, j < k → (j < s.elems w ∧ (s.vecMask x.mask).getLsbD j = true) → P j) → s.handler s.params.chkVector a →
          exec c s = .next { (s.stopped k).took s.params.chkVector s.pc none a with retire := .fault }
    else (P 0 → exec c s = .next (s.passed (extLen x))) ∧ (¬ P 0 → Traps c s s.params.chkVector none)

theorem checks_chkAll {vec : Bool} {f : Nat → Bool} {P : Nat → Prop}
    (hc : exec c s = runExt x vec (chkAll w vec x.mask f) s) (hf : ∀ k, f k = true ↔ P k) : Checks c s x vec w P := by
  intro he
  rw [hc, runExt_enabled he]
  cases vec with
  | false =>
    refine ⟨fun h => ?_, fun h a ha => ?_⟩
    · have hchk : chkAll w false x.mask f s = .ok .seq s := by simp [chkAll, chkOne, (hf 0).2 h, Acc.map, Acc.bind]
      rw [hchk]
      rfl
    · have hchk : chkAll w false x.mask f s = .trap ⟨s.params.chkVector, none⟩ s := by
        simp [chkAll, chkOne, mt (hf 0).1 h, Acc.map, Acc.bind]
      rw [hc, runExt_enabled he, hchk]
      exact finish_trap ha
  | true =>
    refine ⟨fun h => ?_, fun k a hk hfail hbelow ha => ?_⟩
    · have hloop := chkLoop_passes (m := s.vecMask x.mask) (f := f) (s.elems w) 0 s
        fun j _ hj hm => (hf j).2 (h j ⟨by omega, hm⟩)
      simp only [chkAll, if_true, hloop, Acc.bind]
      rfl
    · have hloop := chkLoop_stops (m := s.vecMask x.mask) (f := f) (s.elems w) 0 s ⟨Nat.zero_le k, by omega⟩ hk.2
        (Bool.eq_false_iff.2 (mt (hf k).1 hfail)) fun l _ hl hm => (hf l).2 (hbelow l hl ⟨by omega, hm⟩)
      simp only [chkAll, if_true, hloop, Acc.bind]
      exact finish_trap (u := s.stopped k) ha

/-- Settles O15: CHK and CHKI check, at each element, the condition of their Cn3. -/
theorem boundsChecksPassOrTrap : Obligations.BoundsChecksPassOrTrap := by
  intro o i x s holds checks
  exact ⟨checks_chkAll ((exec_chk o x s).trans (runExt_congr rfl)) fun _ => chkHolds_iff o.cn _ _ _,
    checks_chkAll ((exec_chki i x s).trans (runExt_congr rfl)) fun _ => chkHolds_iff i.cn _ _ _⟩

end Sys2Proof.Machine

/-! Slides of the elements and V2BITS (41_vector R388 to R390; 48_vector R652, R653). -/

namespace Sys2Proof.Machine

variable {s : State} {x : Ext} {c : Instr} {w : Nat}

/-! Slides. -/

/-- The bound of a slide up concerns only elements that are not processed (41_vector R388). -/
theorem slideUp_of_lt {n amt k : Nat} (src : Nat → BitVec w) (hk : k < n) :
    slideUp w n amt src k = if amt ≤ k then src (k - amt) else 0 := by
  simp only [slideUp, hk, true_and]

/-- A vector instruction whose result for element `k` is `f k` writes it to the enabled elements below the number
processed, and does nothing else. -/
theorem lanes_alu {z : Size} {rt : Reg} {f g : Nat → BitVec z.bits} (hp : s.predOk = true)
    (hc : exec c s = runExt x true (fun s => alu z.bits true rt x.mask (fun k s' => .ok ((f k).setWidth 128) s') s) s)
    (hf : ∀ k, k < s.elems z.bits → f k = g k) :
    ∃ t, exec c s = .next t ∧ Lanes s t z.bits rt (s.vecMask x.mask) (extLen x) g := by
  have hwidth : ∀ v : BitVec z.bits, (v.setWidth 128).setWidth z.bits = v := fun v =>
    (BitVec.setWidth_setWidth_of_le v (size_bits_le z)).trans (BitVec.setWidth_eq v)
  obtain ⟨t, ht, hl, hd⟩ := alu_vec (s := s) (w := z.bits) (rt := rt) (m := x.mask) (len := extLen x)
    (f := fun k s' => .ok ((f k).setWidth 128) s') (P := fun k r => r = g k) (D := fun a b => b = a) (fun _ => rfl)
    (fun _ _ _ h1 h2 => h2.trans h1)
    fun k d v hk _ => ⟨_, d, rfl, (hwidth (f k)).trans (hf k hk), rfl⟩
  exact ⟨t, by rw [hc, runExt_enabled ⟨hp, .inl rfl⟩]; exact ht, hl, hd⟩

/-- The element `k` that a slide moves, under Sa and then St (30_encoding R216, R217). -/
def State.slid (s : State) (z : Size) (ra : Reg) (sa st : Bool) (k : Nat) : BitVec z.bits :=
  decorate .compl st ((srcOf true ra).value .compl sa s z.bits k)

/-- A slide whose elements below the number processed are those `g` names. -/
theorem lanes_slide {f : (w : Nat) → Nat → Nat → (Nat → BitVec w) → Nat → BitVec w} {z : Size} {rt ra : Reg} {st sa : Bool}
    {amt : State → Nat} {g : Nat → BitVec z.bits} (hp : s.predOk = true) (hc : exec c s = slide f z rt st ra sa amt x s)
    (hf : ∀ k, k < s.elems z.bits → f z.bits (s.elems z.bits) (amt s) (s.slid z ra sa st) k = g k) :
    ∃ t, exec c s = .next t ∧ Lanes s t z.bits rt (s.vecMask x.mask) (extLen x) g :=
  lanes_alu hp (hc.trans (runExt_congr rfl)) hf

/-! V2BITS. -/

theorem gatherBits_succ (m : Word) (v : Nat → BitVec w) (b n : Nat) : gatherBits w m v b (n + 1) =
    if m.getLsbD n && (v n).getLsbD b then gatherBits w m v b n ||| 1#128 <<< n else gatherBits w m v b n := by
  simp [gatherBits, List.range_succ]

theorem getLsbD_one_shiftLeft (n : Nat) {k : Nat} (hk : k < 128) : (1#128 <<< n).getLsbD k = decide (k = n) := by
  rw [← BitVec.twoPow_eq, BitVec.getLsbD_twoPow]
  by_cases h : k = n
  · subst h
    simp [hk]
  · simp [h, Ne.symm h]

/-- Bit `k` of the gathered bits is that of element `k`, if it is one of the `n` and the mask enables it. -/
theorem getLsbD_gatherBits (m : Word) (v : Nat → BitVec w) (b n : Nat) {k : Nat} (hk : k < 128) :
    (gatherBits w m v b n).getLsbD k = (decide (k < n) && m.getLsbD k && (v k).getLsbD b) := by
  induction n with
  | zero => simp [gatherBits]
  | succ n ih =>
    have hstep : (gatherBits w m v b (n + 1)).getLsbD k =
        ((gatherBits w m v b n).getLsbD k || decide (k = n) && (m.getLsbD n && (v n).getLsbD b)) := by
      rw [gatherBits_succ]
      cases m.getLsbD n && (v n).getLsbD b with
      | false => simp
      | true => simp [getLsbD_one_shiftLeft n hk]
    rw [hstep, ih]
    by_cases hkn : k = n
    · subst hkn
      simp
    · simp [hkn, show k < n + 1 ↔ k < n by omega]

theorem State.setBank_setVrm (s : State) (m : BitVec 2) (v r : Word) :
    { s with vrm := r }.setBank m v = { s.setBank m v with vrm := r } := by
  unfold State.setBank
  split <;> rfl

/-- The restart mask is apart from the general registers. -/
theorem State.setReg_setVrm (s : State) (rt : Reg) (v r : Word) :
    { s with vrm := r }.setReg rt v = { s.setReg rt v with vrm := r } := by
  unfold State.setReg
  split
  · rfl
  · split
    · rfl
    · split
      · exact s.setBank_setVrm _ v r
      · rfl

/-- A vector instruction that writes a scalar register, and leaves the restart mask all ones (41_vector R383). -/
theorem finish_setReg_setVrm (len : Nat) (s : State) (rt : Reg) (v r : Word) :
    finish len s (.ok .seq ({ s with vrm := r }.setReg rt v)) = .next { s.wrote len rt v with vrm := r } := by
  rw [State.setReg_setVrm]
  simp [finish, State.wrote, State.passed]

/-- Settles O14: a slide writes what slideUp or slideDown gives of its amount, V2BITS the gathered bits. -/
theorem slidesAndBitGather : Obligations.SlidesAndBitGather := by
  intro o i x s hp amt imm moved up down lanes
  refine ⟨lanes_slide hp (exec_vshlv o x s) fun _ hk => slideUp_of_lt _ hk,
    lanes_slide hp (exec_vshrv o x s) fun _ _ => rfl,
    lanes_slide hp (exec_vshlvi i x s) fun _ hk => slideUp_of_lt _ hk,
    lanes_slide hp (exec_vshrvi i x s) fun _ _ => rfl,
    gatherBits o.size.bits (s.vecMask x.mask) (s.elem o.size.bits o.ra) (amt % o.size.bits) (s.elems o.size.bits),
    fun k hk => getLsbD_gatherBits _ _ _ _ hk, ?_⟩
  rw [exec_v2bits, execV2bits, runExt_enabled ⟨hp, .inl rfl⟩]
  exact finish_setReg_setVrm _ _ _ _ _

end Sys2Proof.Machine

/-! Rounding in every mode (42_float R403): the magnitudes of a format in order, the two that an exact magnitude lies between,
and which of them each mode takes; numbers of a format are themselves (42_float R401). -/

namespace Sys2Proof.Machine

variable {f : Fmt} {rm : RoundMode} {neg : Bool} {x : ℚ}

/-! The magnitudes of a format. -/

/-- The number that bits without sign stand for, infinity for the next power of two. -/
def Fmt.mag (f : Fmt) (m : Nat) : ℚ :=
  if m < 2 ^ f.m then (m : ℚ) * 2 ^ f.minExp
  else ((2 ^ f.m + m % 2 ^ f.m : Nat) : ℚ) * 2 ^ ((m / 2 ^ f.m : Nat) - f.bias - f.m : Int)

/-- A significand field under an exponent field other than zero. -/
theorem Fmt.mag_normal {ex sig : Nat} (hex : 1 ≤ ex) (hsig : sig < 2 ^ f.m) :
    f.mag (ex * 2 ^ f.m + sig) = ((2 ^ f.m + sig : Nat) : ℚ) * 2 ^ ((ex : Int) - f.bias - f.m) := by
  have hle : 2 ^ f.m ≤ ex * 2 ^ f.m := Nat.le_mul_of_pos_left _ hex
  have hdiv : (ex * 2 ^ f.m + sig) / 2 ^ f.m = ex := by
    rw [Nat.add_comm, Nat.add_mul_div_right _ _ (Nat.two_pow_pos _), Nat.div_eq_of_lt hsig, Nat.zero_add]
  rw [Fmt.mag, if_neg (by omega), hdiv, Nat.mul_add_mod_self_right, Nat.mod_eq_of_lt hsig]

theorem Fmt.mag_subnormal {m : Nat} (h : m < 2 ^ f.m) : f.mag m = (m : ℚ) * 2 ^ f.minExp := if_pos h

/-- The bits without sign of a significand of `q` units of two to the `u`. -/
def Fmt.place (f : Fmt) (u : Int) (q : Nat) : Nat :=
  if q < 2 ^ f.m then q else (u + f.bias + f.m).toNat * 2 ^ f.m + (q - 2 ^ f.m)

/-- A significand of the format under its unit: of full width, unless the unit is the least. -/
structure Fmt.Placed (f : Fmt) (u : Int) (q : Nat) : Prop where
  unit : f.minExp ≤ u
  lt : q < 2 ^ (f.m + 1)
  full : q < 2 ^ f.m → u = f.minExp

theorem Fmt.Placed.exponent {u : Int} {q : Nat} (h : f.Placed u q) :
    ∃ ex : Nat, 1 ≤ ex ∧ (u + f.bias + f.m).toNat = ex ∧ (ex : Int) - f.bias - f.m = u ∧ (u = f.minExp → ex = 1) := by
  have hu := h.unit
  have hmin : f.minExp = 1 - f.bias - f.m := rfl
  exact ⟨(u + f.bias + f.m).toNat, by omega, rfl, by omega, by omega⟩

theorem Fmt.mag_place {u : Int} {q : Nat} (h : f.Placed u q) : f.mag (f.place u q) = (q : ℚ) * 2 ^ u := by
  obtain ⟨ex, hpos, hex, hunit, -⟩ := h.exponent
  have hlt := h.lt
  rw [Nat.pow_succ] at hlt
  unfold Fmt.place
  split
  · rw [Fmt.mag_subnormal ‹_›, h.full ‹_›]
  · rw [hex, Fmt.mag_normal hpos (by omega), hunit, show 2 ^ f.m + (q - 2 ^ f.m) = q by omega]

/-- One unit more is the next magnitude, across powers of two. -/
theorem Fmt.place_succ {u : Int} {q : Nat} (h : f.Placed u q) : f.place u (q + 1) = f.place u q + 1 := by
  obtain ⟨ex, -, hex, -, hone⟩ := h.exponent
  unfold Fmt.place
  rw [hex]
  by_cases hq : q < 2 ^ f.m
  · rw [if_pos hq]
    split
    · rfl
    · rw [hone (h.full hq)]
      omega
  · rw [if_neg hq, if_neg (by omega)]
    omega

/-- A magnitude and the next, one unit apart. -/
theorem Fmt.mag_place_succ {u : Int} {q : Nat} (h : f.Placed u q) :
    f.mag (f.place u q + 1) = ((q : ℚ) + 1) * 2 ^ u := by
  by_cases hq : q + 1 < 2 ^ (f.m + 1)
  · have hnext : f.Placed u (q + 1) := ⟨h.unit, hq, fun hlt => h.full (by omega)⟩
    rw [← Fmt.place_succ h, Fmt.mag_place hnext, Nat.cast_succ]
  · obtain ⟨ex, -, hex, hunit, -⟩ := h.exponent
    have hlt := h.lt
    have htop : q + 1 = 2 ^ f.m * 2 := by rw [← Nat.pow_succ]; omega
    have hplace : f.place u q + 1 = (ex + 1) * 2 ^ f.m + 0 := by
      rw [Fmt.place, if_neg (by have := Nat.two_pow_pos f.m; omega), hex, Nat.add_one_mul]
      omega
    have hexp : ((ex + 1 : Nat) : Int) - f.bias - f.m = u + 1 := by push_cast; omega
    rw [hplace, Fmt.mag_normal (by omega) (Nat.two_pow_pos _), hexp, zpow_add_one₀ (by norm_num)]
    have hcast : (q : ℚ) + 1 = 2 ^ f.m * 2 := by exact_mod_cast htop
    rw [hcast]
    push_cast
    ring

/-- Every magnitude is a significand under a unit. -/
theorem Fmt.exists_placed (f : Fmt) (m : Nat) : ∃ u q, f.Placed u q ∧ f.place u q = m := by
  have hm : m = 2 ^ f.m * (m / 2 ^ f.m) + m % 2 ^ f.m := (Nat.div_add_mod _ _).symm
  have hmod : m % 2 ^ f.m < 2 ^ f.m := Nat.mod_lt _ (Nat.two_pow_pos _)
  have hmin : f.minExp = 1 - f.bias - f.m := rfl
  by_cases hsub : m < 2 ^ f.m
  · exact ⟨f.minExp, m, ⟨le_rfl, by rw [Nat.pow_succ]; omega, fun _ => rfl⟩, if_pos hsub⟩
  · have hex : 1 ≤ m / 2 ^ f.m := (Nat.one_le_div_iff (Nat.two_pow_pos _)).2 (by omega)
    refine ⟨(m / 2 ^ f.m : Nat) - f.bias - f.m, 2 ^ f.m + m % 2 ^ f.m,
      ⟨by omega, by rw [Nat.pow_succ]; omega, fun h => absurd h (by omega)⟩, ?_⟩
    rw [Fmt.place, if_neg (by omega), show ((m / 2 ^ f.m : Nat) - f.bias - f.m + f.bias + f.m : Int).toNat = m / 2 ^ f.m by
      omega, Nat.mul_comm, show 2 ^ f.m + m % 2 ^ f.m - 2 ^ f.m = m % 2 ^ f.m by omega]
    exact hm.symm

/-- Bits without sign are in the order of their numbers. -/
theorem Fmt.mag_strictMono (f : Fmt) : StrictMono f.mag := strictMono_nat_of_lt_succ fun m => by
  obtain ⟨u, q, h, rfl⟩ := f.exists_placed m
  rw [Fmt.mag_place h, Fmt.mag_place_succ h]
  exact mul_lt_mul_of_pos_right (lt_add_one _) (by positivity)

/-- The value of the bits of a sign and a magnitude (42_float R402). -/
theorem Fmt.value_mag {r : Nat} (hr : r < f.infBits) :
    ∃ sig e, f.value (f.withSign neg r) = .fin neg sig e ∧ (sig : ℚ) * 2 ^ e = f.mag r := by
  have hpos : 0 < 2 ^ f.m := Nat.two_pow_pos _
  have hsig : r % 2 ^ f.m < 2 ^ f.m := Nat.mod_lt _ hpos
  have hex : r / 2 ^ f.m < 2 ^ f.e - 1 := (Nat.div_lt_iff_lt_mul hpos).2 hr
  have hvalue := Fmt.value_withSign (f := f) (neg := neg) (hex.trans_le (Nat.sub_le _ _)) hsig
  rw [Nat.div_add_mod', if_neg (by omega)] at hvalue
  by_cases hsub : r < 2 ^ f.m
  · rw [Nat.div_eq_of_lt hsub, if_pos rfl, Nat.mod_eq_of_lt hsub] at hvalue
    exact ⟨_, _, hvalue, (Fmt.mag_subnormal hsub).symm⟩
  · have hone : 1 ≤ r / 2 ^ f.m := (Nat.one_le_div_iff hpos).2 (by omega)
    rw [if_neg (by omega)] at hvalue
    refine ⟨_, _, hvalue, ?_⟩
    rw [Fmt.mag, if_neg hsub]

/-! What Fmt.round computes. -/

theorem two_pow_toNat (k : Int) : (2 : ℚ) ^ k.toNat = 2 ^ k * 2 ^ (-k).toNat := by
  rw [← zpow_natCast, ← zpow_natCast, ← zpow_add₀ two_ne_zero]
  congr 1
  omega

theorem cast_log2_bounds {n : Nat} (h : n ≠ 0) : (2 : ℚ) ^ (n.log2 : Int) ≤ n ∧ (n : ℚ) < 2 ^ ((n.log2 : Int) + 1) := by
  have hle : 2 ^ n.log2 ≤ n := Nat.log2_self_le h
  have hlt : n < 2 ^ (n.log2 + 1) := Nat.lt_log2_self
  rw [show ((n.log2 : Int) + 1) = (n.log2 + 1 : Nat) from rfl, zpow_natCast, zpow_natCast]
  exact ⟨by exact_mod_cast hle, by exact_mod_cast hlt⟩

/-- The powers of two a quotient lies between. -/
theorem logFloor_bounds {num den : Nat} (hnum : num ≠ 0) (hden : 0 < den) :
    (2 : ℚ) ^ logFloor num den ≤ (num : ℚ) / den ∧ (num : ℚ) / den < 2 ^ (logFloor num den + 1) := by
  obtain ⟨hnlo, hnhi⟩ := cast_log2_bounds hnum
  obtain ⟨hdlo, hdhi⟩ := cast_log2_bounds hden.ne'
  have hd : (0 : ℚ) < den := by exact_mod_cast hden
  rw [le_div_iff₀ hd, div_lt_iff₀ hd]
  have hguess : den * 2 ^ ((num.log2 : Int) - den.log2).toNat ≤ num * 2 ^ (-((num.log2 : Int) - den.log2)).toNat ↔
      (2 : ℚ) ^ ((num.log2 : Int) - den.log2) * den ≤ num := by
    rw [← Nat.cast_le (α := ℚ)]
    push_cast
    rw [two_pow_toNat, ← mul_assoc, mul_le_mul_iff_left₀ (by positivity), mul_comm]
  have hsplit : ∀ a b : Int, (2 : ℚ) ^ a = 2 ^ (a - b) * 2 ^ b := fun a b => by
    rw [← zpow_add₀ two_ne_zero, sub_add_cancel]
  simp only [logFloor]
  split
  · refine ⟨hguess.1 ‹_›, hnhi.trans_le ?_⟩
    rw [hsplit _ den.log2, show (num.log2 : Int) + 1 - den.log2 = num.log2 - den.log2 + 1 by ring]
    exact mul_le_mul_of_nonneg_left hdlo (by positivity)
  · refine ⟨le_trans ?_ hnlo, ?_⟩
    · rw [hsplit num.log2 (den.log2 + 1), show (num.log2 : Int) - (den.log2 + 1) = num.log2 - den.log2 - 1 by ring]
      exact mul_le_mul_of_nonneg_left hdhi.le (by positivity)
    · rw [sub_add_cancel]
      exact not_le.1 fun h => ‹¬ _› (hguess.2 h)

/-- The magnitude of a result, which may be too large for the format. -/
def Fmt.cap (f : Fmt) (rm : RoundMode) (neg : Bool) (m : Nat) : Nat :=
  if f.infBits ≤ m then f.overflow rm neg else m

/-- The quotient in units of the last place, and what remains. -/
theorem Fmt.round_place {num den : Nat} (exp : Int) (hnum : num ≠ 0) (hden : 0 < den) :
    ∃ (u : Int) (q r d : Nat), f.Placed u q ∧ r < d ∧ (num : ℚ) / den * 2 ^ exp = ((q : ℚ) + r / d) * 2 ^ u ∧
      f.round rm neg num den exp =
        f.withSign neg (f.cap rm neg (f.place u (if roundsUp rm neg q r d then q + 1 else q))) := by
  obtain ⟨hlo, hhi⟩ := logFloor_bounds hnum hden
  obtain ⟨u, hu⟩ : ∃ u, max (logFloor num den + exp - f.m) f.minExp = u := ⟨_, rfl⟩
  obtain ⟨n, hn⟩ : ∃ n, num * 2 ^ (exp - u).toNat = n := ⟨_, rfl⟩
  obtain ⟨d, hd⟩ : ∃ d, den * 2 ^ (u - exp).toNat = d := ⟨_, rfl⟩
  have hd0 : 0 < d := hd ▸ Nat.mul_pos hden (Nat.two_pow_pos _)
  have hdq : (0 : ℚ) < d := by exact_mod_cast hd0
  have hquot : (n : ℚ) / d = (num : ℚ) / den * 2 ^ (exp - u) := by
    have hden' : (den : ℚ) ≠ 0 := by exact_mod_cast hden.ne'
    rw [← hn, ← hd]
    push_cast
    rw [two_pow_toNat, neg_sub]
    field_simp
  have hdm : (n : ℚ) = d * (n / d : Nat) + (n % d : Nat) := by exact_mod_cast (Nat.div_add_mod n d).symm
  have hplaced : f.Placed u (n / d) := by
    refine ⟨by omega, (Nat.div_lt_iff_lt_mul hd0).2 ?_, fun hlt => ?_⟩
    · have htop : (n : ℚ) / d < 2 ^ ((f.m + 1 : Nat) : Int) := by
        calc (n : ℚ) / d < 2 ^ (logFloor num den + 1) * 2 ^ (exp - u) := by
              rw [hquot]; exact mul_lt_mul_of_pos_right hhi (by positivity)
          _ = 2 ^ (logFloor num den + 1 + (exp - u)) := (zpow_add₀ two_ne_zero _ _).symm
          _ ≤ _ := zpow_le_zpow_right₀ one_le_two (by omega)
      rw [zpow_natCast, div_lt_iff₀ hdq] at htop
      exact_mod_cast htop
    · by_contra hne
      have hfull : (2 : ℚ) ^ (f.m : Int) ≤ n / d := by
        rw [hquot, show (f.m : Int) = logFloor num den + (exp - u) by omega, zpow_add₀ two_ne_zero]
        exact mul_le_mul_of_nonneg_right hlo (by positivity)
      rw [zpow_natCast, le_div_iff₀ hdq] at hfull
      exact absurd ((Nat.le_div_iff_mul_le hd0).2 (by exact_mod_cast hfull)) (Nat.not_le.2 hlt)
  refine ⟨u, n / d, n % d, d, hplaced, Nat.mod_lt _ hd0, ?_, ?_⟩
  · have hx : (num : ℚ) / den * 2 ^ exp = (n : ℚ) / d * 2 ^ u := by
      rw [hquot, mul_assoc, ← zpow_add₀ two_ne_zero, sub_add_cancel]
    rw [hx, hdm]
    field_simp
  · rw [Fmt.round, if_neg hnum]
    simp only [hu, hn, hd]
    rfl

/-! The two magnitudes that an exact one lies between. -/

/-- `x` lies `r` parts in `d` of the way from magnitude `lo` to the next. -/
structure Fmt.Between (f : Fmt) (x : ℚ) (lo r d : Nat) : Prop where
  lt : r < d
  eq : x = f.mag lo + (r : ℚ) / d * (f.mag (lo + 1) - f.mag lo)

theorem roundsUp_parity {q lo : Nat} (h : q % 2 = lo % 2) (r d : Nat) :
    roundsUp rm neg q r d = roundsUp rm neg lo r d := by
  cases rm <;> simp [roundsUp, h]

theorem Fmt.place_parity (hm : 1 ≤ f.m) (u : Int) (q : Nat) : f.place u q % 2 = q % 2 := by
  obtain ⟨k, hk⟩ : ∃ k, f.m = k + 1 := ⟨f.m - 1, by omega⟩
  unfold Fmt.place
  split
  · rfl
  · rw [hk, Nat.pow_succ, ← Nat.mul_assoc, Nat.mul_add_mod_self_right]
    rw [hk, Nat.pow_succ] at *
    omega

theorem Fmt.infBits_pos (he : 1 ≤ f.e) : 0 < f.infBits :=
  Nat.mul_pos (Nat.sub_pos_of_lt (Nat.one_lt_two_pow (by omega))) (Nat.two_pow_pos _)

/-- Rounding takes one of the two magnitudes around, or overflows (42_float R403). -/
theorem Fmt.round_between (hm : 1 ≤ f.m) (he : 1 ≤ f.e) (num : Nat) {den : Nat} (hden : 0 < den) (exp : Int) :
    ∃ lo r d, f.Between ((num : ℚ) / den * 2 ^ exp) lo r d ∧ f.round rm neg num den exp =
      f.withSign neg (f.cap rm neg (if roundsUp rm neg lo r d then lo + 1 else lo)) := by
  by_cases hnum : num = 0
  · refine ⟨0, 0, 1, ⟨Nat.one_pos, by simp [hnum, Fmt.mag]⟩, ?_⟩
    have hinf := Fmt.infBits_pos he
    have hup : roundsUp rm neg 0 0 1 = false := by cases rm <;> simp [roundsUp]
    rw [Fmt.round, if_pos hnum, hup, if_neg Bool.false_ne_true, Fmt.cap, if_neg (by omega)]
  · obtain ⟨u, q, r, d, hplaced, hr, hx, hround⟩ := Fmt.round_place (rm := rm) (neg := neg) exp hnum hden
    refine ⟨f.place u q, r, d, ⟨hr, ?_⟩, ?_⟩
    · rw [hx, Fmt.mag_place hplaced, Fmt.mag_place_succ hplaced]
      ring
    · rw [hround, apply_ite (f.place u), Fmt.place_succ hplaced, roundsUp_parity (Fmt.place_parity hm u q)]

namespace Fmt.Between

variable {lo r d : Nat}

theorem step_pos (f : Fmt) (lo : Nat) : 0 < f.mag (lo + 1) - f.mag lo :=
  sub_pos.2 (f.mag_strictMono (Nat.lt_succ_self lo))

theorem part (h : f.Between x lo r d) : (0 : ℚ) ≤ r / d ∧ (r : ℚ) / d < 1 := by
  have hd : (0 : ℚ) < d := by exact_mod_cast Nat.zero_lt_of_lt h.lt
  exact ⟨by positivity, (div_lt_one hd).2 (by exact_mod_cast h.lt)⟩

theorem mag_lo_le (h : f.Between x lo r d) : f.mag lo ≤ x := by
  rw [h.eq]
  exact le_add_of_nonneg_right (mul_nonneg h.part.1 (step_pos f lo).le)

theorem lt_mag_succ (h : f.Between x lo r d) : x < f.mag (lo + 1) := by
  have hlt := mul_lt_of_lt_one_left (step_pos f lo) h.part.2
  rw [h.eq]
  linarith

/-- The magnitudes not above `x` are those up to the lower of the two. -/
theorem mag_le_iff (h : f.Between x lo r d) (m : Nat) : f.mag m ≤ x ↔ m ≤ lo := by
  constructor
  · intro hle
    exact Nat.lt_succ_iff.1 (f.mag_strictMono.lt_iff_lt.1 (hle.trans_lt h.lt_mag_succ))
  · intro hle
    exact (f.mag_strictMono.monotone hle).trans h.mag_lo_le

/-- The magnitudes not below `x` are those from the upper of the two, or from the lower one where it is `x`. -/
theorem le_mag_iff (h : f.Between x lo r d) (m : Nat) : x ≤ f.mag m ↔ (if r = 0 then lo else lo + 1) ≤ m := by
  split
  · have hx : x = f.mag lo := by simp [h.eq, *]
    rw [hx, f.mag_strictMono.le_iff_le]
  · have hlt : f.mag lo < x := by
      have hd : (0 : ℚ) < d := by exact_mod_cast Nat.zero_lt_of_lt h.lt
      have hr : (0 : ℚ) < r := by exact_mod_cast Nat.pos_of_ne_zero ‹_›
      rw [h.eq]
      exact lt_add_of_pos_right _ (mul_pos (div_pos hr hd) (step_pos f lo))
    constructor
    · intro hle
      exact f.mag_strictMono.lt_iff_lt.1 (hlt.trans_le hle)
    · intro hle
      exact h.lt_mag_succ.le.trans (f.mag_strictMono.monotone hle)

/-- The closer of the two is the closest of all; with a tie, no other than these two is as close. -/
theorem closest (h : f.Between x lo r d) {c m : Nat} (hc : c = lo ∧ 2 * r ≤ d ∨ c = lo + 1 ∧ d ≤ 2 * r) (hm : m ≠ c) :
    |x - f.mag c| < |x - f.mag m| ∨ |x - f.mag c| = |x - f.mag m| ∧ 2 * r = d ∧ (m = lo ∨ m = lo + 1) := by
  have hd : (0 : ℚ) < d := by exact_mod_cast Nat.zero_lt_of_lt h.lt
  have hstep := step_pos f lo
  have hlo : |x - f.mag lo| = (r : ℚ) / d * (f.mag (lo + 1) - f.mag lo) := by
    rw [abs_of_nonneg (sub_nonneg.2 h.mag_lo_le), h.eq, add_sub_cancel_left]
  have hhi : |x - f.mag (lo + 1)| = (1 - (r : ℚ) / d) * (f.mag (lo + 1) - f.mag lo) := by
    rw [abs_of_nonpos (sub_nonpos.2 h.lt_mag_succ.le), h.eq]
    ring
  have hhalf : ((r : ℚ) / d ≤ 1 - r / d ↔ 2 * r ≤ d) ∧ (1 - (r : ℚ) / d ≤ r / d ↔ d ≤ 2 * r) := by
    constructor
    · rw [← Nat.cast_le (α := ℚ), le_sub_iff_add_le, ← add_div, div_le_one hd, ← two_mul]
      push_cast
      rfl
    · rw [← Nat.cast_le (α := ℚ), sub_le_iff_le_add, ← add_div, one_le_div hd, ← two_mul]
      push_cast
      rfl
  have hle : |x - f.mag c| ≤ |x - f.mag lo| ∧ |x - f.mag c| ≤ |x - f.mag (lo + 1)| := by
    obtain ⟨rfl, hr⟩ | ⟨rfl, hr⟩ := hc
    · rw [hlo, hhi]
      exact ⟨le_rfl, mul_le_mul_of_nonneg_right (hhalf.1.2 hr) hstep.le⟩
    · rw [hlo, hhi]
      exact ⟨mul_le_mul_of_nonneg_right (hhalf.2.2 hr) hstep.le, le_rfl⟩
  have htie : |x - f.mag lo| = |x - f.mag (lo + 1)| → 2 * r = d := fun heq => by
    rw [hlo, hhi] at heq
    have hpart := mul_right_cancel₀ hstep.ne' heq
    exact le_antisymm (hhalf.1.1 hpart.le) (hhalf.2.1 hpart.ge)
  obtain hlt | rfl | rfl | hgt : m < lo ∨ m = lo ∨ m = lo + 1 ∨ lo + 1 < m := by omega
  · refine .inl (hle.1.trans_lt ?_)
    rw [abs_of_nonneg (sub_nonneg.2 h.mag_lo_le)]
    exact (sub_lt_sub_left (f.mag_strictMono hlt) x).trans_le (le_abs_self _)
  · obtain ⟨rfl, -⟩ | ⟨rfl, -⟩ := hc
    · exact absurd rfl hm
    · exact hle.1.lt_or_eq.imp id fun heq => ⟨heq, htie heq.symm, .inl rfl⟩
  · obtain ⟨rfl, -⟩ | ⟨rfl, -⟩ := hc
    · exact hle.2.lt_or_eq.imp id fun heq => ⟨heq, htie heq, .inr rfl⟩
    · exact absurd rfl hm
  · refine .inl (hle.2.trans_lt ?_)
    rw [abs_of_nonpos (sub_nonpos.2 h.lt_mag_succ.le)]
    exact (neg_lt_neg (sub_lt_sub_left (f.mag_strictMono hgt) x)).trans_le (neg_le_abs _)

end Fmt.Between

/-! The modes (42_float R403). -/

/-- Toward zero: the greatest finite magnitude not above `x`. -/
def Fmt.TowardZero (f : Fmt) (x : ℚ) (r : Nat) : Prop :=
  r < f.infBits ∧ ∀ m, m < f.infBits → (f.mag m ≤ x ↔ m ≤ r)

/-- Away from zero: the least finite magnitude not below `x`, or infinity. -/
def Fmt.AwayFromZero (f : Fmt) (x : ℚ) (r : Nat) : Prop :=
  r ≤ f.infBits ∧ ∀ m, m < f.infBits → (x ≤ f.mag m ↔ r ≤ m)

/-- To nearest: no magnitude is closer, and one as close gives way by `tie`. -/
def Fmt.Nearest (f : Fmt) (x : ℚ) (r : Nat) (tie : Nat → Prop) : Prop :=
  r ≤ f.infBits ∧ ∀ m, m ≤ f.infBits → m ≠ r →
    |x - f.mag r| < |x - f.mag m| ∨ |x - f.mag r| = |x - f.mag m| ∧ tie m

section
variable {lo r d : Nat}

theorem Fmt.cap_le (f : Fmt) (rm : RoundMode) (neg : Bool) (m : Nat) : f.cap rm neg m ≤ f.infBits := by
  unfold Fmt.cap
  split
  · exact f.overflow_le rm neg
  · exact Nat.le_of_not_le ‹_›

theorem Fmt.cap_infinity (ho : f.overflow rm neg = f.infBits) (m : Nat) : f.cap rm neg m = min m f.infBits := by
  unfold Fmt.cap
  split
  · rw [ho, Nat.min_eq_right ‹_›]
  · rw [Nat.min_eq_left (Nat.le_of_not_le ‹_›)]

theorem Fmt.cap_towardZero (he : 1 ≤ f.e) (h : f.Between x lo r d) (ho : f.overflow rm neg = f.infBits - 1) :
    f.TowardZero x (f.cap rm neg lo) := by
  have hinf := Fmt.infBits_pos he
  refine ⟨?_, fun m hm => ?_⟩
  · unfold Fmt.cap
    split <;> omega
  · rw [h.mag_le_iff]
    unfold Fmt.cap
    split <;> omega

theorem Fmt.cap_awayFromZero (h : f.Between x lo r d) (ho : f.overflow rm neg = f.infBits) :
    f.AwayFromZero x (f.cap rm neg (if r = 0 then lo else lo + 1)) := by
  refine ⟨f.cap_le _ _ _, fun m hm => ?_⟩
  rw [h.le_mag_iff, Fmt.cap_infinity ho]
  omega

theorem Fmt.cap_nearest (h : f.Between x lo r d) (ho : f.overflow rm neg = f.infBits) {c : Nat}
    (hc : c = lo ∧ 2 * r ≤ d ∨ c = lo + 1 ∧ d ≤ 2 * r) {tie : Nat → Prop}
    (htie : 2 * r = d → lo < f.infBits → ∀ m, m ≠ c → m = lo ∨ m = lo + 1 → tie m) :
    f.Nearest x (f.cap rm neg c) tie := by
  refine ⟨f.cap_le _ _ _, fun m hm hne => ?_⟩
  rw [Fmt.cap_infinity ho] at hne ⊢
  by_cases hlo : lo < f.infBits
  · rw [Nat.min_eq_left (by omega)] at hne ⊢
    exact (h.closest hc hne).imp id fun ⟨heq, h2, hor⟩ => ⟨heq, htie h2 hlo m hne hor⟩
  · rw [Nat.min_eq_right (by omega)] at hne ⊢
    have hbelow := f.mag_strictMono (show m < f.infBits by omega)
    have htop := (h.mag_le_iff f.infBits).2 (by omega)
    rw [abs_of_nonneg (sub_nonneg.2 htop), abs_of_nonneg (by linarith)]
    exact .inl (sub_lt_sub_left hbelow x)

end

/-- What each mode takes of an exact magnitude (42_float R403). -/
def Fmt.Rounds (f : Fmt) (rm : RoundMode) (neg : Bool) (x : ℚ) (r : Nat) : Prop :=
  match rm with
  | .nearestEven => f.Nearest x r fun _ => r % 2 = 0
  | .nearestAway => f.Nearest x r fun m => m < r
  | .towardZero => f.TowardZero x r
  | .up => if neg then f.TowardZero x r else f.AwayFromZero x r
  | .down => if neg then f.AwayFromZero x r else f.TowardZero x r

/-- Rounding in every mode: the case of each mode between the two magnitudes around. -/
theorem Fmt.round_rounds (hm : 1 ≤ f.m) (he : 1 ≤ f.e) (rm : RoundMode) (neg : Bool) (num : Nat) {den : Nat} (hden : 0 < den)
    (exp : Int) : ∃ r, f.round rm neg num den exp = f.withSign neg r ∧ r ≤ f.infBits ∧
      f.Rounds rm neg ((num : ℚ) / den * 2 ^ exp) r := by
  obtain ⟨lo, r, d, h, hround⟩ := Fmt.round_between (rm := rm) (neg := neg) hm he num hden exp
  have hd := h.lt
  refine ⟨_, hround, f.cap_le _ _ _, ?_⟩
  have haway : ∀ {rm neg}, roundsUp rm neg lo r d = (r != 0) → f.overflow rm neg = f.infBits →
      f.AwayFromZero ((num : ℚ) / den * 2 ^ exp) (f.cap rm neg (if roundsUp rm neg lo r d then lo + 1 else lo)) := by
    intro rm neg hup ho
    have hkeep := Fmt.cap_awayFromZero h ho
    rw [hup]
    by_cases h0 : r = 0 <;> simpa [h0] using hkeep
  cases rm with
  | nearestEven =>
    refine Fmt.cap_nearest h rfl ?_ fun htie hlo m hne hor => ?_
    · simp only [roundsUp, Bool.or_eq_true, Bool.and_eq_true, decide_eq_true_eq, beq_iff_eq]
      split <;> omega
    · rw [Fmt.cap_infinity rfl]
      simp only [roundsUp, Bool.or_eq_true, Bool.and_eq_true, decide_eq_true_eq, beq_iff_eq]
      split <;> omega
  | nearestAway =>
    simp only [Fmt.Rounds, roundsUp, decide_eq_true_eq]
    refine Fmt.cap_nearest h rfl ?_ fun htie hlo m hne hor => ?_
    · split <;> omega
    · rw [Fmt.cap_infinity rfl]
      rw [if_pos htie.ge] at hne ⊢
      omega
  | towardZero => exact Fmt.cap_towardZero he h rfl
  | up =>
    cases neg with
    | true => exact Fmt.cap_towardZero he h rfl
    | false => exact haway rfl rfl
  | down =>
    cases neg with
    | true => exact haway rfl rfl
    | false => exact Fmt.cap_towardZero he h rfl

/-! Arithmetic of quad numbers (42_float R404; log 47). -/

/-- The number of a sign, a significand and an exponent. -/
def signedNumber (neg : Bool) (sig : Nat) (exp : Int) : ℚ := (if neg then (-1 : ℚ) else 1) * sig * 2 ^ exp

/-- The significand of a sum in units of the smaller exponent. -/
def sumUnits (m n : Bool) (p q : Nat) (e f : Int) : Int :=
  (if m then -1 else 1) * (p * 2 ^ (e - min e f).toNat : Nat) + (if n then -1 else 1) * (q * 2 ^ (f - min e f).toNat : Nat)

theorem scaled_significand (p : Nat) {e u : Int} (hu : u ≤ e) : (p : ℚ) * 2 ^ (e - u).toNat * 2 ^ u = p * 2 ^ e := by
  rw [mul_assoc, ← zpow_natCast, ← zpow_add₀ two_ne_zero, Int.toNat_of_nonneg (sub_nonneg.2 hu), sub_add_cancel]

theorem sumUnits_eq (m n : Bool) (p q : Nat) (e f : Int) :
    (sumUnits m n p q e f : ℚ) * 2 ^ min e f = signedNumber m p e + signedNumber n q f := by
  have hp := scaled_significand p (min_le_left e f)
  have hq := scaled_significand q (min_le_right e f)
  unfold signedNumber
  rw [mul_assoc, ← hp, mul_assoc _ (q : ℚ), ← hq]
  cases m <;> cases n <;> simp [sumUnits] <;> ring

theorem fAdd_fin (rm : RoundMode) (m n : Bool) (p q : Nat) (e f : Int) :
    fAdd rm (.fin m p e) (.fin n q f) =
      if sumUnits m n p q e f = 0 then some (Fmt.quad.withSign (zeroSign rm m n) 0)
      else some (Fmt.quad.round rm (decide (sumUnits m n p q e f < 0)) (sumUnits m n p q e f).natAbs 1 (min e f)) := rfl

theorem signedNumber_int (z : Int) (e : Int) : signedNumber (decide (z < 0)) z.natAbs e = (z : ℚ) * 2 ^ e := by
  unfold signedNumber
  by_cases hz : z < 0
  · have hcast : ((z.natAbs : Nat) : ℚ) = -(z : ℚ) := by
      rw [Nat.cast_natAbs, abs_of_neg hz, Int.cast_neg]
    simp [hz, hcast]
  · have hcast : ((z.natAbs : Nat) : ℚ) = (z : ℚ) := by rw [Nat.cast_natAbs, abs_of_nonneg (not_lt.1 hz)]
    simp [hz, hcast]

theorem sumUnits_eq_zero_iff (m n : Bool) (p q : Nat) (e f : Int) :
    sumUnits m n p q e f = 0 ↔ signedNumber m p e + signedNumber n q f = 0 := by
  have hpow : (2 : ℚ) ^ min e f ≠ 0 := by positivity
  rw [← sumUnits_eq, mul_eq_zero, or_iff_left hpow, Int.cast_eq_zero]

theorem signedNumber_mul (m n : Bool) (p q : Nat) (e f : Int) :
    signedNumber (m != n) (p * q) (e + f) = signedNumber m p e * signedNumber n q f := by
  unfold signedNumber
  rw [zpow_add₀ two_ne_zero]
  cases m <;> cases n <;> simp <;> ring

/-- Settles O19: rounding by the two magnitudes around (`Fmt.round_rounds`), arithmetic by the case of its operands. -/
theorem floatExactThenRounded : Obligations.FloatExactThenRounded := by
  refine ⟨fun f rm neg num den exp hden hf => ?_, fun rm m n p q e f => ?_⟩
  · have hsize : 1 ≤ f.m ∧ 1 ≤ f.e := by rcases hf with rfl | rfl | rfl | rfl <;> decide
    obtain ⟨r, hround, hle, hmode⟩ := Fmt.round_rounds hsize.1 hsize.2 rm neg num hden exp
    refine ⟨r, hround, ?_, ?_, Fmt.value_mag⟩
    · cases rm <;> exact hmode
    · rintro rfl
      exact f.value_infBits neg
  · refine ⟨fun hne => ?_, fun h0 => ?_, ?_, fun hq => if_neg hq, fun hq hp => ?_, fun hq hp => ?_, fun v => ?_, ?_, rfl, rfl,
      rfl, rfl, rfl, rfl, rfl, rfl⟩
    · refine ⟨_, _, min e f, (signedNumber_int (sumUnits m n p q e f) _).trans (sumUnits_eq m n p q e f), ?_⟩
      rw [fAdd_fin, if_neg fun h => hne ((sumUnits_eq_zero_iff m n p q e f).1 h)]
    · rw [fAdd_fin, if_pos ((sumUnits_eq_zero_iff m n p q e f).2 h0)]
      cases m <;> cases n <;> cases rm <;> rfl
    · exact ⟨_, _, signedNumber_mul m n p q e f, rfl⟩
    · exact (if_pos hq).trans (if_neg hp)
    · exact (if_pos hq).trans (if_pos hp)
    · cases v <;> exact ⟨rfl, rfl, rfl, rfl, rfl, rfl⟩
    · cases m <;> cases n <;> rfl

/-! Numbers of a format are themselves (42_float R401, R405). -/

/-- A magnitude of the format is what every mode takes of it. -/
theorem Fmt.Rounds.eq_of_mag {m r : Nat} (hm : m < f.infBits) (h : f.Rounds rm neg (f.mag m) r) : r = m := by
  have hzero : f.TowardZero (f.mag m) r → r = m := fun ⟨hr, hle⟩ =>
    le_antisymm (f.mag_strictMono.le_iff_le.1 ((hle r hr).2 le_rfl)) ((hle m hm).1 le_rfl)
  have haway : f.AwayFromZero (f.mag m) r → r = m := fun ⟨_, hge⟩ =>
    have hrm : r ≤ m := (hge m hm).1 le_rfl
    le_antisymm hrm (f.mag_strictMono.le_iff_le.1 ((hge r (hrm.trans_lt hm)).2 le_rfl))
  have hnear : ∀ tie, f.Nearest (f.mag m) r tie → r = m := fun tie ⟨_, hclose⟩ => by
    by_contra hne
    have hdist : |f.mag m - f.mag r| ≤ 0 := by
      have hself : |f.mag m - f.mag m| = 0 := by rw [sub_self, abs_zero]
      obtain hlt | ⟨heq, -⟩ := hclose m hm.le (Ne.symm hne)
      · exact (hself ▸ hlt).le
      · exact (heq.trans hself).le
    exact hne (f.mag_strictMono.injective (sub_eq_zero.1 (abs_nonpos_iff.1 hdist))).symm
  cases rm with
  | nearestEven | nearestAway => exact hnear _ h
  | towardZero => exact hzero h
  | up =>
    cases neg with
    | true => exact hzero h
    | false => exact haway h
  | down =>
    cases neg with
    | true => exact haway h
    | false => exact hzero h

theorem Fmt.signBit_eq (f : Fmt) : f.signBit = f.infBits + 2 ^ f.m := by
  have hpos := Nat.two_pow_pos f.e
  rw [Fmt.signBit, Fmt.infBits, Nat.pow_add, ← Nat.add_one_mul, Nat.sub_add_cancel hpos]

/-- The bits of a format are a sign and a magnitude. -/
theorem Fmt.exists_withSign {v : Nat} (hv : v < 2 * f.signBit) : ∃ neg m, m < f.signBit ∧ v = f.withSign neg m := by
  by_cases h : v < f.signBit
  · exact ⟨false, v, h, rfl⟩
  · exact ⟨true, v - f.signBit, by omega, by simp only [Fmt.withSign, if_true]; omega⟩

/-- Bits beyond those of infinity are a NaN's (42_float R402). -/
theorem Fmt.value_nan {m : Nat} (hlo : f.infBits < m) (hhi : m < f.signBit) : f.value (f.withSign neg m) = .nan := by
  have hsig : m - f.infBits < 2 ^ f.m := by rw [f.signBit_eq] at hhi; omega
  have hvalue := Fmt.value_withSign (neg := neg) (Nat.sub_lt (Nat.two_pow_pos f.e) Nat.one_pos) hsig
  rwa [if_pos rfl, if_neg (by omega), show (2 ^ f.e - 1) * 2 ^ f.m + (m - f.infBits) = m by
    unfold Fmt.infBits at *; omega] at hvalue

/-- A finite number of a format rounds to itself. -/
theorem Fmt.convert_finite (hm : 1 ≤ f.m) (he : 1 ≤ f.e) {m : Nat} (h : m < f.infBits) :
    f.convert rm (f.value (f.withSign neg m)) = some (f.withSign neg m) := by
  obtain ⟨sig, e, hvalue, hmag⟩ := Fmt.value_mag (neg := neg) h
  obtain ⟨r, hround, -, hrounds⟩ := Fmt.round_rounds hm he rm neg sig Nat.one_pos e
  rw [Nat.cast_one, div_one, hmag] at hrounds
  rw [hvalue, Fmt.convert, hround, hrounds.eq_of_mag h]

/-- Settles O20: NaN, infinity, and a finite number, which every mode rounds to itself. -/
theorem floatConversionIsExact : Obligations.FloatConversionIsExact := by
  intro f rm v hf hv
  have hsize : 1 ≤ f.m ∧ 1 ≤ f.e := by rcases hf with rfl | rfl | rfl | rfl <;> decide
  obtain ⟨neg, m, hm, rfl⟩ := Fmt.exists_withSign hv
  obtain hlt | rfl | hgt := Nat.lt_trichotomy m f.infBits
  · exact .inr (Fmt.convert_finite hsize.1 hsize.2 hlt)
  · exact .inr (by rw [f.value_infBits]; rfl)
  · have hnan := Fmt.value_nan (neg := neg) hgt hm
    exact .inl ⟨hnan, by rw [hnan]; rfl⟩

end Sys2Proof.Machine

/-! Floating-point arithmetic, compares, sets and the operations on signs and fractions (42_float R403 to R432): instructions
whose results may draw values, the rounding mode in force, and the relation vector. -/

namespace Sys2Proof.Machine

variable {s : State} {x : Ext} {c : Instr} {rt : Reg}

/-! Instructions whose results may draw values. -/

/-- The state with another count of values drawn. -/
def State.drawn (s : State) (d : Nat) : State := { s with draws := d }

@[simp] theorem State.sc_drawn (s : State) (d : Nat) : (s.drawn d).sc = s.sc := rfl
@[simp] theorem State.drawn_drawn (s : State) (d e : Nat) : (s.drawn d).drawn e = s.drawn e := rfl

theorem State.setReg_drawn (s : State) (d : Nat) (r : Reg) (v : Word) : (s.drawn d).setReg r v = (s.setReg r v).drawn d := by
  have hset := s.setReg_leaving s.win d r v
  simp only [State.leaving] at hset
  simpa [State.drawn] using hset

theorem State.withVec_drawn (s : State) (r : Reg) (d : Nat) : s.withVec r (s.vec r) d = s.drawn d := by
  rw [State.withVec, State.setVec_self]
  rfl

theorem finish_setReg_drawn (s : State) (len : Nat) (rt : Reg) (v : Word) (d : Nat) :
    finish len s (.ok .seq ((s.drawn d).setReg rt v)) = .next { s.wrote len rt v with draws := d } := by
  rw [State.setReg_drawn]
  simp [finish, State.drawn, State.wrote, State.passed]

/-- An instruction whose results draw values and do nothing else, after its constant drew some (42_float R404, R405). -/
theorem yields_alu {vec : Bool} {body : State → Acc Flow} {g : Nat → State → Acc Word} {P : Nat → Word → Prop} {d : Nat}
    (hrun : exec c s = runExt x vec body s) (hbody : body s = alu 128 vec rt x.mask g (s.drawn d))
    (hg : ∀ k t, t.params = s.params → ∃ r n, g k t = .ok r (t.drawn n) ∧ P k r) : Yields c s x vec rt P := by
  intro he
  rw [hrun, runExt_enabled he, hbody]
  cases vec with
  | false =>
    obtain ⟨r, n, hr, hp⟩ := hg 0 (s.drawn d) rfl
    simp only [alu, Bool.false_eq_true, if_false, hr, Acc.bind]
    exact ⟨r, n, hp, finish_setReg_drawn _ _ _ _ _⟩
  | true =>
    obtain ⟨t, ht, hl, -⟩ := alu_vec (w := 128) (rt := rt) (m := x.mask) (f := g) (s := s.drawn d)
      (len := extLen x) (P := P) (D := fun _ _ => True) (fun _ => trivial) (fun _ _ _ _ _ => trivial)
      (fun k n v _ _ => by
        obtain ⟨r, n', hr, hp⟩ := hg k ((s.drawn d).withVec rt v n) rfl
        exact ⟨r, n', hr, by rwa [BitVec.setWidth_eq], trivial⟩)
    exact ⟨t, ht, hl⟩

/-- Constants of the postfixes draw values and do nothing else (42_float R405). -/
theorem floatConst_ok (field : BitVec 16) (t : Tail) (s : State) :
    ∃ v d, floatConst field t s = .ok v (s.drawn d) := by
  unfold floatConst
  split
  · obtain ⟨v, d, hv, -⟩ := toQuad_same (p := .h) nofun field.toNat s
    exact ⟨v, d, hv⟩
  · split
    · obtain ⟨v, d, hv, -⟩ := toQuad_same (p := .s) nofun (t.raw.setWidth 32).toNat s
      exact ⟨v, d, hv⟩
    · split
      · obtain ⟨v, d, hv, -⟩ := toQuad_same (p := .d) nofun (t.raw.setWidth 64).toNat s
        exact ⟨v, d, hv⟩
      · exact ⟨t.raw, s.draws, rfl⟩

theorem floatTail_ok (t : Tail) (s : State) :
    ∃ v d, floatTail t s = .ok v (s.drawn d) ∧ (t.hasConst = false → v = none) := by
  unfold floatTail
  split
  · obtain ⟨v, d, hv⟩ := floatConst_ok 0 t s
    exact ⟨some v, d, by rw [hv]; rfl, fun h => absurd h (by simp [*])⟩
  · exact ⟨none, s.draws, rfl, fun _ => rfl⟩

theorem floatB_value (v : Option Word) (vec : Bool) (r : Reg) (on : Bool) (s : State) (k : Nat) :
    (floatB v vec r).value .sign on s 128 k = v.getD ((srcOf vec r).value .sign on s 128 k) := by
  cases v with
  | none => rfl
  | some w => exact BitVec.setWidth_eq w

/-- The register format. -/
theorem yields_flt2 {g : Word → Word → State → Acc Word} {o : F2} {P : Word → Word → Word → Prop} {v : Option Word} {d : Nat}
    (hrun : exec c s = flt2 g o x s) (hv : floatTail x.tail s = .ok v (s.drawn d))
    (hg : ∀ a b t, t.params = s.params → ∃ r n, g a b t = .ok r (t.drawn n) ∧ P a b r) :
    Yields c s x (o.vec != .scalar) o.rt fun k =>
      P ((srcOf (o.vec != .scalar) o.ra).value .sign o.sa s 128 k)
        (v.getD ((srcOf (o.vec == .vv) o.rb).value .sign o.sb s 128 k)) := by
  refine yields_alu hrun (by rw [hv]; rfl) fun k t ht => ?_
  rw [floatB_value]
  exact hg _ _ t ht

/-- The immediate format. -/
theorem yields_fltI {g : Word → Word → State → Acc Word} {o : FI} {P : Word → Word → Word → Prop} {v : Word} {d : Nat}
    (hrun : exec c s = fltI g o x s) (hv : floatConst o.imm x.tail s = .ok v (s.drawn d))
    (hg : ∀ a b t, t.params = s.params → ∃ r n, g a b t = .ok r (t.drawn n) ∧ P a b r) :
    Yields c s x o.vec o.rt fun k => P ((srcOf o.vec o.ra).value .sign o.sa s 128 k) v :=
  yields_alu hrun (by rw [hv]; rfl) fun _ t ht => hg _ _ t ht

/-- The format of one operand. -/
theorem computes_flt1 {f : Word → Word} {o : F1} (hrun : exec c s = flt1 f o x s) :
    Computes c s x (o.vec != .scalar) 128 o.rt fun k =>
      decorate .sign o.st (f ((srcOf (o.vec != .scalar) o.ra).value .sign o.sa s 128 k)) :=
  computes_alu (hrun.trans (runExt_congr rfl)) fun _ _ _ => rfl

/-! Results (42_float R404, R406). -/

theorem Fmt.value_eq_nan_iff (f : Fmt) (v : Nat) :
    f.value v = .nan ↔ v / 2 ^ f.m % 2 ^ f.e = 2 ^ f.e - 1 ∧ v % 2 ^ f.m ≠ 0 := by
  simp only [Fmt.value]
  split
  · split <;> simp [*]
  · rename_i h
    simp only [h, false_and, iff_false]
    split <;> exact nofun

/-- NaNs are the values of a full exponent field and a fraction (42_float R402). -/
theorem quadVal_eq_nan_iff (v : Word) :
    quadVal v = .nan ↔ v.extractLsb' 112 15 = BitVec.allOnes 15 ∧ v.extractLsb' 0 112 ≠ 0 := by
  rw [quadVal, Fmt.value_eq_nan_iff, ← BitVec.toNat_inj, Ne, Ne, ← BitVec.toNat_inj (n := 112), BitVec.extractLsb'_toNat,
    BitVec.extractLsb'_toNat, Nat.shiftRight_eq_div_pow]
  exact Iff.rfl

/-- The sign of a NaN does not count. -/
theorem quadVal_sign_nan {v : Word} (h : quadVal v = .nan) (on : Bool) : quadVal (decorate .sign on v) = .nan := by
  have hmask : (BitVec.twoPow 128 127).extractLsb' 112 15 = 0 ∧ (BitVec.twoPow 128 127).extractLsb' 0 112 = 0 := by decide
  rw [quadVal_eq_nan_iff] at h ⊢
  cases on with
  | false => exact h
  | true => simpa [decorate, BitVec.extractLsb'_xor, hmask] using h

theorem getLsbD_sign (on : Bool) (v : Word) {i : Nat} (hi : i ≠ 127) : (decorate .sign on v).getLsbD i = v.getLsbD i := by
  cases on with
  | false => rfl
  | true => simp [decorate, BitVec.getLsbD_xor, BitVec.getLsbD_twoPow, Ne.symm hi]

/-- What is drawn for a NaN is quiet (log 8). -/
theorem getLsbD_quietNan (bits : Nat) : (BitVec.ofNat 128 (Fmt.quad.quietNan bits)).getLsbD 111 = true := by
  have hdraw : bits % 2 ^ 111 < 2 ^ 111 := Nat.mod_lt _ (Nat.two_pow_pos _)
  obtain ⟨neg, hneg⟩ : ∃ neg, decide (bits / Fmt.quad.signBit % 2 = 1) = neg := ⟨_, rfl⟩
  have hquiet : Fmt.quad.quietNan bits = neg.toNat * 2 ^ 127 + ((2 ^ 15 - 1) * 2 ^ 112 + 2 ^ 111 + bits % 2 ^ 111) := by
    rw [Fmt.quietNan, hneg]
    cases neg with
    | false => exact (Nat.zero_add _).symm
    | true => rfl
  rw [BitVec.getLsbD_ofNat, hquiet, Nat.testBit_eq_decide_div_mod_eq]
  simp only [Bool.and_eq_true, decide_eq_true_eq]
  omega

/-- The result of an operation under St: that of IEEE arithmetic, where it gives none a quiet NaN, or another FP's own
(42_float R404, R406; log 8, 58). -/
def FpResult (p : Params) (st : Bool) (op : FpOp) (f : RoundMode → FVal → FVal → Option Nat) (rm : RoundMode)
    (a b r : Word) : Prop :=
  if p.fp = .other then r = decorate .sign st (Config.fpResult op rm a b) else
    match f rm (quadVal a) (quadVal b) with
    | some v => r = decorate .sign st (.ofNat 128 v)
    | none => quadVal r = .nan ∧ r.getLsbD 111 = true

theorem fltOp_result (st : Bool) (op : FpOp) (rm : RoundMode) (a b : Word) {t : State} (ht : t.params = s.params) :
    ∃ r n, fltOp st op rm a b t = .ok r (t.drawn n) ∧ FpResult s.params st op (ieee op) rm a b r := by
  rw [← ht]
  unfold fltOp oracle FpResult
  cases t.params.fp with
  | other => exact ⟨_, t.draws, rfl, rfl⟩
  | ieee =>
    cases hv : ieee op rm (quadVal a) (quadVal b) with
    | some v => exact ⟨_, t.draws, rfl, rfl⟩
    | none =>
      obtain ⟨hnan, hlt⟩ := Fmt.value_quietNan (f := .quad) (by decide) (Config.nanBits t.draws).toNat
      refine ⟨_, t.draws + 1, rfl, quadVal_sign_nan ((quadVal_ofNat hlt).trans hnan) st, ?_⟩
      rw [getLsbD_sign _ _ (by decide)]
      exact getLsbD_quietNan _

/-! The rounding mode in force (42_float R403; 49_modifiers R720; log 46). -/

theorem State.roundMode_closed (h : s.win.round = none) (own : RoundMode) : s.roundMode own = own := by
  simp only [State.roundMode, h]

theorem State.roundMode_open {w : Window} (h : s.win.round = some w) {code : BitVec 3}
    (hcode : w.mask.toNat / 2 ^ (3 * w.pos.toNat) % 8 = code.toNat) (own : RoundMode) :
    s.roundMode own = (roundCode code).getD own := by
  have hfield : w.mask.extractLsb' (3 * w.pos.toNat) 3 = code := by
    rw [← BitVec.toNat_inj, BitVec.extractLsb'_toNat, Nat.shiftRight_eq_div_pow]
    exact hcode
  simp only [State.roundMode, h, hfield]

/-- Settles O18: the operations by what they give (`fltOp_result`), the mode in force by the code of the window. -/
theorem floatArithmetic : Obligations.FloatArithmetic := by
  constructor
  · intro o i x s sign is rm
    constructor
    · obtain ⟨v, d, hv, hnone⟩ := floatTail_ok x.tail s
      refine ⟨v, _, hv, hnone, ?_⟩
      intro a b r2
      have hop {c : Instr} (op : FpOp) (sb : Bool)
          (hc : exec c s = flt2 (fltOp o.st op rm) { o with sb := sb } x s) :
          r2 c fun k => FpResult s.params o.st op (ieee op) rm (a k) (b sb k) :=
        yields_flt2 (o := { o with sb := sb }) hc hv fun a b _ => fltOp_result o.st op rm a b
      exact ⟨hop .add false (exec_fadd o x s), hop .add true (exec_fsub o x s), hop .mul o.sb (exec_fmul o x s),
        hop .div o.sb (exec_fdiv o x s)⟩
    · obtain ⟨v, d, hv⟩ := floatConst_ok i.imm x.tail s
      refine ⟨v, _, hv, ?_⟩
      intro a
      have hop {c : Instr} (op : FpOp) (hc : exec c s = fltI (fltOp i.st op s.rmImm) i x s) :
          Yields c s x i.vec i.rt fun k => FpResult s.params i.st op (ieee op) s.rmImm (a k) v :=
        yields_fltI hc hv fun a b _ => fltOp_result i.st op s.rmImm a b
      refine ⟨hop .add (exec_faddi i x s), hop .mul (exec_fmuli i x s), ?_⟩
      refine yields_fltI (P := fun a b => if i.st then FpResult s.params false .div fDiv s.rmImm b a else
        FpResult s.params false .div fDiv s.rmImm a b) (exec_fdivi i x s) hv fun a b t ht => ?_
      cases i.st with
      | true => exact fltOp_result false .div s.rmImm b a ht
      | false => exact fltOp_result false .div s.rmImm a b ht
  · intro s field own
    have hown : (∀ rm, s.roundMode rm = rm) → own := fun h =>
      ⟨fun f => (h _).trans (by cases f <;> rfl), h _, h⟩
    refine ⟨fun h => hown (State.roundMode_closed h), fun w h => ?_⟩
    intro code is
    have hcode : ∀ (n : BitVec 3) rm, roundCode n = some rm → is n.toNat rm := fun n rm hn hc =>
      have hmode : ∀ r, s.roundMode r = rm := fun r => (State.roundMode_open h hc r).trans (by rw [hn]; rfl)
      ⟨fun f => hmode _, hmode _, hmode⟩
    exact ⟨hcode 0 _ rfl, hcode 1 _ rfl, hcode 2 _ rfl, hcode 3 _ rfl, hcode 4 _ rfl,
      fun hc => hown (State.roundMode_open h (code := 7) hc)⟩

end Sys2Proof.Machine

/-! Floating-point compares and sets (42_float R412 to R422): the order of quad numbers, the bits of the relation vector, and
the instructions that write it or one of its bits. -/

namespace Sys2Proof.Machine

variable {s : State} {x : Ext} {c : Instr}

/-! The order of quad numbers that are no NaNs. -/

/-- The bits without sign. -/
def quadMag (v : Word) : BitVec 127 := v.extractLsb' 0 127

/-- `u` is less than `v`, by the signs and the bits without sign; zeros are equal. -/
def QuadLess (u v : Word) : Prop :=
  ¬ (quadMag u = 0 ∧ quadMag v = 0) ∧
    if u.msb then ¬ v.msb ∨ (quadMag v).toNat < (quadMag u).toNat
    else ¬ v.msb ∧ (quadMag u).toNat < (quadMag v).toNat

theorem order_eq_ite (v : Word) :
    order v = if v.msb then -((quadMag v).toNat : Int) else (quadMag v).toNat := rfl

theorem quadMag_eq_zero_iff (v : Word) : quadMag v = 0 ↔ (quadMag v).toNat = 0 := by rw [← BitVec.toNat_inj]; rfl

theorem order_lt_iff (u v : Word) : order u < order v ↔ QuadLess u v := by
  rw [QuadLess, order_eq_ite, order_eq_ite, quadMag_eq_zero_iff, quadMag_eq_zero_iff]
  cases u.msb <;> cases v.msb <;> simp <;> omega

/-- A quad number is its sign and its bits without sign. -/
theorem toNat_eq_sign_add_mag (v : Word) : v.toNat = (if v.msb then 2 ^ 127 else 0) + (quadMag v).toNat := by
  have hmag : (quadMag v).toNat = v.toNat % 2 ^ 127 := BitVec.extractLsb'_toNat 0 127 v
  have hlt := v.isLt
  rw [hmag, BitVec.msb_eq_decide]
  simp only [decide_eq_true_eq]
  split <;> omega

theorem order_eq_iff (u v : Word) : order u = order v ↔ u = v ∨ quadMag u = 0 ∧ quadMag v = 0 := by
  rw [← BitVec.toNat_inj, toNat_eq_sign_add_mag u, toNat_eq_sign_add_mag v, order_eq_ite, order_eq_ite,
    quadMag_eq_zero_iff, quadMag_eq_zero_iff]
  have hu := (quadMag u).isLt
  have hv := (quadMag v).isLt
  cases u.msb <;> cases v.msb <;> simp <;> omega

/-! The relation vector (42_float R412). -/

/-- The vector of four relations: unordered, equal, less, greater. -/
def relVector (un eq lt gt : Bool) : BitVec 16 :=
  flagBit 0 eq ||| flagBit 1 (!eq) ||| flagBit 2 gt ||| flagBit 3 (un || gt) ||| flagBit 4 (gt || eq) |||
    flagBit 5 (un || gt || eq) ||| flagBit 6 lt ||| flagBit 7 (un || lt) ||| flagBit 8 (lt || eq) |||
    flagBit 9 (un || lt || eq) ||| flagBit 10 (!un && !eq) ||| flagBit 11 (un || !eq) ||| flagBit 12 (!un) |||
    flagBit 13 un

theorem frel_nan {a b : Word} (h : quadVal a = .nan ∨ quadVal b = .nan) : frel a b = 0b10101010101010 := by
  have hun : (isNan a || isNan b) = true := by simpa [isNan] using h
  have hrel : frel a b = relVector true false false false := by
    unfold frel relVector
    rw [hun]
    rfl
  rw [hrel]
  decide

theorem frel_ordered {a b : Word} (h : ¬ (quadVal a = .nan ∨ quadVal b = .nan)) :
    frel a b = relVector false (order a == order b) (decide (order a < order b)) (decide (order b < order a)) := by
  have hun : (isNan a || isNan b) = false := by simpa [isNan] using h
  unfold frel relVector
  rw [hun]
  rfl

/-- The bits of the vector of ordered numbers. -/
theorem getLsbD_relVector : ∀ eq lt gt : Bool, (relVector false eq lt gt).getLsbD 0 = eq ∧
    (relVector false eq lt gt).getLsbD 1 = !eq ∧ (relVector false eq lt gt).getLsbD 2 = gt ∧
    (relVector false eq lt gt).getLsbD 3 = gt ∧ (relVector false eq lt gt).getLsbD 4 = (gt || eq) ∧
    (relVector false eq lt gt).getLsbD 5 = (gt || eq) ∧ (relVector false eq lt gt).getLsbD 6 = lt ∧
    (relVector false eq lt gt).getLsbD 7 = lt ∧ (relVector false eq lt gt).getLsbD 8 = (lt || eq) ∧
    (relVector false eq lt gt).getLsbD 9 = (lt || eq) ∧ (relVector false eq lt gt).getLsbD 10 = !eq ∧
    (relVector false eq lt gt).getLsbD 11 = !eq ∧ (relVector false eq lt gt).getLsbD 12 = true ∧
    (relVector false eq lt gt).getLsbD 13 = false ∧ (relVector false eq lt gt).getLsbD 14 = false ∧
    (relVector false eq lt gt).getLsbD 15 = false := by decide

/-! The instructions. -/

/-- A result that draws no value. -/
theorem yields_flt2_eq {f : Word → Word → Word} {o : F2} {v : Option Word} {d : Nat}
    (hrun : exec c s = flt2 (fun a b t => .ok (f a b) t) o x s) (hv : floatTail x.tail s = .ok v (s.drawn d)) :
    Yields c s x (o.vec != .scalar) o.rt fun k r =>
      r = f ((srcOf (o.vec != .scalar) o.ra).value .sign o.sa s 128 k)
        (v.getD ((srcOf (o.vec == .vv) o.rb).value .sign o.sb s 128 k)) :=
  yields_flt2 (P := fun a b r => r = f a b) hrun hv fun _ _ t _ => ⟨_, t.draws, rfl, rfl⟩

theorem decorate_flip_boolVal (inv bit : Bool) :
    decorate .flip inv (boolVal 128 bit) = if bit = inv then 0 else 1 := by
  revert inv bit
  decide

/-- Settles O21: each instruction by the function it writes, each bit by the order of the operands. -/
theorem floatComparesSetsAndTheirBits : Obligations.FloatComparesSetsAndTheirBits := by
  constructor
  · intro o i x s
    constructor
    · obtain ⟨v, d, hv, hnone⟩ := floatTail_ok x.tail s
      refine ⟨v, _, hv, hnone, ?_⟩
      intro rel set
      have hset {c : Instr} (st : Bool) (bit : Nat) (hc : exec c s = fltSet bit { o with st := st } x s) :
          set c st bit := by
        have hyields := yields_flt2_eq (o := { o with st := st }) hc hv
        simp only [decorate_flip_boolVal] at hyields
        exact hyields
      exact ⟨yields_flt2_eq (exec_fcmp o x s) hv, hset false 0 (exec_fseq o x s), hset true 0 (exec_fsne o x s),
        hset o.st 8 (exec_fsle o x s), hset o.st 6 (exec_fslt o x s), hset o.st 4 (exec_fsge o x s),
        hset o.st 2 (exec_fsgt o x s)⟩
    · obtain ⟨v, d, hv⟩ := floatConst_ok i.imm x.tail s
      exact ⟨v, _, hv, yields_fltI (P := fun a b r => r = (if i.st then frel b a else frel a b).setWidth 128)
        (exec_fcmpi i x s) hv fun _ _ t _ => ⟨_, t.draws, rfl, rfl⟩⟩
  · intro a b nan zero less eq
    refine ⟨frel_nan, fun h => ?_⟩
    have heq : (order a == order b) = true ↔ eq := by rw [beq_iff_eq]; exact order_eq_iff a b
    have hlt : decide (order a < order b) = true ↔ less a b := by rw [decide_eq_true_eq]; exact order_lt_iff a b
    have hgt : decide (order b < order a) = true ↔ less b a := by rw [decide_eq_true_eq]; exact order_lt_iff b a
    have hge : (decide (order b < order a) || (order a == order b)) = true ↔ ¬ less a b := by
      rw [← hlt, Bool.or_eq_true, beq_iff_eq, decide_eq_true_eq, decide_eq_true_eq]
      omega
    have hle : (decide (order a < order b) || (order a == order b)) = true ↔ ¬ less b a := by
      rw [← hgt, Bool.or_eq_true, beq_iff_eq, decide_eq_true_eq, decide_eq_true_eq]
      omega
    have hne : (!(order a == order b)) = true ↔ ¬ eq := by rw [← heq, Bool.not_eq_true', Bool.not_eq_true]
    rw [frel_ordered h]
    obtain ⟨h0, h1, h2, h3, h4, h5, h6, h7, h8, h9, h10, h11, h12, h13, h14, h15⟩ :=
      getLsbD_relVector (order a == order b) (decide (order a < order b)) (decide (order b < order a))
    rw [h0, h1, h2, h3, h4, h5, h6, h7, h8, h9, h10, h11]
    exact ⟨heq, hne, hgt, hgt, hge, hge, hlt, hlt, hle, hle, hne, hne, h12, h13, h14, h15⟩

end Sys2Proof.Machine

/-! Signs, fractions, scaling and ORF (42_float R410, R426 to R428, R430, R431). -/

namespace Sys2Proof.Machine

variable {s : State} {x : Ext} {c : Instr}

/-- The bits FTRUNC keeps: below one only the sign, else those the exponent puts at or above one (42_float R430). -/
theorem getLsbD_truncFraction (a : Word) {j : Nat} (hj : j < 128) : (truncFraction a).getLsbD j =
    let ex := (a.extractLsb' 112 15).toNat
    if ex < 16383 then decide (j = 127) && a.getLsbD j
    else if j < 112 - (ex - 16383) then false else a.getLsbD j := by
  unfold truncFraction
  generalize (a.extractLsb' 112 15).toNat = ex
  simp only
  by_cases hsmall : ex < 16383
  · rw [if_pos hsmall, if_pos hsmall, BitVec.getLsbD_and, BitVec.getLsbD_twoPow]
    simp [Bool.and_comm, eq_comm]
  · rw [if_neg hsmall, if_neg hsmall]
    by_cases hwhole : 16383 + 112 ≤ ex
    · rw [if_pos hwhole, if_neg (by omega)]
    · rw [if_neg hwhole, BitVec.getLsbD_and, BitVec.getLsbD_not, BitVec.getLsbD_ushiftRight, BitVec.getLsbD_allOnes]
      by_cases hlow : j < 112 - (ex - 16383)
      · simp [hlow, hj, show 16 + (ex - 16383) + j < 128 by omega]
      · simp [hlow, hj, show ¬ 16 + (ex - 16383) + j < 128 by omega]

/-- Scaling by a power of two, put through one rounding (42_float R427; log 46). -/
def Scaled (rm : RoundMode) (v : Word) (n : Int) (r : Word) : Prop :=
  match quadVal v with
  | .fin neg sig e => if sig = 0 then r = v else
      let rounded := fun rm => Fmt.quad.round rm neg sig 1 (e + max (-40000) (min 40000 n))
      let inf := Fmt.quad.withSign neg Fmt.quad.infBits
      r = .ofNat 128 (if rounded .nearestEven = inf then inf else rounded rm)
  | _ => r = v

theorem scaled_scaleB (rm : RoundMode) (v : Word) (n : Int) : Scaled rm v n (scaleB rm v n) := by
  unfold Scaled scaleB
  cases quadVal v with
  | nan | inf => rfl
  | fin neg sig e =>
    by_cases h0 : sig = 0
    · simp only [if_pos h0]
    · simp only [if_neg h0]
      generalize Fmt.quad.withSign neg Fmt.quad.infBits = inf
      split
      · simp only [*]
      · rfl

/-- Settles O22: each instruction by the function it computes, FTRUNC's by its bits. -/
theorem floatSignFractionScaleAndOr : Obligations.FloatSignFractionScaleAndOr := by
  intro o p q i x s sign a one scaled
  have hone {c : Instr} (f : Word → Word) (hc : exec c s = flt1 f o x s) : one c fun k => f (a k) := computes_flt1 hc
  have hscaled {c : Instr} {vec st : Bool} {rt : Reg} (v : Nat → Word) (n : Nat → Int)
      (hc : exec c s = runExt x vec (fun t => alu 128 vec rt x.mask
        (fun k u => .ok (decorate .sign st (scaleB (s.roundMode .nearestEven) (v k) (n k))) u) t) s) :
      ∃ f : Nat → Word, (∀ k, scaled (v k) (n k) (f k)) ∧ Computes c s x vec 128 rt fun k => sign st (f k) :=
    ⟨_, fun k => scaled_scaleB (s.roundMode .nearestEven) (v k) (n k), computes_alu hc fun _ _ _ => rfl⟩
  refine ⟨hone (· &&& ~~~BitVec.twoPow 128 127) (exec_fabs o x s),
    hone (· ^^^ BitVec.twoPow 128 127) (exec_fneg o x s),
    ⟨fun k => truncFraction (a k), fun k j hj => getLsbD_truncFraction (a k) hj, hone truncFraction (exec_ftrunc o x s)⟩,
    hscaled _ _ ((exec_fscaleb p x s).trans (runExt_congr rfl)),
    hscaled _ _ ((exec_fscalebImm q x s).trans (runExt_congr rfl)), ?_⟩
  obtain ⟨v, d, hv⟩ := floatConst_ok (i.imm.setWidth 16) x.tail s
  exact ⟨v, _, hv, yields_alu (exec_orf i x s) (by rw [hv]; rfl) fun _ t _ => ⟨_, t.draws, rfl, rfl⟩⟩

end Sys2Proof.Machine

/-! FLOAD and FSTORE of one register and of a REGS list (47_memory_ops R584, R596, R606): the transfers one after the other, each
`n` bytes beyond the last, and what the whole list loads or stores. -/

namespace Sys2Proof.Machine

variable {s t u : State} {x : Ext} {c : Instr} {rt rc : Reg} {a : Addr} {n : Nat} {p : Prec}

/-! The registers of a list. -/

theorem regsList_length_le (l : Tail) : (regsList l).length ≤ 64 := by
  unfold regsList
  split
  · rw [List.length_map]
    exact (List.length_filter_le _ _).trans_eq List.length_range
  · exact Nat.zero_le _

/-- No bit of a REGS list names r53 (30_encoding R236). -/
theorem canary_notMem_regsList (l : Tail) : Tgt.reg 53 ∉ regsList l := by
  have hbit : ∀ i, i < 64 → regsBit i ≠ .reg 53 := by decide
  unfold regsList
  split
  · simp only [List.mem_map, List.mem_filter, List.mem_range]
    rintro ⟨i, ⟨hi, -⟩, he⟩
    exact hbit i hi he
  · exact List.not_mem_nil

/-- A value written to a register of a list. -/
def Tgt.put (g : Tgt) (v : Word) (s : State) : State :=
  match g with
  | .reg r => s.setReg r v
  | .bank m => s.setBank m v

theorem Tgt.put_keeps (g : Tgt) (v : Word) (s : State) :
    (g.put v s).params = s.params ∧ (g.put v s).mem = s.mem ∧ (g.put v s).pc = s.pc := by
  cases g <;> simp [Tgt.put]

theorem Tgt.put_drawn (g : Tgt) (v : Word) (s : State) (d : Nat) :
    g.put v (s.drawn d) = (g.put v s).drawn d := by
  cases g with
  | reg r => exact s.setReg_drawn d r v
  | bank m =>
    obtain rfl | rfl | rfl | rfl := mode_cases m
    all_goals rfl

/-- The values `rs` written to the registers of a list, in order. -/
def State.loaded (s : State) (ts : List Tgt) (rs : Nat → Word) : State :=
  ts.zipIdx.foldl (fun t g => g.1.put (rs g.2) t) s

theorem State.loaded_cons (s : State) (g : Tgt) (ts : List Tgt) (rs : Nat → Word) :
    s.loaded (g :: ts) rs = (g.put (rs 0) s).loaded ts fun k => rs (k + 1) := by
  simp only [State.loaded, List.zipIdx_cons', List.foldl_cons, List.foldl_map]
  rfl

theorem State.loaded_drawn (ts : List Tgt) (rs : Nat → Word) (s : State) (d : Nat) :
    (s.drawn d).loaded ts rs = (s.loaded ts rs).drawn d := by
  induction ts generalizing s rs with
  | nil => rfl
  | cons g ts ih => rw [State.loaded_cons, State.loaded_cons, Tgt.put_drawn, ih]

theorem State.pc_loaded (ts : List Tgt) (rs : Nat → Word) (s : State) : (s.loaded ts rs).pc = s.pc := by
  induction ts generalizing s rs with
  | nil => rfl
  | cons g ts ih =>
    obtain ⟨-, -, hpc⟩ := g.put_keeps (rs 0) s
    rw [State.loaded_cons, ih, hpc]

theorem State.setIndex_drawn (s : State) (d : Nat) (rc : Reg) (upd : Option Word) :
    (s.drawn d).setIndex rc upd = (s.setIndex rc upd).drawn d := by
  cases upd with
  | none => rfl
  | some v => exact s.setReg_drawn d rc v

theorem State.pc_setIndex (s : State) (rc : Reg) (upd : Option Word) : (s.setIndex rc upd).pc = s.pc := by
  cases upd with
  | none => rfl
  | some v => exact s.pc_setReg rc v

/-- A sequence with one more value before it. -/
def before {α : Type} (v : α) (rs : Nat → α) : Nat → α
  | 0 => v
  | k + 1 => rs k

/-! Loads. -/

/-- A load of `n` bytes of memory gives a value that `P` names of them, and does nothing else but draw values. -/
def Gives (get : Get) (n : Nat) (P : Nat → Word → Prop) : Prop :=
  ∀ a t, t.ram a n → ∃ r d, get a t = .ok r (t.drawn d) ∧ P (t.data a n) r

theorem loadTo_put {g : Tgt} (hg : g ≠ .reg 53) (v : Word) (s : State) : loadTo g v s = .ok () (g.put v s) := by
  cases g with
  | reg r => exact if_neg fun h => hg (congrArg Tgt.reg h)
  | bank m => rfl

/-- A value loaded to r53 is only compared with the stack canary (47_memory_ops R590). -/
theorem loadTo_reg (rt : Reg) (v : Word) (s : State) : loadTo (.reg rt) v s =
    if rt = 53 ∧ v ≠ s.sc then .trap ⟨11, none⟩ s else .ok () (if rt = 53 then s else s.setReg rt v) := by
  by_cases h53 : rt = 53
  · subst h53
    by_cases hsc : v = s.sc <;> simp [loadTo, hsc]
  · rw [loadTo, if_neg h53, if_neg h53, if_neg fun h => h53 h.1]

/-- The values of the transfers: the first, and those beyond it, loaded after it changed registers. -/
theorem loaded_values {P : Nat → Word → Prop} {m : Nat} {r : Word} {rs : Nat → Word} (ht : t.mem = s.mem)
    (hr : P (s.data a n) r) (hrs : ∀ k, k < m → P (t.data (a + .ofNat 64 n + .ofNat 64 (k * n)) n) (rs k)) :
    ∀ k, k < m + 1 → P (s.data (a + .ofNat 64 (k * n)) n) (before r rs k) := by
  intro k hk
  cases k with
  | zero =>
    rw [Nat.zero_mul, BitVec.add_zero]
    exact hr
  | succ k =>
    have hk := hrs k (Nat.lt_of_succ_lt_succ hk)
    rwa [State.data_mem ht, add_ofNat_add_ofNat, Nat.add_comm n, ← Nat.succ_mul] at hk

theorem loadMany_ram {get : Get} {P : Nat → Word → Prop} (hget : Gives get n P) (ts : List Tgt) (hts : Tgt.reg 53 ∉ ts)
    (a : Addr) (s : State) (hram : s.ram a (n * ts.length)) :
    ∃ (rs : Nat → Word) (d : Nat), (∀ k, k < ts.length → P (s.data (a + .ofNat 64 (k * n)) n) (rs k)) ∧
      loadMany n get ts a s = .ok () ((s.loaded ts rs).drawn d) := by
  induction ts generalizing a s with
  | nil => exact ⟨fun _ => 0, s.draws, fun _ h => absurd h (Nat.not_lt_zero _), rfl⟩
  | cons g ts ih =>
    rw [List.mem_cons, not_or] at hts
    rw [List.length_cons, Nat.mul_succ, Nat.add_comm] at hram
    obtain ⟨r, d, hr, hp⟩ := hget a s (State.ram_mono hram (Nat.le_add_right _ _))
    obtain ⟨hparams, hmem, -⟩ := g.put_keeps r s
    have hrest : ((g.put r s).drawn d).ram (a + .ofNat 64 n) (n * ts.length) := by
      have hadd := State.ram_add hram
      exact State.ram_params hparams hadd
    obtain ⟨rs, d', hrs, hload⟩ := ih hts.2 _ _ hrest
    refine ⟨before r rs, d', loaded_values (t := (g.put r s).drawn d) hmem hp hrs, ?_⟩
    simp only [loadMany, hr, Acc.bind, loadTo_put (Ne.symm hts.1), Tgt.put_drawn, hload]
    rw [State.loaded_cons, State.loaded_drawn]
    rfl

/-- A scalar load with the registers of a list after it, none of which is r53 (47_memory_ops R584, R590; 30_encoding R236). -/
theorem loadScalar_ram {get : Get} {P : Nat → Word → Prop} (hget : Gives get n P) (rt : Reg) (l : Tail) (a : Addr) (s : State)
    (hram : s.ram a (n * (1 + (regsList l).length))) :
    ∃ (rs : Nat → Word) (d e : Nat), (∀ k, k ≤ (regsList l).length → P (s.data (a + .ofNat 64 (k * n)) n) (rs k)) ∧
      loadScalar n get rt l a s = if rt = 53 ∧ rs 0 ≠ s.sc then .trap ⟨11, none⟩ (s.drawn e) else
        .ok .seq (((if rt = 53 then s else s.setReg rt (rs 0)).loaded (regsList l) fun k => rs (k + 1)).drawn d) := by
  rw [Nat.mul_add, Nat.mul_one] at hram
  obtain ⟨r, e, hr, hp⟩ := hget a s (State.ram_mono hram (Nat.le_add_right _ _))
  obtain ⟨first, hfirst⟩ : ∃ first, (if rt = 53 then s else s.setReg rt r) = first := ⟨_, rfl⟩
  have hkeeps : first.params = s.params ∧ first.mem = s.mem := by
    rw [← hfirst]
    split <;> simp
  have hdrawn : (if rt = 53 then s.drawn e else (s.drawn e).setReg rt r) = first.drawn e := by
    rw [← hfirst, State.setReg_drawn]
    split <;> rfl
  have hrest : (first.drawn e).ram (a + .ofNat 64 n) (n * (regsList l).length) := by
    have hadd := State.ram_add hram
    exact State.ram_params hkeeps.1 hadd
  obtain ⟨rs, d, hrs, hload⟩ := loadMany_ram hget (regsList l) (canary_notMem_regsList l) _ _ hrest
  have hvalues := loaded_values (t := first.drawn e) (s := s) hkeeps.2 hp hrs
  rw [State.loaded_drawn, State.drawn_drawn] at hload
  refine ⟨before r rs, d, e, fun k hk => hvalues k (Nat.lt_succ_of_le hk), ?_⟩
  simp only [loadScalar, loadMany, hr, Acc.bind, loadTo_reg, hdrawn, before, hfirst, State.sc_drawn]
  by_cases hcanary : rt = 53 ∧ r ≠ s.sc
  · simp only [if_pos hcanary]
    rfl
  · simp only [if_neg hcanary, hload]
    rfl

/-- The end of a load: the registers written, then the index; or the exception of the canary, the index kept (47_memory_ops
R585, R590; log 30). -/
theorem finish_loaded {r : Acc Flow} {len d e : Nat} {v : Word} {index : State → State}
    (hr : r = if rt = 53 ∧ v ≠ s.sc then .trap ⟨11, none⟩ (s.drawn e) else .ok .seq (u.drawn d)) (hu : u.pc = s.pc)
    (hindex : ∀ t d, index (t.drawn d) = (index t).drawn d) (hpc : ∀ t, (index t).pc = t.pc) :
    (rt ≠ 53 ∨ v = s.sc →
      finish len s (r.bind fun f t => .ok f (index t)) = .next { (index u).passed len with draws := d }) ∧
    (rt = 53 → v ≠ s.sc → ∀ a, s.handler 11 a →
      finish len s (r.bind fun f t => .ok f (index t)) =
        .next { s.took 11 s.pc none a with retire := .fault, draws := e }) := by
  constructor
  · intro hok
    have hnot : ¬ (rt = 53 ∧ v ≠ s.sc) := fun h => hok.elim (fun h53 => h53 h.1) h.2
    rw [hr, if_neg hnot]
    simp only [Acc.bind, finish, hindex]
    rw [State.passed, hpc, hu]
    rfl
  · intro h53 hv a ha
    have hdrawn : (s.drawn e).handler 11 a := ⟨ha.1, (State.data_mem rfl _ _).trans ha.2⟩
    rw [hr, if_pos ⟨h53, hv⟩]
    exact finish_trap hdrawn

/-- A value FLOAD gives of the bytes `v` (47_memory_ops R596). -/
def FloatLoaded (p : Prec) (v : Nat) (r : Word) : Prop :=
  (p = .q → r = .ofNat 128 v) ∧ (quadVal r).same ((precFmt p).value v)

theorem gives_getFloat (p : Prec) : Gives (getFloat p) p.bytes (FloatLoaded p) := by
  intro a t hram
  obtain ⟨r, d, hr, hv, -⟩ := toQuad_element (s := t) (rt := 0) p _ t.draws (t.vec 0) (t.data_lt a p.bytes)
  rw [State.withVec_self, State.withVec_drawn] at hr
  refine ⟨r, d, ?_, hv⟩
  rw [getFloat, memRead_ram hram (prec_bytes_le p)]
  exact hr

/-! Stores. -/

/-- Bytes stored after bytes stored, beyond them. -/
theorem Stored.append {m v w : Nat} (hfirst : Stored s t a m v) (hrest : Stored t u (a + .ofNat 64 m) n w) (hv : v < 256 ^ m)
    (hsize : m + n ≤ 2 ^ 64) : Stored s u a (m + n) (v + 256 ^ m * w) := by
  obtain ⟨hbyte, hother⟩ := hfirst
  obtain ⟨hbyte', hother'⟩ := hrest
  have hlow : (v + 256 ^ m * w) % 256 ^ m = v := by rw [Nat.add_mul_mod_self_left, Nat.mod_eq_of_lt hv]
  have hhigh : (v + 256 ^ m * w) / 256 ^ m = w := by
    rw [Nat.add_mul_div_left _ _ (Nat.pow_pos (by decide)), Nat.div_eq_of_lt hv, Nat.zero_add]
  refine ⟨fun i hi => ?_, fun b hb => ?_⟩
  · by_cases him : i < m
    · rw [hother', hbyte i him, ← ofNat_byte_mod (v + 256 ^ m * w) him, hlow]
      intro j hj heq
      rw [add_ofNat_add_ofNat, BitVec.toNat_inj, BitVec.add_right_inj, ← BitVec.toNat_inj, BitVec.toNat_ofNat,
        BitVec.toNat_ofNat, Nat.mod_eq_of_lt (by omega), Nat.mod_eq_of_lt (by omega)] at heq
      omega
    · obtain ⟨j, rfl⟩ : ∃ j, i = m + j := ⟨i - m, by omega⟩
      rw [← add_ofNat_add_ofNat, hbyte' j (by omega), Nat.pow_add, ← Nat.div_div_eq_div_mul, hhigh]
  · rw [hother' b fun j hj => ?_, hother b fun i hi => hb i (by omega)]
    rw [add_ofNat_add_ofNat]
    exact hb (m + j) (by omega)

/-- The number that `m` values of `n` bytes make, the first lowest. -/
def stacked (n : Nat) (rs : Nat → Nat) (m : Nat) : Nat := ((List.range m).map fun k => rs k * 256 ^ (n * k)).sum

theorem stacked_before (n r : Nat) (rs : Nat → Nat) (m : Nat) :
    stacked n (before r rs) (m + 1) = r + 256 ^ n * stacked n rs m := by
  simp only [stacked, List.range_succ_eq_map, List.map_cons, List.map_map, List.sum_cons, ← List.sum_map_mul_left]
  congr 1
  · simp [before]
  · refine congrArg List.sum (List.map_congr_left fun k _ => ?_)
    simp only [Function.comp_apply, before, Nat.succ_eq_add_one]
    ring

/-- A store writes `n` bytes that `value` names of the value stored, and does nothing else but draw values. -/
def Puts (s : State) (put : Put) (n : Nat) (value : Word → Nat → Prop) : Prop :=
  ∀ a v t, t = s.storing t t.draws →
    ∃ r d, put a v t = memWrite a n r (t.storing t d) ∧ r < 256 ^ n ∧ value v r

/-- What storing the values `vs` leaves of `t`, a state that differs from `s` in memory and values drawn. -/
structure StoredAll (s t u : State) (a : Addr) (n : Nat) (value : Word → Nat → Prop) (vs : List Word) (rs : Nat → Nat) :
    Prop where
  frame : u = s.storing u u.draws
  wf : Memory.wf u.mem = true
  bytes : Stored t u a (n * vs.length) (stacked n rs vs.length)
  values : ∀ k, k < vs.length → rs k < 256 ^ n ∧ value (vs.getD k 0) (rs k)

/-- One store, and those beyond it. -/
theorem Puts.cons {put : Put} {value : Word → Nat → Prop} {α : Type} {more : State → Acc α} {f : α} {vs : List Word}
    (hput : Puts s put n value) (hn : n ≤ 16384) (v : Word) (ht : t = s.storing t t.draws) (hw : Memory.wf t.mem = true)
    (hram : s.ram a (n * (vs.length + 1))) (hsize : n * (vs.length + 1) ≤ 2 ^ 64)
    (hmore : ∀ t, t = s.storing t t.draws → Memory.wf t.mem = true →
      ∃ u rs, more t = .ok f u ∧ StoredAll s t u (a + .ofNat 64 n) n value vs rs) :
    ∃ u rs, ((put a v t).bind fun _ t => more t) = .ok f u ∧ StoredAll s t u a n value (v :: vs) rs := by
  rw [Nat.mul_succ, Nat.add_comm] at hram hsize
  obtain ⟨r, d, hr, hlt, hv⟩ := hput a v t ht
  have hramt : (t.storing t d).ram a n := by
    rw [ht]
    exact State.ram_mono hram (Nat.le_add_right _ _)
  obtain ⟨u, hu, hs, hframe, hwu⟩ := memWrite_ram (v := r) hramt hn hw
  have hus : u = s.storing u u.draws := by
    rw [hframe, ht]
    rfl
  obtain ⟨w, rs, hmore, hall⟩ := hmore u hus hwu
  refine ⟨w, before r rs, ?_, hall.frame, hall.wf, ?_, fun k hk => ?_⟩
  · rw [hr, hu]
    exact hmore
  · rw [List.length_cons, Nat.mul_succ, Nat.add_comm, stacked_before]
    exact Stored.append hs hall.bytes hlt hsize
  · cases k with
    | zero => exact ⟨hlt, hv⟩
    | succ k => exact hall.values k (Nat.lt_of_succ_lt_succ hk)

theorem StoredAll.nil {value : Word → Nat → Prop} (ht : t = s.storing t t.draws) (hw : Memory.wf t.mem = true) :
    StoredAll s t t a n value [] fun _ => 0 :=
  ⟨ht, hw, ⟨fun i hi => absurd hi (by simp), fun _ _ => rfl⟩, fun _ hk => absurd hk (Nat.not_lt_zero _)⟩

theorem storeMany_ram {put : Put} {value : Word → Nat → Prop} (hput : Puts s put n value) (hn : n ≤ 16384) (ts : List Tgt)
    (a : Addr) (t : State) (ht : t = s.storing t t.draws) (hw : Memory.wf t.mem = true) (hram : s.ram a (n * ts.length))
    (hsize : n * ts.length ≤ 2 ^ 64) :
    ∃ u rs, storeMany n put ts a t = .ok () u ∧ StoredAll s t u a n value (ts.map fun g => g.value s) rs := by
  induction ts generalizing a t with
  | nil => exact ⟨t, _, rfl, .nil ht hw⟩
  | cons g ts ih =>
    have hvalue : g.value t = g.value s := by
      rw [ht]
      cases g <;> rfl
    rw [List.length_cons] at hram hsize
    simp only [storeMany, hvalue, List.map_cons]
    refine hput.cons hn _ ht hw (by simpa using hram) (by simpa using hsize) fun t ht hw => ih _ t ht hw ?_ ?_
    · rw [Nat.mul_succ, Nat.add_comm] at hram
      exact State.ram_add hram
    · exact (Nat.mul_le_mul_left n (Nat.le_succ _)).trans hsize

/-- A scalar store with the registers of a list (47_memory_ops R584). -/
theorem storeScalar_ram {put : Put} {value : Word → Nat → Prop} (hput : Puts s put n value) (hn : n ≤ 16384) (v : Word)
    (l : Tail) (hw : Memory.wf s.mem = true) (hram : s.ram a (n * (1 + (regsList l).length))) :
    ∃ u rs, storeScalar n put v l a s = .ok .seq u ∧
      StoredAll s s u a n value (v :: (regsList l).map fun g => g.value s) rs := by
  rw [Nat.add_comm] at hram
  have hsize : n * ((regsList l).length + 1) ≤ 2 ^ 64 :=
    (Nat.mul_le_mul hn (Nat.succ_le_succ (regsList_length_le l))).trans (by decide)
  refine hput.cons hn v rfl hw (by simpa using hram) (by simpa using hsize) fun t ht hwt => ?_
  obtain ⟨u, rs, hu, hall⟩ := storeMany_ram hput hn (regsList l) (a + .ofNat 64 n) t ht hwt
    (by rw [Nat.mul_succ, Nat.add_comm] at hram; exact State.ram_add hram)
    ((Nat.mul_le_mul_left n (Nat.le_succ _)).trans hsize)
  exact ⟨u, rs, by rw [hu]; rfl, hall⟩

theorem puts_putFloat (s : State) (p : Prec) : Puts s (putFloat p) p.bytes (FloatStored p s.rmImm) := by
  intro a v t ht
  have hrm : t.rmImm = s.rmImm := by rw [ht]; rfl
  obtain ⟨r, d, hr, hlt, hv⟩ := fromQuad_stored p s.rmImm v t
  exact ⟨r, d, by rw [putFloat, hrm, hr]; rfl, hlt, hv⟩

/-! The instructions. -/

theorem Acc.bind_self {α : Type} (r : Acc α) : (r.bind fun v t => .ok v t) = r := by cases r <;> rfl

section
variable {w : Nat} {get : Get} {put : Put} {v : State → Word}

theorem loadDisp_list {o : MemD} (hen : s.enabled x false) (hvd : o.vd = false) :
    loadDisp n w get o x s = finish (extLen x) s
      ((loadScalar n get o.rt x.tail (eaDisp o x.tail s) s).bind fun f t => .ok f t) := by
  rw [loadDisp, runExt_enabled (by rw [hvd]; exact hen), if_neg (by simp [hvd]), Acc.bind_self]

theorem storeDisp_list {o : MemD} (hen : s.enabled x false) (hvd : o.vd = false) :
    storeDisp n w put v o x s = finish (extLen x) s
      ((storeScalar n put (v s) x.tail (eaDisp o x.tail s) s).bind fun f t => .ok f t) := by
  rw [storeDisp, runExt_enabled (by rw [hvd]; exact hen), if_neg (by simp [hvd]), Acc.bind_self]

variable {o : MemX} {upd : Option Word}

theorem loadIndexed_list (hen : s.enabled x false) (hvec : o.vec = .scalar)
    (hea : eaIndexed o n x.tail s = .ok (a, upd) s) :
    loadIndexed n w get o x s = finish (extLen x) s ((loadScalar n get o.rt x.tail a s).bind fun f t =>
      .ok f (if o.rt = o.rc then t else t.setIndex o.rc upd)) := by
  rw [loadIndexed, runExt_enabled (by rw [hvec]; exact hen), if_pos hvec, hea]
  rfl

theorem storeIndexed_list (hen : s.enabled x false) (hvec : o.vec = .scalar)
    (hea : eaIndexed o n x.tail s = .ok (a, upd) s) :
    storeIndexed n w put v o x s = finish (extLen x) s ((storeScalar n put (v s) x.tail a s).bind fun f t =>
      .ok f (t.setIndex o.rc upd)) := by
  rw [storeIndexed, runExt_enabled (by rw [hvec]; exact hen), if_pos hvec, hea]
  rfl

end

/-- Settles O30: the transfers of a list by `loadScalar_ram` and `storeScalar_ram`, of what FLOAD gives and FSTORE puts. -/
theorem floatLoadsAndStores : Obligations.FloatLoadsAndStores := by
  intro p o q x s hen n rest loads stores
  have hloads {c : Instr} {rt : Reg} {ea : Addr} {index : State → State}
      (hindex : ∀ t d, index (State.drawn t d) = (index t).drawn d) (hpc : ∀ t, (index t).pc = t.pc)
      (hrun : exec c s = finish (extLen x) s ((loadScalar n (getFloat p) rt x.tail ea s).bind fun f t => .ok f (index t))) :
      loads c rt ea index := by
    intro hram
    obtain ⟨rs, d, e, hrs, hload⟩ := loadScalar_ram (gives_getFloat p) rt x.tail ea s hram
    refine ⟨rs, d, e, fun k hk => ?_, ?_⟩
    · obtain ⟨hquad, hsame⟩ := hrs k hk
      exact ⟨fun hp => by subst hp; exact hquad rfl, hsame⟩
    · have hfirst : (if rt = 53 then s else s.setReg rt (rs 0)).pc = s.pc := by
        split
        · rfl
        · exact s.pc_setReg rt (rs 0)
      have hfinish := finish_loaded (len := extLen x) hload ((State.pc_loaded _ _ _).trans hfirst) hindex hpc
      rw [hrun]
      exact hfinish
  have hstores {c : Instr} {v : Word} {ea : Addr} {rc : Reg} {upd : Option Word}
      (hrun : exec c s = finish (extLen x) s ((storeScalar n (putFloat p) v x.tail ea s).bind fun f t =>
        .ok f (t.setIndex rc upd))) : stores c v ea rc upd := by
    intro hram hw vs
    obtain ⟨t, rs, hstore, hall⟩ := storeScalar_ram (puts_putFloat s p) (prec_bytes_le p) v x.tail hw hram
    have hlen : vs.length = 1 + rest.length := by rw [List.length_cons, List.length_map, Nat.add_comm]
    refine ⟨t, rs, fun k hk => ?_, hlen ▸ hall.bytes, hall.frame, ?_⟩
    · obtain ⟨hlt, hv⟩ := hall.values k (show k < vs.length by omega)
      refine ⟨hlt, ?_⟩
      split
      · exact hv.quad ‹_›
      · split
        · exact hv.number ‹_› _ ‹_›
        · exact hv.nan ‹_› ‹_›
    · have hpc : (t.setIndex rc upd).pc = s.pc := by
        rw [State.pc_setIndex, hall.frame]
        rfl
      rw [hrun, hstore, State.passed, hpc]
      rfl
  refine ⟨fun hvd => ⟨?_, ?_⟩, fun hvec ea upd hea => ⟨?_, ?_⟩⟩
  · exact hloads (index := id) (fun _ _ => rfl) (fun _ => rfl) ((exec_fload p o x s).trans (loadDisp_list hen hvd))
  · exact hstores ((exec_fstore p o x s).trans (storeDisp_list hen hvd))
  · refine hloads (fun t d => ?_) (fun t => ?_) ((exec_floadX p q x s).trans (loadIndexed_list hen hvec hea))
    · split
      · rfl
      · exact t.setIndex_drawn d q.rc upd
    · split
      · rfl
      · exact t.pc_setIndex q.rc upd
  · exact hstores ((exec_fstoreX p q x s).trans (storeIndexed_list hen hvec hea))

end Sys2Proof.Machine

/-! BCMP, BFND, BMOV and BSET (43_string_block R460 to R466): an iteration moves the pointers, counts, and ends or goes on. -/

namespace Sys2Proof.Machine

variable {s t : State} {x : Ext} {a : Addr} {n : Nat}

/-! The pointers and their adjustment codes. -/

@[simp] theorem State.pc_adjust (s : State) (r : Reg) (d : Word) : (s.adjust r d).pc = s.pc := by
  unfold State.adjust
  split
  · rfl
  · exact s.pc_setReg r _

/-- The codes 1 and 2 move a pointer up and down by an element, the others leave it (43_string_block R461). -/
theorem adjustment_eq (c : BitVec 2) (n : Nat) :
    adjustment c n = if c = 1 then .ofNat 128 n else if c = 2 then -.ofNat 128 n else 0 := by
  obtain rfl | rfl | rfl | rfl := mode_cases c
  all_goals rfl

/-- The codes of BSET are signed powers of two (43_string_block R466). -/
theorem setAdjustment_eq (c : BitVec 4) :
    setAdjustment c = if c = 1 then 1 else if c = 2 then 2 else if c = 3 then 4 else if c = 4 then 8 else if c = 5 then 16
      else if c = 15 then -1 else if c = 14 then -2 else if c = 13 then -4 else if c = 12 then -8
      else if c = 11 then -16 else 0 := by
  revert c
  decide

/-! The start and the end of an iteration. -/

/-- What the end of an iteration makes of `s`: the counter, r55, goes down, and the instruction is over, its length being
`len`, or executed again (43_string_block R461, R462). -/
def State.iterated (s : State) (len : Nat) : State :=
  if (s.adjust 55 (-1)).reg 55 = 0 then (s.adjust 55 (-1)).passed len else { s.adjust 55 (-1) with retire := .again }

theorem finish_endIteration {len : Nat} (hpc : t.pc = s.pc) :
    finish len s (endIteration t) = .next (t.iterated len) := by
  have hdown : (t.adjust 55 (-1)).pc = s.pc := (t.pc_adjust 55 _).trans hpc
  unfold endIteration State.iterated
  by_cases hzero : (t.adjust 55 (-1)).reg 55 = 0
  · simp only [if_pos hzero, finish, State.passed, hdown]
  · simp only [if_neg hzero, finish, ← hdown]

section
variable {body : State → Acc Flow}

/-- With the counter zero a block instruction is over (43_string_block R462). -/
theorem runExt_block_over (hen : s.enabled x false) (h0 : s.reg 55 = 0) :
    runExt x false (blockOp body) s = .next (s.passed (extLen x)) := by
  rw [runExt_enabled hen, blockOp, if_pos h0]
  rfl

theorem runExt_block_iterates (hen : s.enabled x false) (h0 : s.reg 55 ≠ 0) :
    runExt x false (blockOp body) s = finish (extLen x) s (body s) := by
  rw [runExt_enabled hen, blockOp, if_neg h0]

end

/-! What each instruction does in an iteration. -/

section
variable {o : Blk}

theorem exec_bcmp_iterates (hen : s.enabled x false) (h0 : s.reg 55 ≠ 0)
    (ha : s.ram ((s.reg o.ra).setWidth 64) o.size.bytes) (hb : s.ram ((s.reg o.rb).setWidth 64) o.size.bytes) :
    exec (.bcmp o x) s = .next
      (if s.data ((s.reg o.ra).setWidth 64) o.size.bytes = s.data ((s.reg o.rb).setWidth 64) o.size.bytes then
        ((s.adjust o.ra (adjustment o.ai o.size.bytes)).adjust o.rb (adjustment o.bi o.size.bytes)).iterated (extLen x)
      else s.passed (extLen x)) := by
  rw [exec_bcmp, execBcmp, runExt_block_iterates hen h0]
  simp only [memRead_ram ha (size_bytes_le _), memRead_ram hb (size_bytes_le _), Acc.bind]
  split
  · exact finish_endIteration (by simp)
  · rfl

theorem exec_bfnd_iterates (hen : s.enabled x false) (h0 : s.reg 55 ≠ 0)
    (hb : s.ram ((s.reg o.rb).setWidth 64) o.size.bytes) :
    exec (.bfnd o x) s = .next
      (if .ofNat o.size.bits (s.data ((s.reg o.rb).setWidth 64) o.size.bytes) = (s.reg o.ra).setWidth o.size.bits then
        s.passed (extLen x)
      else (s.adjust o.rb (adjustment o.bi o.size.bytes)).iterated (extLen x)) := by
  rw [exec_bfnd, execBfnd, runExt_block_iterates hen h0]
  simp only [memRead_ram hb (size_bytes_le _), Acc.bind]
  split
  · rfl
  · exact finish_endIteration (by simp)

theorem exec_bmov_iterates (hen : s.enabled x false) (h0 : s.reg 55 ≠ 0)
    (ha : s.ram ((s.reg o.ra).setWidth 64) o.size.bytes)
    (hstore : memWrite ((s.reg o.rb).setWidth 64) o.size.bytes (s.data ((s.reg o.ra).setWidth 64) o.size.bytes) s =
      .ok () t) (hpc : t.pc = s.pc) :
    exec (.bmov o x) s = .next
      (((t.adjust o.ra (adjustment o.ai o.size.bytes)).adjust o.rb (adjustment o.bi o.size.bytes)).iterated
        (extLen x)) := by
  rw [exec_bmov, execBmov, runExt_block_iterates hen h0]
  simp only [memRead_ram ha (size_bytes_le _), hstore, Acc.bind]
  exact finish_endIteration (by simp [hpc])

end

theorem exec_bset_iterates {b : BSetOp} (hen : s.enabled x false) (h0 : s.reg 55 ≠ 0)
    (hstore : putLow b.size ((s.reg b.rb).setWidth 64) (s.reg b.ra) s = .ok () t) (hpc : t.pc = s.pc) :
    exec (.bset b x) s = .next ((t.adjust b.rb (setAdjustment b.bi)).iterated (extLen x)) := by
  rw [exec_bset, execBset, runExt_block_iterates hen h0]
  simp only [hstore, Acc.bind]
  exact finish_endIteration (by simp [hpc])

/-! What is stored. -/

/-- The bytes stored do not depend on what is above them. -/
theorem Stored.of_mod {v : Nat} (h : Stored s t a n (v % 256 ^ n)) : Stored s t a n v := by
  obtain ⟨hbyte, hother⟩ := h
  exact ⟨fun i hi => (hbyte i hi).trans (ofNat_byte_mod v hi), hother⟩

/-- A register's low bytes put in memory (47_memory_ops R600). -/
theorem putLow_ram {z : Size} (v : Word) (h : s.ram a z.bytes) (hw : Memory.wf s.mem = true) :
    ∃ t, putLow z a v s = .ok () t ∧ Stored s t a z.bytes v.toNat ∧ t = { s with mem := t.mem, stale := t.stale } := by
  obtain ⟨t, hput, hstored, hframe, -⟩ := memWrite_ram (v := (v.setWidth z.bits).toNat) h (size_bytes_le z) hw
  rw [BitVec.toNat_setWidth, ← size_pow_bytes] at hstored
  exact ⟨t, hput, hstored.of_mod, hframe⟩

/-- Settles O33: `fin` and `ends` by whether the counter is zero and by the equation of each instruction's iteration. -/
theorem blockIterations : Obligations.BlockIterations := by
  intro o b x s hen n pa pb move code bcode fin ends both
  have hcode : ∀ c, adjustment c n = code c := fun c => adjustment_eq c n
  have hfin {c : Instr} {t u : State} (hc : exec c s = .next (u.iterated (extLen x))) (hu : u = t) : fin c t := hu ▸ hc
  have hboth (t : State) : (t.adjust o.ra (adjustment o.ai n)).adjust o.rb (adjustment o.bi n) = both t := by
    rw [hcode, hcode]
    rfl
  have hover (h0 : s.reg 55 = 0) {c : Instr} {body : State → Acc Flow}
      (hc : exec c s = runExt x false (blockOp body) s) : ends c := hc.trans (runExt_block_over hen h0)
  refine ⟨fun h0 => ⟨hover h0 (exec_bcmp o x s), hover h0 (exec_bfnd o x s), hover h0 (exec_bmov o x s),
    hover h0 (exec_bset b x s)⟩, fun h0 => ⟨fun ha hb => ?_, fun hb => ?_, fun ha hb hw => ?_, fun hb hw => ?_⟩⟩
  · have hrun := exec_bcmp_iterates hen h0 ha hb
    exact ⟨fun he => hfin (hrun.trans (by rw [if_pos he])) (hboth s), fun hne => hrun.trans (by rw [if_neg hne])⟩
  · have hrun := exec_bfnd_iterates hen h0 hb
    exact ⟨fun he => hrun.trans (by rw [if_pos he]),
      fun hne => hfin (hrun.trans (by rw [if_neg hne])) (congrArg (s.adjust o.rb) (hcode o.bi))⟩
  · obtain ⟨t, hstore, hstored, hframe, -⟩ := memWrite_ram (v := s.data pa n) hb (size_bytes_le _) hw
    have hpc : t.pc = s.pc := by rw [hframe]
    exact ⟨t, hstored, hframe, hfin (exec_bmov_iterates hen h0 ha hstore hpc) (hboth t)⟩
  · obtain ⟨t, hstore, hstored, hframe⟩ := putLow_ram (s.reg b.ra) hb hw
    have hpc : t.pc = s.pc := by rw [hframe]
    exact ⟨t, hstored, hframe,
      hfin (exec_bset_iterates hen h0 hstore hpc) (congrArg (t.adjust b.rb) (setAdjustment_eq b.bi))⟩

end Sys2Proof.Machine

/-! Bit fields, bit by bit (44_bitfield R480 to R488). -/

namespace Sys2Proof.Machine

variable {s : State} {x : Ext} {c : Instr}

/-- Bit `j` is one of the field from `b` to `e`, both included (44_bitfield R481). -/
def inField (b e j : Nat) : Bool := decide (b ≤ j) && decide (j ≤ e)

theorem inField_of_lt {b e : Nat} (h : e < b) (j : Nat) : inField b e j = false := by
  simp only [inField, Bool.and_eq_false_iff, decide_eq_false_iff_not]
  omega

theorem getLsbD_fieldMask (b : Nat) {e j : Nat} (he : e < 128) (hj : j < 128) :
    (fieldMask b e).getLsbD j = inField b e j := by
  unfold fieldMask
  split
  · next hempty => rw [inField_of_lt hempty, BitVec.ofNat_eq_ofNat, BitVec.getLsbD_zero]
  · next hle =>
    rw [BitVec.getLsbD_shiftLeft, BitVec.getLsbD_ushiftRight, BitVec.getLsbD_allOnes, inField, Bool.eq_iff_iff]
    simp only [Bool.and_eq_true, Bool.not_eq_true', decide_eq_true_eq, decide_eq_false_iff_not]
    omega

theorem getLsbD_not_fieldMask (b : Nat) {e j : Nat} (he : e < 128) (hj : j < 128) :
    (~~~fieldMask b e).getLsbD j = !inField b e j := by
  rw [BitVec.getLsbD_not, getLsbD_fieldMask b he hj, decide_eq_true hj, Bool.true_and]

/-- Each bit of what `f` gives of an operand, the bounds of a field and the old target is the one `P` names. -/
def FieldBits (f : Word → Nat → Nat → Word → Word) (P : Word → Nat → Nat → Word → Nat → Bool) : Prop :=
  ∀ (a : Word) (b e : Nat) (old : Word) (j : Nat), e < 128 → j < 128 → (f a b e old).getLsbD j = P a b e old j

theorem fieldBits_clr : FieldBits (fun a b e _ => a &&& ~~~fieldMask b e) fun a b e _ j => a.getLsbD j && !inField b e j := by
  intro a b e old j he hj
  rw [BitVec.getLsbD_and, getLsbD_not_fieldMask b he hj]

theorem fieldBits_set : FieldBits (fun a b e _ => a ||| fieldMask b e) fun a b e _ j => a.getLsbD j || inField b e j := by
  intro a b e old j he hj
  rw [BitVec.getLsbD_or, getLsbD_fieldMask b he hj]

theorem fieldBits_com : FieldBits (fun a b e _ => a ^^^ fieldMask b e) fun a b e _ j => a.getLsbD j != inField b e j := by
  intro a b e old j he hj
  rw [BitVec.getLsbD_xor, getLsbD_fieldMask b he hj]

/-- SBX sets the field or clears it, by the bit at its beginning (44_bitfield R485). -/
theorem fieldBits_sbx : FieldBits (fun a b e _ => if a.getLsbD b then a ||| fieldMask b e else a &&& ~~~fieldMask b e)
    fun a b e _ j => if inField b e j then a.getLsbD b else a.getLsbD j := by
  intro a b e old j he hj
  beta_reduce
  cases a.getLsbD b with
  | true =>
    rw [if_pos rfl, BitVec.getLsbD_or, getLsbD_fieldMask b he hj]
    cases inField b e j <;> simp
  | false =>
    rw [if_neg Bool.false_ne_true, BitVec.getLsbD_and, getLsbD_not_fieldMask b he hj]
    cases inField b e j <;> simp

/-- A bit from the width on is not in the field, and no bit of the operand. -/
theorem getLsbD_fieldOf (a : Word) (b : Nat) {e : Nat} (he : e < 128) (j : Nat) :
    (fieldOf a b e).getLsbD j = (inField b e (b + j) && a.getLsbD (b + j)) := by
  rw [fieldOf, BitVec.getLsbD_ushiftRight, BitVec.getLsbD_and, Bool.and_comm]
  by_cases hj : b + j < 128
  · rw [getLsbD_fieldMask b he hj]
  · rw [BitVec.getLsbD_of_ge a _ (Nat.le_of_not_lt hj), Bool.and_false, Bool.and_false]

theorem fieldBits_extu : FieldBits (fun a b e _ => fieldOf a b e)
    fun a b e _ j => inField b e (b + j) && a.getLsbD (b + j) :=
  fun a b _ _ j he _ => getLsbD_fieldOf a b he j

/-- The bits of EXTS beyond the field are its last bit (44_bitfield R487). -/
theorem fieldBits_exts : FieldBits (fun a b e _ => fieldSigned a b e)
    fun a b e _ j => decide (b ≤ e) && a.getLsbD (min (b + j) e) := by
  intro a b e old j he hj
  by_cases hempty : e < b
  · simp [fieldSigned, hempty]
  have hsign : (fieldSigned a b e).getLsbD j = ((fieldOf a b e).getLsbD j || a.getLsbD e && !inField 0 (e - b) j) := by
    rw [fieldSigned, if_neg hempty]
    cases a.getLsbD e with
    | false => simp
    | true => rw [if_pos rfl, BitVec.getLsbD_or, getLsbD_not_fieldMask 0 (show e - b < 128 by omega) hj, Bool.true_and]
  rw [hsign, getLsbD_fieldOf a b he]
  by_cases hin : b + j ≤ e
  · simp [inField, hin, show b ≤ e by omega, show j ≤ e - b by omega]
  · simp [inField, hin, show b ≤ e by omega, show ¬ j ≤ e - b by omega, show min (b + j) e = e by omega]

theorem fieldBits_dep : FieldBits (fun a b e old => (old &&& ~~~fieldMask b e) ||| ((a <<< b) &&& fieldMask b e))
    fun a b e old j => if inField b e j then a.getLsbD (j - b) else old.getLsbD j := by
  intro a b e old j he hj
  beta_reduce
  rw [BitVec.getLsbD_or, BitVec.getLsbD_and, BitVec.getLsbD_and, BitVec.getLsbD_shiftLeft, getLsbD_not_fieldMask b he hj,
    getLsbD_fieldMask b he hj]
  cases hin : inField b e j with
  | false => simp
  | true =>
    obtain ⟨hb, -⟩ : b ≤ j ∧ j ≤ e := by simpa [inField] using hin
    simp [hj, Nat.not_lt.2 hb]

/-- The format with bounds in registers (44_bitfield R480, R481). -/
theorem computes_bitsR {f : Word → Nat → Nat → Word → Word} {P : Word → Nat → Nat → Word → Nat → Bool} {o : BitR}
    (hf : FieldBits f P) (hc : exec c s = bitsR f o x s) : ∃ r : Nat → Word,
      (∀ k j, j < 128 → (r k).getLsbD j = P ((srcOf (o.vec != .scalar) o.ra).value .compl o.sa s 128 k)
        (((srcOf (o.vec == .vv) o.rb).value .compl o.sb s 128 k).toNat % 128)
        (((srcOf (o.vec == .vv) o.rc).value .plain false s 128 k).toNat % 128)
        ((srcOf (o.vec != .scalar) o.rt).value .plain false s 128 k) j) ∧
      Computes c s x (o.vec != .scalar) 128 o.rt fun k => if o.st then ~~~r k else r k :=
  ⟨_, fun _ _ hj => hf _ _ _ _ _ (Nat.mod_lt _ (by decide)) hj,
    computes_alu (g := fun _ s' => .ok (decorate .compl o.st _) s') (hc.trans (runExt_congr rfl)) fun _ _ _ => rfl⟩

/-- The format with immediate bounds (44_bitfield R480, R481). -/
theorem computes_bitsI {f : Word → Nat → Nat → Word → Word} {P : Word → Nat → Nat → Word → Nat → Bool} {o : BitI}
    (hf : FieldBits f P) (hc : exec c s = bitsI f o x s) : ∃ r : Nat → Word,
      (∀ k j, j < 128 → (r k).getLsbD j = P ((srcOf o.vec o.ra).value .compl o.sa s 128 k) o.first.toNat o.last.toNat
        ((srcOf o.vec o.rt).value .plain false s 128 k) j) ∧
      Computes c s x o.vec 128 o.rt fun k => if o.st then ~~~r k else r k :=
  ⟨_, fun _ _ hj => hf _ _ _ _ _ o.last.isLt hj,
    computes_alu (g := fun _ s' => .ok (decorate .compl o.st _) s') (hc.trans (runExt_congr rfl)) fun _ _ _ => rfl⟩

/-- Settles O13: both formats compute one function of the operand, the bounds and the old target, whose bits are those of
`FieldBits`. -/
theorem bitFieldsBitByBit : Obligations.BitFieldsBitByBit := by
  intro o i x s bits inside
  have hboth {c d : Instr} {f : Word → Nat → Nat → Word → Word} {P : Word → Nat → Nat → Word → Nat → Bool}
      (hf : FieldBits f P) (hc : exec c s = bitsR f o x s) (hd : exec d s = bitsI f i x s) : bits c d P :=
    ⟨computes_bitsR hf hc, computes_bitsI hf hd⟩
  exact ⟨hboth fieldBits_clr (exec_clr o x s) (exec_clrImm i x s), hboth fieldBits_set (exec_set o x s) (exec_setImm i x s),
    hboth fieldBits_com (exec_com o x s) (exec_comImm i x s), hboth fieldBits_sbx (exec_sbx o x s) (exec_sbxImm i x s),
    hboth fieldBits_extu (exec_extu o x s) (exec_extuImm i x s), hboth fieldBits_exts (exec_exts o x s) (exec_extsImm i x s),
    hboth fieldBits_dep (exec_dep o x s) (exec_depImm i x s)⟩

end Sys2Proof.Machine

/-! Shifts, combining shifts and rotates (45_shift R500 to R511). -/

namespace Sys2Proof.Machine

variable {s : State} {x : Ext} {c : Instr}

/-- ROL is the library's rotation, which takes the amount modulo the width (45_shift R510). -/
theorem rotl_eq_rotateLeft {w : Nat} (a : BitVec w) (n : Nat) : rotl w a n = a.rotateLeft n := rfl

/-- ROR is the library's rotation, which takes the amount modulo the width (45_shift R511). -/
theorem rotr_eq_rotateRight {w : Nat} (a : BitVec w) (n : Nat) : rotr w a n = a.rotateRight n := rfl

/-- The format with the amount in Rb, or in a constant in its place (45_shift R500, R501). -/
theorem computes_shiftR {f : (w : Nat) → BitVec w → Nat → BitVec w → BitVec w} {o : R2}
    (hc : exec c s = shiftR f o x s) :
    Computes c s x (o.vec != .scalar) o.size.bits o.rt fun k =>
      let v := f o.size.bits (o.a .compl s k) ((o.b .compl x.tail s k).toNat % 128) (o.old s k)
      (if o.st then ~~~v else v).signExtend 128 :=
  computes_alu (g := fun _ s' => .ok (result .compl o.st .sign _) s') (hc.trans (runExt_congr rfl))
    fun _ _ _ => by rw [result_compl]

/-- The format with the amount in the field, or in a constant in its place (45_shift R500, R501). -/
theorem computes_shiftI {f : (w : Nat) → BitVec w → Nat → BitVec w → BitVec w} {o : ShI}
    (hc : exec c s = shiftI f o x s) :
    Computes c s x o.vec o.size.bits o.rt fun k =>
      let v := f o.size.bits ((srcOf o.vec o.ra).value .compl o.sa s o.size.bits k)
        ((x.tail.const.getD (o.imm.setWidth 128)).toNat % 128) ((srcOf o.vec o.rt).value .plain false s o.size.bits k)
      (if o.st then ~~~v else v).signExtend 128 :=
  computes_alu (g := fun _ s' => .ok (result .compl o.st .sign _) s') (hc.trans (runExt_congr rfl))
    fun _ _ _ => by rw [result_compl]; rfl

/-- Settles O12: both formats compute one function of the operand, the amount and the old target, which a rotate takes from
`rotl` and `rotr`. -/
theorem shiftsAndRotates : Obligations.ShiftsAndRotates := by
  intro o i x s r2 ri
  have hr {c : Instr} {f : (w : Nat) → BitVec w → Nat → BitVec w → BitVec w} (hc : exec c s = shiftR f o x s) :
      r2 c (f o.size.bits) := computes_shiftR hc
  have hi {c : Instr} {f : (w : Nat) → BitVec w → Nat → BitVec w → BitVec w} (hc : exec c s = shiftI f i x s) :
      ri c (f i.size.bits) := computes_shiftI hc
  simp only [← rotl_eq_rotateLeft, ← rotr_eq_rotateRight]
  -- the function `f` is read off the instruction's equation, not off the goal
  exact ⟨(hr (exec_asl o x s) :), (hr (exec_asr o x s) :), (hr (exec_lsl o x s) :), (hr (exec_lsr o x s) :),
    (hr (exec_lsland o x s) :), (hr (exec_lslor o x s) :), (hr (exec_lslxor o x s) :), (hr (exec_rol o x s) :),
    (hr (exec_ror o x s) :), (hi (exec_aslImm i x s) :), (hi (exec_asrImm i x s) :), (hi (exec_lslImm i x s) :),
    (hi (exec_lsrImm i x s) :), (hi (exec_lslandImm i x s) :), (hi (exec_lslorImm i x s) :), (hi (exec_lslxorImm i x s) :),
    (hi (exec_rolImm i x s) :), (hi (exec_rorImm i x s) :)⟩

end Sys2Proof.Machine

/-! Branches, short and long, with links and loop counters (46_flow_control R530 to R552, R561 to R577): each is its format's
condition, and its outcome that of a transfer of control or of going on. -/

namespace Sys2Proof.Machine

variable {s : State} {t : Tail} {c : Instr} {base : Nat} {disp : Addr} {rm rn : Reg}

/-! How an instruction with a postfix run and no mask ends. -/

/-- An instruction that goes to `a`, having left `u`. -/
theorem exec_goto {body : State → Acc Flow} {a : Addr} {u : State} (hp : s.predOk = true)
    (hc : exec c s = runTail base t body s) (hb : body s = .ok (.goto a) u) : exec c s = .next (u.went a) := by
  rw [hc, runTail_enabled hp, hb]
  rfl

/-- An instruction that raises an exception and has changed nothing. -/
theorem traps_runTail {body : State → Acc Flow} {vec : BitVec 9} {bad : Option Addr} (hp : s.predOk = true)
    (hc : exec c s = runTail base t body s) (hb : body s = .trap ⟨vec, bad⟩ s) : Traps c s vec bad := by
  intro a ha
  rw [hc, runTail_enabled hp, hb]
  exact finish_trap ha

/-- An instruction that may branch: the test reads the program counter in `v`, and the state is `u` after it. -/
theorem exec_branchFlow {body : State → Acc Flow} {taken : Bool} {u v : State} (hp : s.predOk = true)
    (hc : exec c s = runTail base t body s) (hb : body s = .ok (branchFlow taken disp v) u) (hv : v.pc = s.pc)
    (hu : u.pc = s.pc) : exec c s = .next (if taken then u.went (s.pc + disp) else u.passed (base + t.len)) := by
  rw [hc, runTail_enabled hp, hb, branchFlow, hv]
  cases taken with
  | true => rfl
  | false => simp only [Bool.false_eq_true, if_false, finish, State.passed, hu]

/-! Conditional branches. -/

theorem branchB_eq (rn : Reg) (t : Tail) (s : State) : branchB rn t s = t.const.getD (s.reg rn) :=
  (srcB_plain s rn t 128 0).trans (BitVec.setWidth_eq _)

/-- The format that compares registers (46_flow_control R531, R534). -/
theorem exec_branchInt {k : BitVec 4} (hp : s.predOk = true) (hc : exec c s = branchInt base k rm rn disp t s) :
    exec c s = .next (if cond k (s.reg rm) (t.const.getD (s.reg rn)) then s.went (s.pc + disp)
      else s.passed (base + t.len)) := by
  rw [← branchB_eq]
  exact exec_branchFlow hp hc rfl rfl rfl

/-- The format that tests a bit whose number is in the instruction (46_flow_control R531, R534). -/
theorem exec_branchBit {k : BitVec 4} (hp : s.predOk = true) (hc : exec c s = branchBit base k rm rn disp t s) :
    exec c s = .next (if cond k (s.reg rm) (t.const.getD (rn.setWidth 128)) then s.went (s.pc + disp)
      else s.passed (base + t.len)) :=
  exec_branchFlow hp hc rfl rfl rfl

/-- The two outcomes of a branch, by a proposition that its condition decides. -/
theorem outcomes_of_taken {taken : Bool} {p : Prop} {u v : State} (hc : exec c s = .next (if taken then u else v))
    (hp : taken = true ↔ p) : (p → exec c s = .next u) ∧ (¬ p → exec c s = .next v) := by
  rw [← hp, hc]
  exact ⟨fun h => by rw [if_pos h], fun h => by rw [if_neg h]⟩

theorem not_bitTest_iff (a b : Word) : (!bitTest a b) = true ↔ a.getLsbD b.toNat = false := by
  rw [Bool.not_eq_true', bitTest]

/-- Settles O37: each branch has the number of its condition, which decides the comparison of the statement. -/
theorem integerBranches : Obligations.IntegerBranches := by
  intro o l t s hp go on bit
  have hon {c d : Instr} {p : Word → Word → Prop} (k : BitVec 4) (hk : ∀ a b, cond k a b = true ↔ p a b)
      (hc : exec c s = branchInt 5 k o.rm o.rn (o.disp.signExtend 64) t s)
      (hd : exec d s = branchInt 6 k l.rm l.rn (l.disp.signExtend 64) t s) : on c d p :=
    ⟨outcomes_of_taken (exec_branchInt hp hc) (hk _ _), outcomes_of_taken (exec_branchInt hp hd) (hk _ _)⟩
  have hbit {c d : Instr} {v : Bool} (k : BitVec 4) (hk : ∀ a b, cond k a b = true ↔ a.getLsbD b.toNat = v)
      (hc : exec c s = branchBit 5 k o.rm o.rn (o.disp.signExtend 64) t s)
      (hd : exec d s = branchBit 6 k l.rm l.rn (l.disp.signExtend 64) t s) : bit c d v :=
    ⟨outcomes_of_taken (exec_branchBit hp hc) (hk _ _), outcomes_of_taken (exec_branchBit hp hd) (hk _ _)⟩
  exact ⟨hon 0 (fun _ _ => beq_iff_eq) rfl rfl, hon 1 (fun _ _ => bne_iff_ne) rfl rfl,
    hon 2 (fun _ _ => BitVec.slt_iff_toInt_lt) rfl rfl, hon 3 (fun _ _ => BitVec.sle_iff_toInt_le) rfl rfl,
    hon 4 (fun _ _ => BitVec.sle_iff_toInt_le) rfl rfl, hon 5 (fun _ _ => BitVec.slt_iff_toInt_lt) rfl rfl,
    hon 6 not_bitTest_iff rfl rfl, hon 7 (fun _ _ => Iff.rfl) rfl rfl,
    hon 10 (fun _ _ => BitVec.ult_iff_lt) rfl rfl, hon 11 (fun _ _ => BitVec.ule_iff_le) rfl rfl,
    hon 12 (fun _ _ => BitVec.ule_iff_le) rfl rfl, hon 13 (fun _ _ => BitVec.ult_iff_lt) rfl rfl,
    hbit 8 not_bitTest_iff rfl rfl, hbit 9 (fun _ _ => Iff.rfl) rfl rfl⟩

theorem floatB_plain (v : Option Word) (rn : Reg) (s : State) :
    (floatB v false rn).value .plain false s 128 0 = v.getD (s.reg rn) := by
  cases v with
  | none => exact BitVec.setWidth_eq (s.reg rn)
  | some w => exact BitVec.setWidth_eq w

/-- The format that tests the floating-point relation, its constant being `v`, which may have drawn values
(46_flow_control R540; 42_float R405). -/
theorem exec_branchFlt {k : BitVec 4} {v : Option Word} {d : Nat} (hp : s.predOk = true)
    (hv : floatTail t s = .ok v (s.drawn d)) (hc : exec c s = branchFlt base k rm rn disp t s) :
    exec c s = .next ((if (frel (s.reg rm) (v.getD (s.reg rn))).getLsbD k.toNat then s.went (s.pc + disp)
      else s.passed (base + t.len)).drawn d) := by
  rw [exec_branchFlow (u := s.drawn d) (v := s.drawn d) hp hc (by rw [hv]; rfl) rfl rfl, floatB_plain]
  change _ = Host.Outcome.next (State.drawn (if fcond k (s.reg rm) (v.getD (s.reg rn)) then _ else _) d)
  rw [apply_ite fun u : State => u.drawn d]
  rfl

/-- Settles O38: each branch has the number of the bit it tests. -/
theorem floatBranches : Obligations.FloatBranches := by
  intro o l t s hp
  obtain ⟨v, d, hv, hnone⟩ := floatTail_ok t s
  refine ⟨v, d, hv, hnone, ?_⟩
  intro go on
  have hon {i j : Instr} (k : BitVec 4) (hi : exec i s = branchFlt 5 k o.rm o.rn (o.disp.signExtend 64) t s)
      (hj : exec j s = branchFlt 6 k l.rm l.rn (l.disp.signExtend 64) t s) : on i j k.toNat :=
    ⟨exec_branchFlt hp hv hi, exec_branchFlt hp hv hj⟩
  exact ⟨hon 0 rfl rfl, hon 1 rfl rfl, hon 2 rfl rfl, hon 3 rfl rfl, hon 4 rfl rfl, hon 5 rfl rfl, hon 6 rfl rfl,
    hon 7 rfl rfl, hon 8 rfl rfl, hon 9 rfl rfl, hon 10 rfl rfl, hon 11 rfl rfl, hon 12 rfl rfl, hon 13 rfl rfl⟩

/-! BRA, BSR and DBcc. -/

/-- BSR and LBSR link the address after the instruction (46_flow_control R547, R562). -/
theorem exec_branchLink {lr : BitVec 2} (hp : s.predOk = true) (hc : exec c s = branchLink base lr disp t s) :
    exec c s = .next ((s.setReg (56 + lr.setWidth 6) ((s.pc + .ofNat 64 (base + t.len)).setWidth 128)).went (s.pc + disp)) :=
  exec_goto hp hc rfl

theorem sub_one_eq_allOnes_iff (v : Word) : v - 1 = BitVec.allOnes 128 ↔ v = 0 := by
  rw [BitVec.sub_eq_iff_eq_add]
  exact Iff.rfl

/-- DBcc, its condition being `p`: the counter is minus one after the decrement exactly where it was zero before it
(46_flow_control R552). -/
theorem exec_decBranch {body : State → Acc Flow} {p : Bool} {d : Nat} (hp : s.predOk = true)
    (hc : exec c s = runTail base t body s) (hb : body s = decBranch p disp (s.drawn d)) :
    exec c s = .next (if p = false ∧ s.reg 55 ≠ 0 then ((s.setReg 55 (s.reg 55 - 1)).drawn d).went (s.pc + disp)
      else ((s.setReg 55 (s.reg 55 - 1)).drawn d).passed (base + t.len)) := by
  have htaken : (!p && s.reg 55 - 1 != BitVec.allOnes 128) = true ↔ p = false ∧ s.reg 55 ≠ 0 := by
    rw [Bool.and_eq_true, Bool.not_eq_true', bne_iff_ne, Ne, sub_one_eq_allOnes_iff]
  have hset : (s.drawn d).setReg 55 (s.reg 55 - 1) = (s.setReg 55 (s.reg 55 - 1)).drawn d := s.setReg_drawn d 55 _
  rw [exec_branchFlow hp hc (hb.trans (congrArg (Acc.ok _) hset)) rfl (State.pc_setReg _ _ _)]
  simp only [← htaken]
  rfl

/-- Settles O39: BRA and BSR always go to their target; DBcc, on either kind of condition, ends as `exec_decBranch` says. -/
theorem branchesLinksAndLoops : Obligations.BranchesLinksAndLoops := by
  intro d29 d37 lr o t s hp link loop
  obtain ⟨v, d, hv, hnone⟩ := floatTail_ok t s
  refine ⟨exec_goto hp (exec_bra d29 t s) rfl, exec_goto hp (exec_lbra d37 t s) rfl,
    exec_branchLink hp (exec_bsr lr d29 t s), exec_branchLink hp (exec_lbsr lr d37 t s),
    ⟨s.draws, exec_decBranch hp (exec_dbcc o t s) ?_⟩,
    v, s.drawn d, hv, hnone, d, exec_decBranch hp (exec_dbccFloat o t s) ?_⟩
  · simp only [branchB_eq, immOr, apply_ite t.const.getD]
    rfl
  · simp only [hv, Acc.bind, floatB_plain]
    rfl

end Sys2Proof.Machine

/-! Jumps, calls, table jumps and returns from subroutines (46_flow_control R553 to R557). -/

namespace Sys2Proof.Machine

variable {s : State} {t : Tail} {c : Instr} {base : Nat} {z : Size} {ea : Addr}

/-! Jumps to an address and through memory. -/

/-- JMP links to r0, which discards (10_state R21). -/
theorem jumpTo_zero (len : Nat) (a : Addr) (s : State) : jumpTo len 0 a s = .ok (.goto a) s :=
  congrArg (Acc.ok _) (s.setReg_zero _)

/-- The low `n` bits of the program counter replaced by a value that fits them; where it is wider than the program counter,
its low bits are all of it (46_flow_control R553). -/
theorem replaceLow_eq (pc : Addr) {n v : Nat} (hv : v < 2 ^ n) :
    (pc &&& ~~~((BitVec.allOnes n).setWidth 64)) ||| (BitVec.ofNat n v).setWidth 64 =
      .ofNat 64 (pc.toNat - pc.toNat % 2 ^ n + v) := by
  have hsum : pc.toNat - pc.toNat % 2 ^ n + v = 2 ^ n * (pc.toNat / 2 ^ n) + v := by
    have := Nat.div_add_mod pc.toNat (2 ^ n)
    omega
  apply BitVec.eq_of_getLsbD_eq
  intro i hi
  rw [BitVec.getLsbD_ofNat, hsum, Nat.testBit_two_pow_mul_add _ hv, BitVec.getLsbD_or, BitVec.getLsbD_and,
    BitVec.getLsbD_not, BitVec.getLsbD_setWidth, BitVec.getLsbD_setWidth, BitVec.getLsbD_allOnes, BitVec.getLsbD_ofNat]
  by_cases hin : i < n
  · simp [hi, hin]
  · rw [Nat.testBit_div_two_pow, Nat.sub_add_cancel (Nat.le_of_not_lt hin)]
    simp [hi, hin, BitVec.getLsbD]

/-- The program counter a value read from memory gives: added to, or its low bytes replaced (46_flow_control R553). -/
theorem loadedPc_eq (op : Bool) (z : Size) {v : Nat} (hv : v < 256 ^ z.bytes) (pc : Addr) :
    loadedPc op z v pc = if op then pc + (BitVec.ofNat z.bits v).signExtend 64
      else .ofNat 64 (if z = .h then v else pc.toNat - pc.toNat % 256 ^ z.bytes + v) := by
  have hlow := replaceLow_eq pc (size_pow_bytes z ▸ hv)
  unfold loadedPc
  cases op with
  | true => rfl
  | false =>
    simp only [Bool.false_eq_true, if_false]
    rw [hlow, size_pow_bytes]
    split
    · next hz =>
      have hpc : pc.toNat % 2 ^ z.bits = pc.toNat := by
        subst hz
        exact Nat.mod_eq_of_lt (Nat.lt_of_lt_of_le pc.isLt (by decide))
      rw [hpc, Nat.sub_self, Nat.zero_add]
    · rfl

/-- Where memory holds the target, the jump goes there, and the link is written after the read. -/
theorem jumpInd_ram {len : Nat} {rt : Reg} {op : Bool} (h : s.ram ea z.bytes) :
    jumpInd len rt op z ea s = jumpTo len rt (if op then s.pc + (BitVec.ofNat z.bits (s.data ea z.bytes)).signExtend 64
      else .ofNat 64 (if z = .h then s.data ea z.bytes
        else s.pc.toNat - s.pc.toNat % 256 ^ z.bytes + s.data ea z.bytes)) s := by
  rw [jumpInd, memRead_ram h (size_bytes_le z), Acc.bind, loadedPc_eq op z (s.data_lt ea z.bytes)]

/-- A jump and the call with the same target (46_flow_control R553, R554). -/
theorem exec_jump_call {i j : Instr} {fi fj : State → Acc Flow} {rt : Reg} {a : Addr} (hp : s.predOk = true)
    (hi : exec i s = runTail 5 t fi s) (hj : exec j s = runTail 5 t fj s) (hfi : fi s = jumpTo (5 + t.len) 0 a s)
    (hfj : fj s = jumpTo (5 + t.len) rt a s) : exec i s = .next (s.went a) ∧
      exec j s = .next ((s.setReg rt ((s.pc + .ofNat 64 (5 + t.len)).setWidth 128)).went a) :=
  ⟨exec_goto hp hi (hfi.trans (jumpTo_zero _ _ _)), exec_goto hp hj hfj⟩

/-! Table jumps. -/

theorem tableJump_beyond {len : Nat} {rt : Reg} {o : TabJ} (h : o.limit.toNat < (s.reg o.ra).toNat * o.size.bytes) :
    tableJump len rt o s = .trap ⟨66, none⟩ s := if_pos h

theorem tableJump_within {len : Nat} {rt : Reg} {o : TabJ} (h : (s.reg o.ra).toNat * o.size.bytes ≤ o.limit.toNat) :
    tableJump len rt o s = jumpInd len rt o.op o.size
      (s.pc + .ofNat 64 len + .ofNat 64 ((s.reg o.ra).toNat * o.size.bytes)) s := if_neg (Nat.not_lt.2 h)

/-! Returns from subroutines. -/

/-- A register operand of ADD under its S bit: r0 reads as all ones (10_state R21). -/
theorem src_value_neg (on : Bool) (r : Reg) (s : State) (w k : Nat) : (srcOf false r).value .neg on s w k =
    if on ∧ r = 0 then BitVec.allOnes w else if on then -(s.reg r).setWidth w else (s.reg r).setWidth w := by
  simp [srcOf, Src.value, decorate]

/-- The same value, decided by the S bit first. -/
theorem src_value_neg_cases (on : Bool) (r : Reg) (s : State) (w k : Nat) : (srcOf false r).value .neg on s w k =
    if on then if r = 0 then BitVec.allOnes w else -(s.reg r).setWidth w else (s.reg r).setWidth w := by
  rw [src_value_neg]
  cases on <;> simp

theorem srcB_value_neg (on : Bool) (r : Reg) (t : Tail) (s : State) (w k : Nat) : (srcB false r t).value .neg on s w k =
    (t.const.map fun v => v.setWidth w).getD
      (if on ∧ r = 0 then BitVec.allOnes w else if on then -(s.reg r).setWidth w else (s.reg r).setWidth w) := by
  rw [← src_value_neg on r s w k, srcB]
  cases t.const <;> rfl

/-- The register format, whose target is `rt`: the operands of ADD, then the jump to the link register as it was
(46_flow_control R556). -/
theorem exec_returnReg {o : RtdR} {rt : Reg} {st : Bool} (hp : s.predOk = true) (hc : exec c s = rtdReg o rt st t s) :
    exec c s = .next ((addTo o.size st rt ((srcOf false o.ra).value .neg o.sa s o.size.bits 0)
      ((srcB false o.rb t).value .neg o.sb s o.size.bits 0) s).went ((s.reg (linkReg o.lr)).setWidth 64)) :=
  exec_goto hp hc rfl

/-- The immediate format, whose target is `rt` (46_flow_control R556). -/
theorem exec_returnImm {o : RtdI} {rt : Reg} {st : Bool} (hp : s.predOk = true) (hc : exec c s = rtdImm o rt st t s) :
    exec c s = .next ((addTo o.size st rt ((srcOf false o.ra).value .neg o.sa s o.size.bits 0)
      ((t.const.getD ((o.imm ++ 0#4).signExtend 128)).setWidth o.size.bits) s).went ((s.reg (linkReg o.lr)).setWidth 64)) :=
  exec_goto hp hc rfl

/-- RTS adds nothing: r0 discards the sum (46_flow_control R557). -/
theorem addTo_zero (z : Size) (st : Bool) (a b : BitVec z.bits) (s : State) : addTo z st 0 a b s = s := s.setReg_zero _

/-- Settles O40: a jump goes to its address or to the one read, a table jump is a jump through memory within its limit, and a
return goes to the link register as it was. -/
theorem jumpsCallsTablesAndReturns : Obligations.JumpsCallsTablesAndReturns := by
  refine ⟨⟨fun a b c d t s hp => ?_, fun o t s hp => ?_⟩, fun o i t s hp => ?_⟩
  · intro link base index jumps through
    exact ⟨exec_jump_call hp rfl rfl rfl rfl, exec_jump_call hp rfl rfl rfl rfl,
      fun h => exec_jump_call hp rfl rfl (jumpInd_ram h) (jumpInd_ram h),
      fun h => exec_jump_call hp rfl rfl (jumpInd_ram h) (jumpInd_ram h)⟩
  · intro after off ea v dest
    exact ⟨fun h => ⟨traps_runTail hp rfl (tableJump_beyond h), traps_runTail hp rfl (tableJump_beyond h)⟩,
      fun h hr => exec_jump_call hp (exec_braTable o t s) (exec_bsrTable o t s)
        ((tableJump_within h).trans (jumpInd_ram hr)) ((tableJump_within h).trans (jumpInd_ram hr))⟩
  · intro link neg src sum sumi
    refine ⟨(exec_returnReg hp (exec_rtdReg o t s)).trans ?_, (exec_returnImm hp (exec_rtdImm i t s)).trans ?_,
      (exec_returnReg hp (exec_rtsReg o t s)).trans ?_, (exec_returnImm hp (exec_rtsImm i t s)).trans ?_⟩
    · rw [src_value_neg, srcB_value_neg]
      rfl
    · rw [src_value_neg]
      rfl
    · rw [addTo_zero]
      rfl
    · rw [addTo_zero]
      rfl

end Sys2Proof.Machine

/-! RTE, TRAP and BRK (46_flow_control R545, R558, R560; 60_exceptions R770, R776). -/

namespace Sys2Proof.Machine

variable {s : State} {t : Tail} {c : Instr} {d : Nat}

/-! The exception stack. -/

/-- The exception stack with `d` slots popped, 1 or 2 (60_exceptions R776). -/
def popped (d : Nat) (st : Vector Slot 8) : Vector Slot 8 := if d == 2 then popSlot (popSlot st) else popSlot st

theorem getElem_popSlot (st : Vector Slot 8) (k : Nat) (hk : k < 8) :
    (popSlot st)[k] = if h : k + 1 < 8 then st[k + 1] else st[7] := by
  simp only [popSlot, Vector.getElem_ofFn]
  by_cases h : k + 1 < 8
  · simp only [dif_pos h, Nat.min_eq_left (Nat.le_of_lt_succ h)]
  · simp only [dif_neg h, Nat.min_eq_right (show 7 ≤ k + 1 by omega)]

/-- A slot popped is the one so many places above it; beyond the last slot, the last (60_exceptions R776). -/
theorem getElem_popped (hd : d = 1 ∨ d = 2) (st : Vector Slot 8) (k : Nat) (hk : k < 8) :
    (popped d st)[k] = if h : k + d < 8 then st[k + d] else st[7] := by
  obtain rfl | rfl := hd
  · exact getElem_popSlot st k hk
  · show (popSlot (popSlot st))[k] = _
    by_cases h1 : k + 1 < 8
    · rw [getElem_popSlot, dif_pos h1, getElem_popSlot]
    · rw [getElem_popSlot, dif_neg h1, getElem_popSlot, dif_neg (by omega), dif_neg (by omega)]

/-! Return from exception. -/

/-- The slot a return through `d` slots takes. -/
def State.returnSlot (s : State) (d : Nat) : Slot := if d == 2 then s.stack[1] else s.stack[0]

/-- What a return through `d` slots leaves, but for the stack pointer and the program counter (60_exceptions R776). -/
def State.returned (s : State) (d : Nat) : State :=
  { s with
    stack := popped d s.stack
    sr := if (s.returnSlot d).app then s.sr else (s.returnSlot d).sr &&& srMask
    repHold := (s.returnSlot d).holdPrev }

/-- Below machine mode every slot popped must be an application's (46_flow_control R558; log 45). -/
def State.returnRefused (s : State) (d : Nat) : Prop :=
  s.mode ≠ 3 ∧ (s.stack[0].app = false ∨ (d = 2 ∧ s.stack[1].app = false))

theorem State.returnRefused_iff (s : State) (d : Nat) :
    (s.mode != 3 && (!s.stack[0].app || (d == 2 && !s.stack[1].app))) = true ↔ s.returnRefused d := by
  simp [State.returnRefused]

theorem rteState_refused (skip : BitVec 7) (h : s.returnRefused d) : rteState d skip s = .trap .privilege s :=
  if_pos ((s.returnRefused_iff d).2 h)

theorem rteState_returns (skip : BitVec 7) (h : ¬ s.returnRefused d) :
    rteState d skip s = .ok ((s.returnSlot d).pc + skip.setWidth 64) (s.returned d) := by
  rw [rteState, if_neg (mt (s.returnRefused_iff d).1 h)]
  rfl

/-- An RTE through `d` slots: the stack pointer moves in the mode returned to (46_flow_control R558). -/
theorem exec_rte {o : RteOp} (hp : s.predOk = true) (hc : exec c s = runTail 5 t (rteOp d o) s) :
    (s.returnRefused d → Traps c s 8 none) ∧
      (¬ s.returnRefused d → exec c s = .next ((addTo o.size o.st o.rt
        ((srcOf false o.ra).value .neg o.sa (s.returned d) o.size.bits 0) (.ofNat o.size.bits (16 * o.arg.toNat))
        (s.returned d)).went ((s.returnSlot d).pc + o.skip.setWidth 64))) :=
  ⟨fun h => traps_runTail hp hc (congrArg (Acc.bind · _) (rteState_refused o.skip h)),
    fun h => exec_goto hp hc (congrArg (Acc.bind · _) (rteState_returns o.skip h))⟩

/-- Settles O41: the state returned to is `State.returned`, at either depth. -/
theorem returnsFromExceptions : Obligations.ReturnsFromExceptions := by
  intro o t s hp returns
  have hreturns {c : Instr} (d : Nat) (hd : d = 1 ∨ d = 2) (hc : exec c s = runTail 5 t (rteOp d o) s) : returns c d := by
    obtain ⟨hrefused, hok⟩ := exec_rte hp hc
    refine ⟨hrefused, fun h => ⟨s.returned d, ?_, fun k => getElem_popped hd s.stack k k.isLt, (hok h).trans ?_⟩⟩
    · obtain rfl | rfl := hd <;> rfl
    · rw [src_value_neg_cases]
      obtain rfl | rfl := hd <;> rfl
  exact ⟨hreturns 1 (.inl rfl) (exec_rte1 o t s), hreturns 2 (.inr rfl) (exec_rte2 o t s)⟩

/-! TRAP and BRK. -/

/-- Writing a register leaves the vector tables and what memory holds there. -/
theorem State.handler_setReg {vec : BitVec 9} {a : Addr} (rt : Reg) (v : Word) (h : s.handler vec a) :
    (s.setReg rt v).handler vec a := by
  rw [State.setReg_eq]
  exact h

/-- The exception of the number is taken from the state in which Rt holds the data (60_exceptions R770). -/
theorem exec_trapOp {n : BitVec 9} {rt : Reg} {data : Word} {a : Addr} (hp : s.predOk = true)
    (hc : exec c s = trapOp n rt data t s) (ha : s.handler (if n = 0 then 32 else n) a) :
    exec c s = .next { (s.setReg rt data).took (if n = 0 then 32 else n) (s.pc + .ofNat 64 (5 + t.len)) none a with
      retire := .trap } := by
  rw [hc, trapOp, if_pos hp]
  exact enter_handler (s := { s.setReg rt data with retire := .trap }) (State.handler_setReg rt data ha)

/-- Settles O42: all three take the exception of their number from the state in which Rt holds the data. -/
theorem trapAndBreakpoint : Obligations.TrapAndBreakpoint := by
  intro o i t s a hp after n traps
  exact ⟨exec_trapOp hp (exec_brk t s), exec_trapOp hp (exec_trapRa o t s), exec_trapOp hp (exec_trapImm i t s)⟩

end Sys2Proof.Machine

/-! Exception entry (60_exceptions R741, R765, R770 to R774): SR as an entry leaves it, what is pushed and written, what
MemRead of the vector table may change, and the modes. -/

namespace Sys2Proof.Machine

section
variable {s t : State}

/-! SR after an entry. -/

/-- Another operating mode is in bits 10 and 11, and no other bit of SR changes (10_state R35). -/
theorem getLsbD_srWithMode (sr : BitVec 32) (m : BitVec 2) {j : Nat} (hj : j < 32) :
    (srWithMode sr m).getLsbD j = if 10 ≤ j ∧ j < 12 then m.getLsbD (j - 10) else sr.getLsbD j := by
  simp only [srWithMode, BitVec.getLsbD_or, BitVec.getLsbD_and, BitVec.getLsbD_shiftLeft, BitVec.getLsbD_setWidth]
  interval_cases j <;> simp

/-- Another interrupt mask level is in bits 5 to 7, and no other bit of SR changes (10_state R35). -/
theorem getLsbD_srWithIpl (sr : BitVec 32) (l : BitVec 3) {j : Nat} (hj : j < 32) :
    (srWithIpl sr l).getLsbD j = if 5 ≤ j ∧ j < 8 then l.getLsbD (j - 5) else sr.getLsbD j := by
  simp only [srWithIpl, BitVec.getLsbD_or, BitVec.getLsbD_and, BitVec.getLsbD_shiftLeft, BitVec.getLsbD_setWidth]
  interval_cases j <;> simp

/-- SR as a system vector's entry leaves it: machine mode, tracing off (60_exceptions R771). -/
theorem getLsbD_enteredSr (sr : BitVec 32) {j : Nat} (hj : j < 32) :
    (srWithMode sr 3 &&& ~~~0x200).getLsbD j = if 10 ≤ j ∧ j < 12 then true else if j = 9 then false else sr.getLsbD j := by
  rw [BitVec.getLsbD_and, getLsbD_srWithMode sr 3 hj]
  interval_cases j <;> simp

theorem enteredSr_mode (sr : BitVec 32) : (srWithMode sr 3 &&& ~~~0x200).extractLsb' 10 2 = 3 := by
  apply BitVec.eq_of_getLsbD_eq
  intro i hi
  rw [BitVec.getLsbD_extractLsb', getLsbD_enteredSr sr (by omega), if_pos (by omega)]
  interval_cases i <;> rfl

theorem enteredSr_ipl (sr : BitVec 32) : (srWithMode sr 3 &&& ~~~0x200).extractLsb' 5 3 = sr.extractLsb' 5 3 := by
  apply BitVec.eq_of_getLsbD_eq
  intro i hi
  rw [BitVec.getLsbD_extractLsb', BitVec.getLsbD_extractLsb', getLsbD_enteredSr sr (by omega), if_neg (by omega),
    if_neg (by omega)]

theorem srWithIpl_ipl (sr : BitVec 32) (l : BitVec 3) : (srWithIpl sr l).extractLsb' 5 3 = l := by
  apply BitVec.eq_of_getLsbD_eq
  intro i hi
  rw [BitVec.getLsbD_extractLsb', getLsbD_srWithIpl sr l (by omega), if_pos (by omega), Nat.add_sub_cancel_left]
  simp [hi]

/-! The state an entry leaves. -/

/-- SR with the level of an interrupt that is accepted (60_exceptions R765). -/
def Entry.sr (k : Entry) (sr : BitVec 32) : BitVec 32 :=
  match k with
  | .interrupt l _ => srWithIpl sr l
  | _ => sr

/-- What an entry writes to the cause register (60_exceptions R770). -/
def Entry.code (k : Entry) (vec : BitVec 9) : BitVec 12 :=
  match k with
  | .interrupt _ c => c.setWidth 12
  | _ => vec.setWidth 12

theorem Entry.getLsbD_sr (k : Entry) (sr : BitVec 32) {j : Nat} (hj : j < 32) (hl : j < 5 ∨ 8 ≤ j) :
    (k.sr sr).getLsbD j = sr.getLsbD j := by
  cases k with
  | interrupt l c => exact (getLsbD_srWithIpl sr l hj).trans (if_neg (by omega))
  | sync | trace => rfl

theorem getElem_pushSlot_zero (e : Slot) (st : Vector Slot 8) : (pushSlot e st)[0] = e := by simp [pushSlot]

theorem getElem_pushSlot_succ (e : Slot) (st : Vector Slot 8) (j : Fin 7) : (pushSlot e st)[j.val + 1] = st[j.val] := by
  simp [pushSlot]

theorem enterState_sr_system {k : Entry} {vec : BitVec 9} (h : vec.toNat < 64) (epc : Addr) (bad : Option Addr) (s : State) :
    (enterState k vec epc bad s).sr = srWithMode (k.sr s.sr) 3 &&& ~~~0x200 := (if_pos h).trans (by cases k <;> rfl)

theorem enterState_sr_application {k : Entry} {vec : BitVec 9} (h : 64 ≤ vec.toNat) (epc : Addr) (bad : Option Addr)
    (s : State) : (enterState k vec epc bad s).sr = s.sr := if_neg (Nat.not_lt.2 h)

/-- Below vector 64: machine mode, tracing off, the level of the entry, and every other bit of SR as it was (60_exceptions R765,
R771). -/
theorem enterState_sr_fields {k : Entry} {vec : BitVec 9} (h : vec.toNat < 64) (epc : Addr) (bad : Option Addr) (s : State) :
    (enterState k vec epc bad s).mode = 3 ∧ (enterState k vec epc bad s).te = false ∧
      (enterState k vec epc bad s).ipl = (k.sr s.sr).extractLsb' 5 3 ∧
      ∀ j, j < 5 ∨ j = 8 ∨ 12 ≤ j → (enterState k vec epc bad s).sr.getLsbD j = s.sr.getLsbD j := by
  simp only [State.mode, State.te, State.ipl, enterState_sr_system h]
  refine ⟨enteredSr_mode _, by rw [getLsbD_enteredSr _ (by decide)]; rfl, enteredSr_ipl _, fun j hj => ?_⟩
  by_cases h32 : j < 32
  · rw [getLsbD_enteredSr _ h32, if_neg (by omega), if_neg (by omega), k.getLsbD_sr s.sr h32 (by omega)]
  · rw [BitVec.getLsbD_of_ge _ _ (Nat.not_lt.1 h32), BitVec.getLsbD_of_ge _ _ (Nat.not_lt.1 h32)]

/-- The cause goes to the register of machine mode, of an application's vector to that of the mode (60_exceptions R770). -/
theorem enterState_cause (k : Entry) (vec : BitVec 9) (epc : Addr) (bad : Option Addr) (s : State) (m : BitVec 2) :
    (enterState k vec epc bad s).cause[m.toNat] =
      if m = (if vec.toNat < 64 then 3 else s.mode) then k.code vec else s.cause[m.toNat] := by
  simp only [enterState, Vector.getElem_set, ← BitVec.toNat_inj, eq_comm (a := m.toNat)]
  by_cases h : vec.toNat < 64
  · simp only [if_pos h]
    cases k <;> rfl
  · simp only [if_neg h]
    cases k <;> rfl

/-! What MemRead changes, also where it traps. -/

/-- `t` is `s` but for the TLB and the count of values drawn: what a translation may change. -/
def State.Translated (s t : State) : Prop := ∃ b d, t = { s with tlb := b, draws := d }

theorem State.Translated.refl (s : State) : s.Translated s := ⟨s.tlb, s.draws, rfl⟩

theorem State.Translated.set (ht : s.Translated t) (b : Tlb) (d : Nat) : s.Translated { t with tlb := b, draws := d } := by
  obtain ⟨_, _, rfl⟩ := ht
  exact ⟨b, d, rfl⟩

theorem tlbMiss_translated {α : Type} (va : Addr) (ht : s.Translated t) :
    (tlbMiss va t : Acc α).Leaves s.Translated s.Translated := ht.set _ t.draws

theorem checkHit_translated (k : Kind) (m : BitVec 2) (va : Addr) (n way : Nat) (ht : s.Translated t) :
    (checkHit k m va n way t).Leaves s.Translated s.Translated := by
  simp only [checkHit]
  split
  · exact tlbMiss_translated va ht
  · exact .ite ht (.ite ht (.ite (ht.set _ t.draws) (ht.set _ t.draws)))

theorem locate_translated (k : Kind) (m : BitVec 2) (va : Addr) (n : Nat) (ht : s.Translated t) :
    (locate k m va n t).Leaves s.Translated s.Translated := by
  unfold locate
  split
  · exact ht
  · split
    · exact checkHit_translated k m va n _ ht
    · trivial
    · split
      · exact tlbMiss_translated va ht
      · split
        · exact tlbMiss_translated va ht
        · rename_i hit _
          have hr : s.Translated (t.refill va hit) := ht.set _ _
          simp only
          split
          · exact checkHit_translated k m va n _ hr
          · trivial
          · exact tlbMiss_translated va hr

theorem readPiece_translated (k : Kind) (m : BitVec 2) (va : Addr) (n : Nat) (ht : s.Translated t) :
    (readPiece k m va n t).Leaves s.Translated s.Translated :=
  (locate_translated k m _ n ht).bind fun pa _ hu => Working.busRead _ pa n hu

/-- MemRead changes the TLB and the count of values drawn only, whether it answers or traps (20_memory R101, R150). -/
theorem memReadAs_translated (k : Kind) (m : BitVec 2) (va : Addr) (n : Nat) (s : State) :
    (memReadAs k m va n s).Leaves s.Translated s.Translated :=
  have first := fun n => readPiece_translated k m va n (.refl s)
  .ite (first n) ((first _).bind fun _ _ ht => (readPiece_translated k m _ _ ht).bind fun _ _ hu => hu)

/-! Taking an exception. -/

/-- Whatever is read from the vector table, taking an exception leaves the state of `enterState` but for the TLB, the count of
values drawn, the program counter and the halt (60_exceptions R770). -/
theorem enter_frame {k : Entry} {vec : BitVec 9} {epc : Addr} {bad : Option Addr} (h : enter k vec epc bad s = .next t) :
    ∃ b d a halt, t = { enterState k vec epc bad s with tlb := b, draws := d, pc := a, halted := halt } := by
  have hread := memReadAs_translated .read (vectorEntry vec (enterState k vec epc bad s)).2
    (vectorEntry vec (enterState k vec epc bad s)).1 8 (enterState k vec epc bad s)
  simp only [enter] at h
  split at h
  · rename_i he
    rw [he] at hread
    obtain ⟨b, d, rfl⟩ := hread
    injection h with ht
    exact ⟨b, d, _, _, ht.symm⟩
  · rename_i he
    rw [he] at hread
    obtain ⟨b, d, rfl⟩ := hread
    injection h with ht
    exact ⟨b, d, _, _, ht.symm⟩
  · cases h

/-- A range of bytes with one that nothing claims has a first such byte. -/
theorem State.exists_gap {va : Addr} {n : Nat} (hf : s.flat) (hd : ∀ i, i < n → s.device (va + .ofNat 64 i).toNat = none)
    (hc : ∃ i, i < n ∧ s.claimed (va + .ofNat 64 i).toNat = false) : ∃ b, s.Gap va n b := by
  obtain ⟨hn, hfirst⟩ := Nat.find_spec hc
  exact ⟨Nat.find hc, hf, hn, hd,
    fun i hi => by simpa [show i < n by omega] using Nat.find_min hc hi, hfirst⟩

/-- Where nothing claims a byte of the vector the core halts (60_exceptions R770; log 26). -/
theorem enter_gap {k : Entry} {vec : BitVec 9} {epc : Addr} {bad : Option Addr} {b : Nat}
    (h : s.Gap (vectorEntry vec s).1 8 b) :
    enter k vec epc bad s = .next { enterState k vec epc bad s with halted := true } := by
  have hgap : (enterState k vec epc bad s).Gap (vectorEntry vec (enterState k vec epc bad s)).1 8 b := by
    rw [vectorEntry_enterState]
    exact ⟨h.flat, h.lt, h.device, h.below, h.unclaimed⟩
  simp only [enter, hgap.memReadAs (by decide)]

/-- Settles O46: both outcomes are the state of `enterState`, but for the program counter and the halt. -/
theorem exceptionEntryAndVectorTable : Obligations.ExceptionEntryAndVectorTable := by
  refine ⟨fun k vec epc bad s => ?_, fun vec s => ⟨fun h => if_pos h, fun h => if_neg (Nat.not_lt.2 h)⟩⟩
  intro entered
  have hentered : ∀ a halt, entered { enterState k vec epc bad s with pc := a, halted := halt } := by
    intro a halt
    refine ⟨by cases bad <;> rfl, ?_, getElem_pushSlot_succ _ s.stack, fun m => ?_,
      fun h => enterState_sr_application h epc bad s, fun h => ?_⟩
    · refine (getElem_pushSlot_zero _ s.stack).trans ?_
      simp only [← Nat.not_lt, decide_not]
    · exact (enterState_cause k vec epc bad s m).trans (by cases k <;> rfl)
    · obtain ⟨hmode, hte, hipl, hbits⟩ := enterState_sr_fields (k := k) h epc bad s
      refine ⟨hmode, hte, hipl.trans ?_, hbits⟩
      cases k with
      | interrupt l c => exact srWithIpl_ipl s.sr l
      | sync | trace => rfl
  exact ⟨fun a ha => ⟨_, enter_handler ha, hentered a s.halted, rfl, rfl⟩, fun hf hd hc =>
    (State.exists_gap hf hd hc).elim fun b hgap => ⟨_, enter_gap hgap, hentered s.pc true, rfl, rfl⟩⟩

/-! What an instruction can do to the mode. -/

theorem State.srWritable_below (h : s.mode ≠ 3) : s.srWritable.extractLsb' 10 2 = 0#2 := by
  rw [State.srWritable_eq]
  obtain h0 | h1 | h2 | h3 := mode_cases s.mode
  · rw [if_pos h0]; rfl
  · rw [h1]; rfl
  · rw [h2]; rfl
  · exact absurd h3 h

theorem State.csrWrite_mode (h : s.mode ≠ 3) (c : Csr) (v : Word) : (s.csrWrite c v).mode = s.mode := by
  cases c with
  | sr =>
    have hw := State.srWritable_below h
    simp only [State.mode, State.csrWrite, BitVec.extractLsb'_or, BitVec.extractLsb'_and,
      BitVec.extractLsb'_not_of_lt (show 10 + 2 < 32 by decide), hw, BitVec.not_zero, BitVec.and_allOnes, BitVec.and_zero,
      BitVec.or_zero]
  | _ => rfl

/-- Below machine mode a return from exception that completes leaves SR: it returns to an application (60_exceptions R776). -/
theorem rteState_sr {d : Nat} {k : BitVec 7} {a : Addr} (h : s.mode ≠ 3) (hr : rteState d k s = .ok a t) : t.sr = s.sr := by
  by_cases hrefused : s.returnRefused d
  · rw [rteState_refused k hrefused] at hr
    cases hr
  · rw [rteState_returns k hrefused] at hr
    injection hr with _ ht
    have happ : (s.returnSlot d).app = true := by
      simp only [State.returnRefused, not_and_or, not_or, not_not, Bool.not_eq_false] at hrefused
      unfold State.returnSlot
      split
      · simp_all
      · simp_all
    rw [← ht]
    exact if_pos happ

/-- Below machine mode no instruction changes SR while it works, and the mode when it completes. -/
theorem below_completing {r : BitVec 32} (hr : r.extractLsb' 10 2 ≠ 3) :
    Completing (fun s => s.sr = r) (fun s => s.mode = r.extractLsb' 10 2) where
  regs _ _ _ _ _ _ h := h
  vectors _ _ _ h := h
  tlbDraws _ _ h := h
  units _ _ _ h := h
  mem _ _ _ h _ := h
  win _ h _ := h
  repbuf _ h := h
  flow _ _ _ h := h
  weaken h := congrArg (BitVec.extractLsb' 10 2) h
  csrWrite c v h := by
    subst h
    exact State.csrWrite_mode hr c v
  rte h hret := by
    subst h
    exact congrArg (BitVec.extractLsb' 10 2) (rteState_sr hr hret)
  regsAfter _ _ _ _ _ _ h := h
  flowAfter _ _ h := h

/-- Settles O57: an instruction completes in its mode or takes an exception with SR as it was (`Completing.exec`), and the
entry leaves the mode for machine mode through a system vector only. -/
theorem modeRisesOnlyByExceptionEntry : Obligations.ModeRisesOnlyByExceptionEntry := by
  intro i s t hmode hexec
  obtain hdone | ⟨vec, epc, bad, u, hu, henter⟩ := (below_completing hmode).exec i (s := s) rfl t hexec
  · exact .inl hdone
  · obtain ⟨b, d, a, halt, rfl⟩ := enter_frame henter
    by_cases hvec : vec.toNat < 64
    · obtain ⟨hmachine, -⟩ := enterState_sr_fields (k := .sync) hvec epc bad u
      have hcause := enterState_cause .sync vec epc bad u 3
      rw [if_pos hvec, if_pos rfl] at hcause
      refine .inr ⟨hmachine, hu, ?_, rfl, rfl, vec, hvec, hcause⟩
      simp [enterState, pushSlot, hvec]
    · have hsr := enterState_sr_application (k := .sync) (Nat.not_lt.1 hvec) epc bad u
      exact .inl (congrArg (BitVec.extractLsb' 10 2) (hsr.trans hu))

end

end Sys2Proof.Machine

/-! A step of the core between instructions and of one instruction (60_exceptions R764, R765, R768, R790;
49_modifiers R702). -/

namespace Sys2Proof.Machine

section
variable {s t : State}

/-! Interrupt, trace, or the next instruction. -/

theorem Windows.closed_iff (w : Windows) :
    w.closed = true ↔ w.pred = .none ∧ w.carry = .none ∧ w.atom = .none ∧ w.round = .none := by
  simp [Windows.closed, and_assoc]

theorem State.interruptDue_iff (s : State) :
    s.interruptDue = true ↔ s.ipl.toNat < s.irq.1.toNat ∧ s.sr.getLsbD s.mode.toNat = true ∧ s.win.closed = true := by
  simp [State.interruptDue, State.intEnabled, BitVec.lt_def, and_assoc]

theorem coreStep_interrupt (h : s.interruptDue = true) :
    coreStep s = enter (.interrupt s.irq.1 s.irq.2) (24 + s.irq.1.setWidth 9) s.pc none s := if_pos h

theorem coreStep_trace (h : s.interruptDue = false) (ht : s.traceDue = true) (hw : s.win.closed = true) :
    coreStep s = enter .trace 9 s.pc none s := by
  simp only [coreStep, h, ht, hw, Bool.false_eq_true, if_false, Bool.and_self, if_true]

/-- The next instruction, and what follows it. -/
noncomputable def State.ran (s : State) : Host.Outcome State Fault Refusal :=
  match runOne s with
  | (t, .next u) => .next (settle t u)
  | (_, r) => r

theorem coreStep_instruction (h : s.interruptDue = false) (ht : s.traceDue = false ∨ s.win.closed = false) :
    coreStep s = s.ran := by
  have hnot : (s.traceDue && s.win.closed) = false := Bool.and_eq_false_iff.2 ht
  simp only [coreStep, h, hnot, Bool.false_eq_true, if_false]
  rfl

/-! When a trace exception is due. -/

theorem Retire.completed_iff (r : Retire) :
    r.completed = true ↔ r = .seq ∨ r = .jump ∨ r = .rep ∨ ∃ k, r = .opened k := by
  cases r <;> simp [Retire.completed]

theorem repAfter_traceDue (jumped : Bool) (s : State) : (repAfter jumped s).traceDue = s.traceDue :=
  iteInduction (motive := fun t : State => t.traceDue = s.traceDue) (fun _ => rfl) fun _ =>
    iteInduction (motive := fun t : State => t.traceDue = s.traceDue) (fun _ => rfl) fun _ =>
      iteInduction (motive := fun t : State => t.traceDue = s.traceDue) (fun _ => s.traceDue_setReg 55 s.nextCount)
        fun _ => s.traceDue_setReg 55 s.nextCount

/-- Only an instruction that completed makes a trace exception due (60_exceptions R790; log 27). -/
theorem settle_traceDue (s t : State) :
    (settle s t).traceDue = if t.retire.completed then t.traceDue || s.te else t.traceDue := by
  by_cases hc : t.retire.completed = true
  · rw [if_pos hc]
    by_cases hrep : t.retire = .rep ∨ ¬ s.repCounts t
    · rw [settle_uncounted hc hrep]
      rfl
    · obtain ⟨hr, hcounts⟩ := not_or.1 hrep
      rw [settle_counted hc hr (not_not.1 hcounts), repAfter_traceDue]
      rfl
  · rw [if_neg hc, settle, if_neg hc]
    exact iteInduction (motive := fun u : State => u.traceDue = t.traceDue) (fun _ => rfl) fun _ =>
      iteInduction (motive := fun u : State => u.traceDue = t.traceDue) (fun _ => rfl) fun _ => rfl

/-- Settles O47: the three branches of `coreStep`, and what `settle` leaves of a trace exception that is due. -/
theorem interruptsAndTraceBetweenInstructions : Obligations.InterruptsAndTraceBetweenInstructions := by
  intro s a level closed due
  have hclosed : s.win.closed = true ↔ closed := s.win.closed_iff
  have hdue : s.interruptDue = true ↔ due := by rw [State.interruptDue_iff, hclosed]
  refine ⟨fun h ha => (coreStep_interrupt (hdue.2 h)).trans (enter_handler ha), fun h ht hc ha => ?_, fun hc => ?_,
    fun t => ?_⟩
  · have hno : s.interruptDue = false := Bool.eq_false_iff.2 (mt hdue.1 h)
    exact (coreStep_trace hno ht (hclosed.2 hc)).trans (enter_handler ha)
  · have hopen : s.win.closed = false := Bool.eq_false_iff.2 (mt hclosed.1 hc)
    have hno : s.interruptDue = false := by simp only [State.interruptDue, hopen, Bool.and_false]
    exact coreStep_instruction hno (.inr hopen)
  · intro completed
    rw [settle_traceDue]
    exact ⟨fun h => if_pos (t.retire.completed_iff.2 h), fun h => if_neg (mt t.retire.completed_iff.1 h)⟩

/-! The fetch of an instruction that is memory. -/

/-- Every byte of memory holds instructions (20_memory R103). -/
theorem State.fetchable_eq {pa n : Nat} (h : ∀ i, i < n → s.claimed (pa + i) = true ∧ s.device (pa + i) = none) :
    s.fetchable pa n = n := by
  induction n generalizing pa with
  | zero => rfl
  | succ n ih =>
    obtain ⟨hclaimed, hdevice⟩ := h 0 (Nat.succ_pos n)
    have hrest := ih (pa := pa + 1) fun i hi => by
      rw [Nat.add_assoc, Nat.add_comm 1]
      exact h (i + 1) (Nat.succ_lt_succ hi)
    simp only [Nat.add_zero] at hclaimed hdevice
    simp [State.fetchable, State.strict, hclaimed, hdevice, hrest]

theorem fetchPiece_ram {va : Addr} {n : Nat} (h : s.ram va n) (hn : n ≤ 16384 - va.toNat % 16384) :
    fetchPiece va n s = .ok () s := by
  have hbytes : s.fetchable va.toNat n = n := State.fetchable_eq fun i hi => by
    rw [← toNat_add_page va (Nat.lt_of_lt_of_le hi hn)]
    exact h.2 i hi
  simp only [fetchPiece, State.virt_flat h.1, locate_flat h.1, Acc.bind, hbytes, if_true]

/-- Fetching bytes of memory does nothing (20_memory R103). -/
theorem fetchBytes_ram {va : Addr} {n : Nat} (h : s.ram va n) (hn : n ≤ 16384) : fetchBytes va n s = .ok () s := by
  unfold fetchBytes
  obtain ⟨h1, h2⟩ | ⟨h1, h2, -, h4⟩ := inPage_cases va hn
  · simp only [h1, if_true]
    exact fetchPiece_ram h h2
  · have hrest : s.ram (va + .ofNat 64 (inPage va n)) (n - inPage va n) :=
      State.ram_add (by rw [Nat.add_sub_cancel' (Nat.le_of_lt h1)]; exact h)
    simp only [if_neg (Nat.ne_of_lt h1)]
    rw [fetchPiece_ram (State.ram_mono h (Nat.le_of_lt h1)) (Nat.le_of_eq h2)]
    exact fetchPiece_ram hrest h4

/-- The instruction at the program counter, where its bytes are memory. -/
theorem runOne_ram {w : BitVec 48} {i : Instr} {n : Nat} (hdec : decode s.peek = .done w n (.ok i)) (hram : s.ram s.pc n)
    (hn : n ≤ 16384) :
    runOne s = ({ s with ir := w, draws := s.draws + 1 }, exec i { s with ir := w, draws := s.draws + 1 }) := by
  have hfetch : fetch s = .ok (n, .ok i) { s with ir := w, draws := s.draws + 1 } := by
    have hbytes := fetchBytes_ram (s := { s with ir := w }) hram hn
    simp only [fetch, hdec, hbytes, Acc.bind, fetchRest]
  simp only [runOne, hfetch]

end

/-- No base word has more than nine bytes (30_encoding R203). -/
theorem baseLen_le (i : Instr) : i.baseLen ≤ 9 := by cases i <;> exact Nat.le_of_ble_eq_true rfl

theorem instr_len_le (i : Instr) : i.len ≤ 16384 := by
  have hbase := baseLen_le i
  have hmask := Bool.toNat_le i.sixth.isSome
  have htail := Laws.Tail.len_le i.tail
  unfold Instr.len
  omega

/-- Settles O48: the MMU does not act under flat translation, and the fetch of memory that decodes gives the instruction. -/
theorem stepRunsTheDecodedInstruction : Obligations.StepRunsTheDecodedInstruction := by
  intro s w i u hflat hreset hhalted hint htrace hdec hram t
  have hmmu : u.takeMmu = u := State.takeMmu_idle (.inl hram.1.1)
  have hstep : step s = mapNext State.advance u.ran := by
    rw [← coreStep_instruction hint htrace]
    simp only [step, hmmu, hreset, hhalted, Bool.false_eq_true, if_false, u]
  rw [hstep, State.ran, runOne_ram hdec hram (instr_len_le i)]
  cases exec i t with
  | next v => rfl
  | fault e => rfl
  | refused r => rfl

end Sys2Proof.Machine

/-! The SHA functions (48_vector R660 to R666; 30_encoding R216, R217). -/

namespace Sys2Proof.Machine

variable {s : State} {x : Ext} {c : Instr} {o : R1}

/-- An instruction of a function of the low 32 bits, element by element in its vector forms. -/
theorem computes_sha32 {f : BitVec 32 → BitVec 32} (hc : exec c s = sha32 f o x s) :
    let a := fun k => (srcOf (o.vec != .scalar) o.ra).value .compl o.sa s o.size.bits k
    let r := fun k => (f ((a k).setWidth 32)).signExtend o.size.bits
    Computes c s x (o.vec != .scalar) o.size.bits o.rt fun k => (if o.st then ~~~r k else r k).signExtend 128 :=
  computes_r1 hc fun _ => result_compl o.st _

/-- An instruction of a function of the low 64 bits. -/
theorem computes_sha64 {f : BitVec 64 → BitVec 64} (hc : exec c s = sha64 f o x s) :
    let a := fun k => (srcOf (o.vec != .scalar) o.ra).value .compl o.sa s o.size.bits k
    let r := fun k => (f ((a k).setWidth 64)).signExtend o.size.bits
    Computes c s x (o.vec != .scalar) o.size.bits o.rt fun k => (if o.st then ~~~r k else r k).signExtend 128 :=
  computes_r1 hc fun _ => result_compl o.st _

/-- Settles O17: each instruction is the function of its formula, a rotation of the model being the library's. -/
theorem shaFunctions : Obligations.ShaFunctions := by
  intro o x s a sha f32 f64
  have h32 {c : Instr} (f : BitVec 32 → BitVec 32) (hc : exec c s = sha32 f o x s) : sha c (f32 f) := computes_sha32 hc
  have h64 {c : Instr} (f : BitVec 64 → BitVec 64) (hc : exec c s = sha64 f o x s) : sha c (f64 f) := computes_sha64 hc
  clear_value sha f32 f64
  refine ⟨h32 _ ?_, h32 _ ?_, h32 _ ?_, h32 _ ?_, h64 _ ?_, h64 _ ?_, rfl, rfl, rfl, rfl, rfl, rfl⟩
  · simp only [exec_sha256sig0, execSha256sig0, rotr_eq_rotateRight]
  · simp only [exec_sha256sig1, execSha256sig1, rotr_eq_rotateRight]
  · simp only [exec_sha256sum0, execSha256sum0, rotr_eq_rotateRight]
  · simp only [exec_sha256sum1, execSha256sum1, rotr_eq_rotateRight]
  · simp only [exec_sha512sig0, execSha512sig0, rotr_eq_rotateRight]
  · simp only [exec_sha512sig1, execSha512sig1, rotr_eq_rotateRight]

end Sys2Proof.Machine

/-! The addresses of memory operands, and loads and stores of one register (47_memory_ops R582, R585, R590, R592, R600,
R611). -/

namespace Sys2Proof.Machine

section
variable {s : State} {q : MemX} {n : Nat} {t : Tail}

/-! Addresses and the stepped index. -/

theorem eaIndexed_plain (h : q.u2 = 0) : eaIndexed q n t s = .ok (eaIndex q n t (s.reg q.rc) s, none) s := by
  simp [eaIndexed, h]

theorem eaIndexed_after (h : q.u2 = 1) : eaIndexed q n t s = .ok (eaIndex q n t (s.reg q.rc) s,
    some (((s.reg q.rc).setWidth 64 + .ofNat 64 (indexStep q.sc n) : Addr).setWidth 128)) s := by
  simp [eaIndexed, h]

theorem eaIndexed_before (h : q.u2 = 2) {idx : Word}
    (hidx : (((s.reg q.rc).setWidth 64 - .ofNat 64 (indexStep q.sc n) : Addr).setWidth 128) = idx) :
    eaIndexed q n t s = .ok (eaIndex q n t idx s, some idx) s := by
  simp [eaIndexed, h, ← hidx]

theorem eaIndexed_indirect (h : q.u2 = 3) (hram : s.ram (eaIndex q n t (s.reg q.rc) s) 8) :
    eaIndexed q n t s = .ok (.ofNat 64 (s.data (eaIndex q n t (s.reg q.rc) s) 8), none) s := by
  simp [eaIndexed, h, memRead_ram hram (by decide), Acc.map, Acc.bind]

/-- Settles O26: each mode of the index by its equation. -/
theorem memoryOperandAddresses : Obligations.MemoryOperandAddresses := by
  intro o q n t s low disp idx ea step after before
  have hea : ∀ v, eaIndex q n t v s = ea v := fun v => by rw [eaIndex, dispOr_eq]; rfl
  refine ⟨by rw [eaDisp, dispOr_eq], fun h => ?_, fun h => ?_, fun h => ?_, fun h hram => ?_⟩
  · rw [eaIndexed_plain h, hea]
  · rw [eaIndexed_after h, hea]
    rfl
  · rw [eaIndexed_before h rfl, hea]
    rfl
  · rw [← hea] at hram ⊢
    exact eaIndexed_indirect h hram

end

section
variable {s : State} {x : Ext} {c : Instr} {a : Addr} {n : Nat}

/-! Loads of one register. -/

/-- Without a REGS list only Rt is loaded, or the canary checked (47_memory_ops R584, R590). -/
theorem loadScalar_one {get : Get} {rt : Reg} {v : Word} {l : Tail} (hregs : l.regs = none) (hget : get a s = .ok v s) :
    loadScalar n get rt l a s = if rt = 53 ∧ v ≠ s.sc then .trap ⟨11, none⟩ s
      else .ok .seq (if rt = 53 then s else s.setReg rt v) := by
  simp only [loadScalar, regsList, hregs, loadMany, hget, Acc.bind, loadTo_reg]
  by_cases hcanary : rt = 53 ∧ v ≠ s.sc
  · simp only [if_pos hcanary]
    rfl
  · simp only [if_neg hcanary]
    rfl

/-- A load of one register: the register and then the index, or the exception of the canary, with nothing done. -/
theorem exec_load_one {get : Get} {rt : Reg} {v : Word} {index : State → State} (hregs : x.tail.regs = none)
    (hrun : exec c s = finish (extLen x) s ((loadScalar n get rt x.tail a s).bind fun f t => .ok f (index t)))
    (hget : get a s = .ok v s) (hpc : ∀ t, (index t).pc = t.pc) :
    (rt ≠ 53 ∨ v = s.sc → exec c s = .next ((index (if rt = 53 then s else s.setReg rt v)).passed (extLen x))) ∧
      (rt = 53 → v ≠ s.sc → Traps c s 11 none) := by
  rw [loadScalar_one hregs hget] at hrun
  constructor
  · intro hok
    have hloaded : (if rt = 53 then s else s.setReg rt v).pc = s.pc := by
      split
      · rfl
      · exact s.pc_setReg rt v
    rw [if_neg fun h => hok.elim (fun h53 => h53 h.1) h.2] at hrun
    rw [hrun, State.passed, hpc, hloaded]
    rfl
  · intro h53 hv b hb
    rw [if_pos ⟨h53, hv⟩] at hrun
    exact hrun.trans (finish_trap hb)

/-- What LOAD and LOADZ give of memory (47_memory_ops R590, R592). -/
theorem getSigned_ram {z : Size} (h : s.ram a z.bytes) :
    getSigned z a s = .ok ((BitVec.ofNat z.bits (s.data a z.bytes)).signExtend 128) s := by
  rw [getSigned, memRead_ram h (size_bytes_le z)]
  rfl

theorem getZero_ram {z : Size} (h : s.ram a z.bytes) :
    getZero z a s = .ok ((BitVec.ofNat z.bits (s.data a z.bytes)).setWidth 128) s := by
  rw [getZero, memRead_ram h (size_bytes_le z)]
  rfl

/-- Settles O27: every form is a load of one register, with the index of its format. -/
theorem loadsToOneRegister : Obligations.LoadsToOneRegister := by
  intro z o q x s hen hregs loads signed zero
  refine ⟨fun hvd => ⟨fun hram => ?_, fun hram => ?_⟩, fun hvec ea upd hea => ?_⟩
  · exact exec_load_one (index := id) hregs (loadDisp_list hen hvd) (getSigned_ram hram) fun _ => rfl
  · exact exec_load_one (index := id) hregs (loadDisp_list hen hvd) (getZero_ram hram) fun _ => rfl
  · intro index
    have hpc : ∀ t, (index t).pc = t.pc := fun t => by
      simp only [index]
      split
      · rfl
      · exact t.pc_setIndex q.rc upd
    exact ⟨fun hram => exec_load_one hregs (loadIndexed_list hen hvec hea) (getSigned_ram hram) hpc,
      fun hram => exec_load_one hregs (loadIndexed_list hen hvec hea) (getZero_ram hram) hpc⟩

/-! Stores of one register. -/

/-- A store of one register: its low bytes, then the index (47_memory_ops R584, R600). -/
theorem exec_store_one {z : Size} {l : Tail} {v : Word} {rc : Reg} {upd : Option Word} (hregs : l.regs = none)
    (hrun : exec c s = finish (extLen x) s ((storeScalar n (putLow z) v l a s).bind fun f t => .ok f (t.setIndex rc upd)))
    (hram : s.ram a z.bytes) (hw : Memory.wf s.mem = true) :
    ∃ t, Stored s t a z.bytes v.toNat ∧ t = { s with mem := t.mem, stale := t.stale } ∧
      exec c s = .next ((t.setIndex rc upd).passed (extLen x)) := by
  obtain ⟨t, hput, hstored, hframe⟩ := putLow_ram v hram hw
  have hpc : (t.setIndex rc upd).pc = s.pc := by
    rw [State.pc_setIndex, hframe]
  refine ⟨t, hstored, hframe, ?_⟩
  rw [hrun, State.passed, hpc]
  simp only [storeScalar, regsList, hregs, storeMany, hput]
  rfl

theorem stptr_list {z : Size} {o : MemD} (hen : s.enabled x false) : stptr z o x s = finish (extLen x) s
    ((storeScalar z.bytes (putLow z) (s.reg o.rt) Tail.empty (eaDisp o x.tail s) s).bind fun f t => .ok f t) := by
  rw [stptr, runExt_enabled hen, Acc.bind_self]

theorem stptrX_list {z : Size} {o : MemX} {upd : Option Word} (hen : s.enabled x false)
    (hea : eaIndexed o z.bytes x.tail s = .ok (a, upd) s) : stptrX z o x s = finish (extLen x) s
    ((storeScalar z.bytes (putLow z) (s.reg o.rt) Tail.empty a s).bind fun f t => .ok f (t.setIndex o.rc upd)) := by
  rw [stptrX, runExt_enabled hen, hea]
  rfl

/-- Settles O28: every form is a store of one register, with the index of its format. -/
theorem storesOfOneRegister : Obligations.StoresOfOneRegister := by
  intro z o q x s hen hw stores
  refine ⟨fun hregs hvd hram => ?_, fun hram => ?_, fun hram => ?_, fun hram => ?_,
    fun y ea upd hea => ⟨?_, ?_, ?_, ?_⟩⟩
  · exact exec_store_one (rc := 0) (upd := none) hregs ((exec_store z o x s).trans (storeDisp_list hen hvd)) hram hw
  · exact exec_store_one (rc := 0) (upd := none) rfl ((exec_stptrT o x s).trans (stptr_list hen)) hram hw
  · exact exec_store_one (rc := 0) (upd := none) rfl ((exec_stptrO o x s).trans (stptr_list hen)) hram hw
  · exact exec_store_one (rc := 0) (upd := none) rfl ((exec_stptrH o x s).trans (stptr_list hen)) hram hw
  · exact fun hregs hvec hram =>
      exec_store_one hregs ((exec_storeX y q x s).trans (storeIndexed_list hen hvec hea)) hram hw
  · rintro rfl hram
    exact exec_store_one rfl ((exec_stptrTX q x s).trans (stptrX_list hen hea)) hram hw
  · rintro rfl hram
    exact exec_store_one rfl ((exec_stptrOX q x s).trans (stptrX_list hen hea)) hram hw
  · rintro rfl hram
    exact exec_store_one rfl ((exec_stptrHX q x s).trans (stptrX_list hen hea)) hram hw

end

end Sys2Proof.Machine

/-! LA, STORE_PAIR and the register groups (47_memory_ops R610, R615 to R617). -/

namespace Sys2Proof.Machine

section
variable {s u : State} {x : Ext} {c : Instr} {a : Addr}

/-- An instruction that leaves the program counter alone goes on behind itself. -/
theorem finish_passed (len : Nat) (h : u.pc = s.pc) : finish len s (.ok .seq u) = .next (u.passed len) := by
  rw [State.passed, h]
  rfl

/-! Pairs. -/

/-- Two registers stored side by side are the bytes of the first and then of the second (47_memory_ops R615). -/
theorem putLow_pair {z : Size} (rb rc : Reg) (h : s.ram a (2 * z.bytes)) (hw : Memory.wf s.mem = true) :
    ∃ u, ((putLow z a (s.reg rb) s).bind fun _ t => (putLow z (a + .ofNat 64 z.bytes) (t.reg rc) t).map fun _ => Flow.seq) =
        .ok .seq u ∧
      Stored s u a (2 * z.bytes) (((s.reg rb).setWidth z.bits).toNat + 256 ^ z.bytes * (s.reg rc).toNat) ∧
      u = { s with mem := u.mem, stale := u.stale } := by
  rw [Nat.two_mul] at h ⊢
  have hle := size_bytes_le z
  obtain ⟨t, hput, hstored, ht, hwt⟩ :=
    memWrite_ram (v := ((s.reg rb).setWidth z.bits).toNat) (State.ram_mono h (Nat.le_add_right _ _)) hle hw
  have hram : t.ram (a + .ofNat 64 z.bytes) z.bytes := State.ram_params (by rw [ht]) (State.ram_add h)
  obtain ⟨u, hput', hstored', hu⟩ := putLow_ram (t.reg rc) hram hwt
  have hreg : t.reg rc = s.reg rc := by
    rw [ht]
    rfl
  rw [hreg] at hput' hstored'
  have hlow : ((s.reg rb).setWidth z.bits).toNat < 256 ^ z.bytes := by
    rw [size_pow_bytes]
    exact BitVec.isLt _
  refine ⟨u, ?_, hstored.append hstored' hlow (by omega), ?_⟩
  · rw [putLow, hput, Acc.bind, hreg, hput', Acc.map]
    rfl
  · rw [hu, ht]

/-! Groups. -/

/-- The register mask of a group (47_memory_ops R616). -/
theorem groupBit_eq (m : Option (BitVec 8)) (i : Nat) : groupBit m i = (m.map fun b => b.getLsbD i).getD true := by
  cases m <;> rfl

/-- A group names the low or the high halves of its registers (47_memory_ops R616). -/
theorem groupLo_cases (g : Reg) : groupLo g = 0 ∨ groupLo g = 64 := by
  unfold groupLo
  omega

theorem putHalf_low (v : Word) (h : BitVec 64) : putHalf v 0 h = v.extractLsb' 64 64 ++ h := by
  apply BitVec.eq_of_getLsbD_eq
  intro i hi
  simp only [putHalf, BitVec.getLsbD_or, BitVec.getLsbD_and, BitVec.getLsbD_not, BitVec.getLsbD_shiftLeft,
    BitVec.getLsbD_setWidth, BitVec.getLsbD_allOnes, BitVec.getLsbD_append, BitVec.getLsbD_extractLsb']
  by_cases hlow : i < 64
  · simp [hlow, hi]
  · simp [hlow, hi, show i - 64 < 64 by omega, show 64 + (i - 64) = i by omega, BitVec.getLsbD_of_ge h i (by omega)]

theorem putHalf_high (v : Word) (h : BitVec 64) : putHalf v 64 h = h ++ v.extractLsb' 0 64 := by
  apply BitVec.eq_of_getLsbD_eq
  intro i hi
  simp only [putHalf, BitVec.getLsbD_or, BitVec.getLsbD_and, BitVec.getLsbD_not, BitVec.getLsbD_shiftLeft,
    BitVec.getLsbD_setWidth, BitVec.getLsbD_allOnes, BitVec.getLsbD_append, BitVec.getLsbD_extractLsb']
  by_cases hlow : i < 64
  · simp [hlow, hi]
  · simp [hlow, hi, show i - 64 < 64 by omega, show i - 64 < 128 by omega]

theorem putHalf_groupLo (g : Reg) (v : Word) (h : BitVec 64) : putHalf v (groupLo g) h =
    if groupLo g = 0 then v.extractLsb' 64 64 ++ h else h ++ v.extractLsb' 0 64 := by
  rcases groupLo_cases g with hlo | hlo <;> rw [hlo]
  · exact putHalf_low v h
  · exact putHalf_high v h

theorem pow_eight_bytes (k : Nat) : 256 ^ (8 * k) = 2 ^ (64 * k) := by
  rw [show 256 = 2 ^ 8 from rfl, ← Nat.pow_mul, ← Nat.mul_assoc]

/-- Bits of a number that is not wider than its bit vector. -/
theorem extract_ofNat (v : Nat) {n lo w : Nat} (h : lo + w ≤ n) :
    (BitVec.ofNat n v).extractLsb' lo w = .ofNat w (v / 2 ^ lo) := by
  apply BitVec.eq_of_getLsbD_eq
  intro i hi
  have hin : lo + i < n := by omega
  simp only [BitVec.getLsbD_extractLsb', BitVec.getLsbD_ofNat, Nat.testBit_div_two_pow, hi, hin, decide_true, Bool.true_and,
    Nat.add_comm]

/-- The eight bytes of a block of 64 that go to one register. -/
theorem data_block_part (s : State) (a : Addr) {i : Nat} (hi : i < 8) :
    (BitVec.ofNat 512 (s.data a 64)).extractLsb' (64 * i) 64 = .ofNat 64 (s.data (a + .ofNat 64 (8 * i)) 8) := by
  have hsplit : s.data a 64 = s.data a (8 * i) +
      2 ^ (64 * i) * (s.data (a + .ofNat 64 (8 * i)) 8 +
        2 ^ 64 * s.data (a + .ofNat 64 (8 * i) + .ofNat 64 8) (64 - 8 * i - 8)) := by
    rw [← pow_eight_bytes, show (2 : Nat) ^ 64 = 256 ^ 8 from rfl, ← State.data_add, ← State.data_add]
    congr 1
    omega
  have hlow : s.data a (8 * i) < 2 ^ (64 * i) := pow_eight_bytes i ▸ s.data_lt a (8 * i)
  apply BitVec.eq_of_toNat_eq
  rw [extract_ofNat _ (by omega), hsplit, Nat.add_mul_div_left _ _ (by positivity), Nat.div_eq_of_lt hlow, Nat.zero_add,
    BitVec.toNat_ofNat, Nat.add_mul_mod_self_left, BitVec.toNat_ofNat]

/-- A group load leaves the program counter alone. -/
theorem pc_loadGroup (g : Reg) (m : Option (BitVec 8)) (blk : BitVec 512) (u : State) : (loadGroup g m blk u).pc = u.pc := by
  refine List.foldlRecOn (motive := fun t : State => t.pc = u.pc) _ _ rfl fun t ht i _ => ?_
  dsimp only
  split
  · rw [State.pc_setReg, ht]
  · exact ht

/-- A group load fills the halves of the registers that take part, each from its eight bytes. -/
theorem loadGroup_eq (g : Reg) (m : Option (BitVec 8)) (s : State) (a : Addr) (u : State) :
    loadGroup g m (.ofNat 512 (s.data a 64)) u = (List.range 8).foldl (fun u i =>
      if (m.map fun b => b.getLsbD i).getD true = true ∧ groupReg g i ≠ 0 ∧ groupReg g i ≠ 53 then
        u.setReg (groupReg g i) (if groupLo g = 0
          then (u.reg (groupReg g i)).extractLsb' 64 64 ++ BitVec.ofNat 64 (s.data (a + .ofNat 64 (8 * i)) 8)
          else BitVec.ofNat 64 (s.data (a + .ofNat 64 (8 * i)) 8) ++ (u.reg (groupReg g i)).extractLsb' 0 64)
      else u) u := by
  refine List.foldl_ext _ _ _ fun u i hi => ?_
  dsimp only
  rw [groupBit_eq, putHalf_groupLo, data_block_part s a (List.mem_range.mp hi)]
  simp only [Bool.and_eq_true, bne_iff_ne, and_assoc]

/-- A block built part by part holds the part of each number below `n` that takes part, and zero elsewhere. -/
theorem extract_putElem_foldl (p : Nat → Bool) (e : Nat → BitVec 64) {n : Nat} (hn : n ≤ 8) (j : Nat) :
    ((List.range n).foldl (fun (b : BitVec 512) i => if p i then putElem b i (e i) else b) 0).extractLsb' (64 * j) 64 =
      if j < n ∧ p j then e j else 0 := by
  induction n with
  | zero => simp
  | succ n ih =>
    rw [List.range_succ, List.foldl_append, List.foldl_cons, List.foldl_nil]
    have hprev := ih (by omega)
    by_cases hp : p n
    · rw [if_pos hp]
      by_cases hj : j = n
      · subst hj
        rw [extract_putElem_same _ _ _ (by omega), if_pos ⟨Nat.lt_succ_self j, hp⟩]
      · rw [extract_putElem_other _ _ hj, hprev]
        congr 2
        simp only [eq_iff_iff]
        omega
    · rw [if_neg hp, hprev]
      congr 1
      by_cases hj : j = n
      · simp [hj, hp]
      · simp only [eq_iff_iff, and_congr_left_iff]
        omega

/-- The parts of the block a group store writes (47_memory_ops R617). -/
theorem groupBlock_part (g : Reg) (m : Option (BitVec 8)) (s : State) {i : Nat} (hi : i < 8) :
    (groupBlock g m s).toNat / 256 ^ (8 * i) % 256 ^ 8 =
      if (m.map fun b => b.getLsbD i).getD true then ((s.reg (groupReg g i)).extractLsb' (groupLo g) 64).toNat else 0 := by
  rw [pow_eight_bytes, show 256 ^ 8 = 2 ^ 64 from rfl, ← Nat.shiftRight_eq_div_pow, ← BitVec.extractLsb'_toNat, groupBlock,
    extract_putElem_foldl _ _ le_rfl, ← groupBit_eq]
  simp only [hi, true_and]
  split <;> rfl

/-- A group store puts the block in memory and then gives the index its new value. -/
theorem exec_storeg_block {m : Option (BitVec 8)} {g rc : Reg} {upd : Option Word} {len : Nat}
    (hrun : exec c s = finish len s ((memWrite a 64 (groupBlock g m s).toNat s).bind fun _ t => .ok .seq (t.setIndex rc upd)))
    (hram : s.ram a 64) (hw : Memory.wf s.mem = true) : ∃ u, Stored s u a 64 (groupBlock g m s).toNat ∧
      u = { s with mem := u.mem, stale := u.stale } ∧ exec c s = .next ((u.setIndex rc upd).passed len) := by
  obtain ⟨u, hput, hstored, hframe, -⟩ := memWrite_ram (v := (groupBlock g m s).toNat) hram (by decide) hw
  have hpc : (u.setIndex rc upd).pc = s.pc := by
    rw [State.pc_setIndex, hframe]
  refine ⟨u, hstored, hframe, ?_⟩
  rw [hrun, hput]
  exact finish_passed len hpc

/-- Settles O34: each instruction by its equation, the groups by the parts of their block. -/
theorem addressesPairsAndGroups : Obligations.AddressesPairsAndGroups := by
  intro o q p m x t s hen glen takes member lo half group stored
  have hgroup : ∀ g a u, loadGroup g m (.ofNat 512 (s.data a 64)) u = group g a u := fun g a u => loadGroup_eq g m s a u
  have hstored : ∀ {g c a rc upd}, exec c s = finish glen s
      ((memWrite a 64 (groupBlock g m s).toNat s).bind fun _ t => .ok .seq (t.setIndex rc upd)) →
      stored g c a rc upd := fun hrun hram hw => by
    obtain ⟨u, hu⟩ := exec_storeg_block hrun hram hw
    exact ⟨u, _, fun i hi => groupBlock_part _ m s hi, hu⟩
  have htail : ∀ body, runTail (5 + m.isSome.toNat) t body s = finish glen s (body s) := fun body => runTail_enabled hen.1
  clear_value group stored glen
  refine ⟨?_, fun ea upd hea => ?_, fun hram hw => ?_, fun hram => ?_, hstored ?_,
    fun ea upd hea => ⟨fun hram => ?_, hstored ?_⟩⟩
  · rw [exec_la, execLa, runExt_enabled hen, finish_setReg]
  · rw [exec_laX, execLaX, runExt_enabled hen, hea, Acc.bind]
    exact finish_passed _ (by rw [State.pc_setReg, State.pc_setIndex])
  · obtain ⟨u, hput, hstored, hframe⟩ := putLow_pair p.rb p.rc hram hw
    refine ⟨u, hstored, hframe, ?_⟩
    rw [exec_storePair, execStorePair, runExt_enabled hen]
    simp only [dispOr_eq]
    rw [hput]
    exact finish_passed _ (by rw [hframe])
  · rw [exec_loadg, execLoadg, htail, memRead_ram hram (by decide), Acc.bind, ← hgroup]
    exact finish_passed _ (pc_loadGroup ..)
  · rw [exec_storeg, execStoreg, htail]
    rfl
  · rw [exec_loadgX, execLoadgX, htail, hea]
    simp only [Acc.bind, memRead_ram hram (show 64 ≤ 16384 by decide)]
    rw [← hgroup]
    exact finish_passed _ (by rw [pc_loadGroup, State.pc_setIndex])
  · rw [exec_storegX, execStoregX, htail, hea]
    rfl

end

end Sys2Proof.Machine

/-! The interrupt controller and the timers (60_exceptions R802 to R804, R814 to R819). -/

namespace Sys2Proof.Machine

/-! Registers of one bit per source or timer. -/

theorem getLsbD_one_shl {w : Nat} (n : Nat) {k : Nat} (hk : k < w) : (1#w <<< n).getLsbD k = decide (k = n) := by
  rw [← BitVec.twoPow_eq, BitVec.getLsbD_twoPow]
  by_cases h : k = n
  · subst h
    simp [hk]
  · simp [h, Ne.symm h]

theorem getLsbD_or_one {w : Nat} (v : BitVec w) (n : Nat) {k : Nat} (hk : k < w) :
    (v ||| 1#w <<< n).getLsbD k = (v.getLsbD k || decide (k = n)) := by
  rw [BitVec.getLsbD_or, getLsbD_one_shl n hk]

theorem getLsbD_and_not_one {w : Nat} (v : BitVec w) (n : Nat) {k : Nat} (hk : k < w) :
    (v &&& ~~~(1#w <<< n)).getLsbD k = (v.getLsbD k && !decide (k = n)) := by
  rw [BitVec.getLsbD_and, BitVec.getLsbD_not, getLsbD_one_shl n hk, decide_eq_true hk, Bool.true_and]

/-- A register collected bit by bit has the bits of those numbers below `m` that `p` holds of. -/
theorem getLsbD_foldl_or {w : Nat} (p : Nat → Bool) (m : Nat) {k : Nat} (hk : k < w) :
    ((List.range m).foldl (fun (acc : BitVec w) n => if p n then acc ||| (1#w <<< n) else acc) 0).getLsbD k =
      (decide (k < m) && p k) := by
  induction m with
  | zero => simp
  | succ m ih =>
    rw [List.range_succ, List.foldl_append, List.foldl_cons, List.foldl_nil]
    have hstep : ∀ acc : BitVec w, (if p m then acc ||| (1#w <<< m) else acc).getLsbD k =
        (acc.getLsbD k || (p m && decide (k = m))) := fun acc => by
      cases p m
      · exact (Bool.or_false _).symm
      · exact getLsbD_or_one acc m hk
    rw [hstep, ih]
    by_cases hkm : k = m
    · simp [hkm]
    · simp [hkm, show k < m + 1 ↔ k < m by omega]

theorem getElem_modifyAt {α : Type} {n : Nat} (v : Vector α n) (i : Nat) (f : α → α) {j : Nat} (hj : j < n) :
    (modifyAt v i f)[j] = if i = j then f v[j] else v[j] := by
  apply Option.some.inj
  rw [← Vector.getElem?_eq_getElem hj, getElem?_modifyAt, Vector.getElem?_eq_getElem hj]
  split <;> rfl

theorem modifyAt_congr {α : Type} {n : Nat} {v : Vector α n} {i : Nat} {f g : α → α}
    (h : ∀ hi : i < n, f v[i] = g v[i]) : modifyAt v i f = modifyAt v i g := by
  refine Vector.ext fun j hj => ?_
  rw [getElem_modifyAt v i f hj, getElem_modifyAt v i g hj]
  by_cases hij : i = j
  · subst hij
    rw [h hj]
  · rw [if_neg hij, if_neg hij]

theorem modifyAt_of_fixed {α : Type} {n : Nat} {v : Vector α n} {i : Nat} {f : α → α}
    (h : ∀ hi : i < n, f v[i] = v[i]) : modifyAt v i f = v := by
  refine Vector.ext fun j hj => ?_
  rw [getElem_modifyAt v i f hj]
  by_cases hij : i = j
  · subst hij
    rw [if_pos rfl, h hj]
  · rw [if_neg hij]

section
variable {s : State} {p : Pic} {n : Nat}

/-! The registers of the interrupt controller. -/

theorem Pic.getLsbD_column (p : Pic) (b : Nat) {n : Nat} (hn : n < 32) :
    (p.column b).getLsbD n = (p.ctrlOf n).getLsbD b := by
  rw [Pic.column, getLsbD_foldl_or (fun n => (p.ctrlOf n).getLsbD b) 32 hn, decide_eq_true hn, Bool.true_and]

theorem Pic.ctrlOf_modifyAt (p : Pic) (i : Nat) (f : BitVec 32 → BitVec 32) {n : Nat} (hn : n < 32) :
    ({ p with ctrl := modifyAt p.ctrl i f } : Pic).ctrlOf n = if i = n then f (p.ctrlOf n) else p.ctrlOf n := by
  simp only [Pic.ctrlOf, Vector.getElem?_eq_getElem hn, getElem_modifyAt p.ctrl i f hn]
  rfl

theorem Pic.getLsbD_setBit (p : Pic) (i b : Nat) (v : Bool) {n k : Nat} (hn : n < 32) (hk : k < 32) :
    ((p.setBit i b v).ctrlOf n).getLsbD k = if k = b ∧ n = i then v else (p.ctrlOf n).getLsbD k := by
  rw [Pic.setBit, Pic.ctrlOf_modifyAt p i _ hn]
  by_cases hi : i = n
  · subst hi
    rw [if_pos rfl]
    cases v
    · simp only [Bool.false_eq_true, if_false, getLsbD_and_not_one _ _ hk]
      by_cases hkb : k = b <;> simp [hkb]
    · simp only [if_true, getLsbD_or_one _ _ hk]
      by_cases hkb : k = b <;> simp [hkb]
  · rw [if_neg hi, if_neg fun h => hi h.2.symm]

/-- A bit set in every control register: those registers' bits, and nothing else. -/
theorem Pic.setColumn_eq (p : Pic) (b : Nat) (v : BitVec 32) : ∃ c, p.setColumn b v = { p with ctrl := c } :=
  List.foldlRecOn (motive := fun q : Pic => ∃ c, q = { p with ctrl := c }) _ _ ⟨p.ctrl, rfl⟩
    fun _ ⟨_, hq⟩ _ _ => hq ▸ ⟨_, rfl⟩

theorem Pic.getLsbD_setColumn (p : Pic) (b : Nat) (v : BitVec 32) {n k : Nat} (hn : n < 32) (hk : k < 32) :
    ((p.setColumn b v).ctrlOf n).getLsbD k = if k = b then v.getLsbD n else (p.ctrlOf n).getLsbD k := by
  have hfold : ∀ m, ((((List.range m).foldl (fun (q : Pic) i => q.setBit i b (v.getLsbD i)) p).ctrlOf n).getLsbD k =
      if k = b ∧ n < m then v.getLsbD n else (p.ctrlOf n).getLsbD k) := fun m => by
    induction m with
    | zero => simp
    | succ m ih =>
      rw [List.range_succ, List.foldl_append, List.foldl_cons, List.foldl_nil, Pic.getLsbD_setBit _ _ _ _ hn hk, ih]
      by_cases hnm : n = m
      · subst hnm
        simp
      · have hlt : n < m + 1 ↔ n < m := by omega
        simp [hnm, hlt]
  rw [Pic.setColumn, hfold 32]
  simp [hn]

/-! Writes of the controller, offset by offset (60_exceptions R802 to R804). -/

theorem Pic.named_source (v : BitVec 32) : (v.extractLsb' 0 5).toNat = v.toNat % 32 := by simp

theorem Pic.write_re (p : Pic) (v : BitVec 32) : p.write 0x04 v = p.setColumn 16 v := rfl

theorem Pic.write_disable (p : Pic) (v : BitVec 32) : p.write 0x08 v = p.setBit (v.toNat % 32) 16 false := by
  rw [← Pic.named_source]
  rfl

theorem Pic.write_enable (p : Pic) (v : BitVec 32) : p.write 0x0C v = p.setBit (v.toNat % 32) 16 true := by
  rw [← Pic.named_source]
  rfl

theorem Pic.write_rste (p : Pic) (v : BitVec 32) :
    p.write 0x14 v = { p with latch := p.latch &&& ~~~v, trig := p.trig &&& ~~~v } := rfl

theorem Pic.write_trig (p : Pic) (v : BitVec 32) :
    p.write 0x18 v = { p with trig := p.trig ||| 1#32 <<< (v.toNat % 32) } := by
  rw [← Pic.named_source]
  rfl

theorem Pic.write_esl (p : Pic) (v : BitVec 32) : p.write 0x20 v = p.setColumn 17 v := rfl

theorem Pic.write_esh (p : Pic) (v : BitVec 32) : p.write 0x24 v = { p with esh := v } := rfl

theorem Pic.write_ctrl (p : Pic) (i : Nat) (v : BitVec 32) :
    p.write (0x80 + 4 * i) v = { p with ctrl := modifyAt p.ctrl i fun _ => v &&& picCtrlMask } := by
  have hi : (0x80 + 4 * i - 0x80) / 4 = i := by omega
  rw [Pic.write, if_neg (by omega), if_neg (by omega), if_neg (by omega), if_neg (by omega), if_neg (by omega),
    if_neg (by omega), if_neg (by omega), if_pos (Nat.le_add_right 0x80 (4 * i)), hi]

/-- A write below the control registers to none of the registers that take writes. -/
theorem Pic.write_unused {off : Nat} (h : off < 0x80) (hregs : off ∉ [0x04, 0x08, 0x0C, 0x14, 0x18, 0x20, 0x24])
    (p : Pic) (v : BitVec 32) : p.write off v = p := by
  simp only [List.mem_cons, List.not_mem_nil, or_false, not_or] at hregs
  simp only [Pic.write, hregs, if_false, if_neg (Nat.not_le_of_lt h)]

/-- Every offset of the controller is one of these. -/
theorem Pic.offset_cases {off : Nat} (h : off % 4 = 0) {P : Nat → Prop} (h04 : P 0x04) (h08 : P 0x08) (h0C : P 0x0C)
    (h14 : P 0x14) (h18 : P 0x18) (h20 : P 0x20) (h24 : P 0x24) (hctrl : ∀ i, P (0x80 + 4 * i))
    (hunused : ∀ off, off < 0x80 → off ∉ [0x04, 0x08, 0x0C, 0x14, 0x18, 0x20, 0x24] → P off) : P off := by
  by_cases h80 : off < 0x80
  · by_cases hregs : off ∈ [0x04, 0x08, 0x0C, 0x14, 0x18, 0x20, 0x24]
    · simp only [List.mem_cons, List.not_mem_nil, or_false] at hregs
      rcases hregs with rfl | rfl | rfl | rfl | rfl | rfl | rfl <;> assumption
    · exact hunused off h80 hregs
  · obtain ⟨i, rfl⟩ : ∃ i, off = 0x80 + 4 * i := ⟨(off - 0x80) / 4, by omega⟩
    exact hctrl i

/-- What a write leaves of the masks, latches and edges (60_exceptions R802 to R804). -/
def Pic.MasksWritten (p : Pic) (v : BitVec 32) (off : Nat) : Prop :=
  (p.write off v).lines = p.lines ∧ (p.write off v).prevIn = p.prevIn ∧
  (p.write off v).esh = (if off = 0x24 then v else p.esh) ∧
  (p.write off v).latch = (if off = 0x14 then p.latch &&& ~~~v else p.latch) ∧
  (p.write off v).trig = (if off = 0x14 then p.trig &&& ~~~v
    else if off = 0x18 then p.trig ||| 1#32 <<< (v.toNat % 32) else p.trig)

/-- A write that goes to control registers only. -/
theorem Pic.masksWritten_of_ctrl {v : BitVec 32} {off : Nat} (h : ∃ c, p.write off v = { p with ctrl := c })
    (h24 : off ≠ 0x24) (h14 : off ≠ 0x14) (h18 : off ≠ 0x18) : p.MasksWritten v off := by
  obtain ⟨c, hc⟩ := h
  rw [Pic.MasksWritten, hc, if_neg h24, if_neg h14, if_neg h14, if_neg h18]
  exact ⟨rfl, rfl, rfl, rfl, rfl⟩

theorem Pic.masksWritten (p : Pic) (v : BitVec 32) {off : Nat} (hoff : off % 4 = 0) : p.MasksWritten v off := by
  refine Pic.offset_cases hoff (P := p.MasksWritten v) ?_ ?_ ?_ ?_ ?_ ?_ ?_ (fun i => ?_) (fun off hlt hregs => ?_)
  · exact masksWritten_of_ctrl (p.write_re v ▸ p.setColumn_eq 16 v) (by decide) (by decide) (by decide)
  · exact masksWritten_of_ctrl ⟨_, p.write_disable v⟩ (by decide) (by decide) (by decide)
  · exact masksWritten_of_ctrl ⟨_, p.write_enable v⟩ (by decide) (by decide) (by decide)
  · exact ⟨rfl, rfl, rfl, rfl, rfl⟩
  · rw [Pic.MasksWritten, Pic.write_trig]
    exact ⟨rfl, rfl, rfl, rfl, rfl⟩
  · exact masksWritten_of_ctrl (p.write_esl v ▸ p.setColumn_eq 17 v) (by decide) (by decide) (by decide)
  · exact ⟨rfl, rfl, rfl, rfl, rfl⟩
  · exact masksWritten_of_ctrl ⟨_, p.write_ctrl i v⟩ (by omega) (by omega) (by omega)
  · simp only [List.mem_cons, List.not_mem_nil, or_false, not_or] at hregs
    exact masksWritten_of_ctrl ⟨p.ctrl, Pic.write_unused hlt (by simpa using hregs) p v⟩ (by omega) (by omega) (by omega)

/-- What a write leaves of the control registers (60_exceptions R802, R803). -/
def Pic.CtrlWritten (p : Pic) (v : BitVec 32) (n b off : Nat) : Prop :=
  ((p.write off v).ctrlOf n).getLsbD b =
    if off = 0x80 + 4 * n then (v &&& picCtrlMask).getLsbD b
    else if off = 0x04 ∧ b = 16 ∨ off = 0x20 ∧ b = 17 then v.getLsbD n
    else if off = 0x08 ∧ b = 16 ∧ n = v.toNat % 32 then false
    else if off = 0x0C ∧ b = 16 ∧ n = v.toNat % 32 then true
    else (p.ctrlOf n).getLsbD b

theorem Pic.ctrlWritten (p : Pic) (v : BitVec 32) {n b off : Nat} (hn : n < 32) (hb : b < 32) (hoff : off % 4 = 0) :
    p.CtrlWritten v n b off := by
  have hlow : ∀ a, a < 0x80 → a ≠ 0x80 + 4 * n := fun a ha => by omega
  refine Pic.offset_cases hoff (P := p.CtrlWritten v n b) ?_ ?_ ?_ ?_ ?_ ?_ ?_ (fun i => ?_) (fun off hlt hregs => ?_) <;>
    unfold Pic.CtrlWritten
  · rw [Pic.write_re, Pic.getLsbD_setColumn _ _ _ hn hb, if_neg (hlow _ (by decide))]
    simp
  · rw [Pic.write_disable, Pic.getLsbD_setBit _ _ _ _ hn hb, if_neg (hlow _ (by decide))]
    simp
  · rw [Pic.write_enable, Pic.getLsbD_setBit _ _ _ _ hn hb, if_neg (hlow _ (by decide))]
    simp
  · rw [if_neg (hlow _ (by decide))]
    simp [Pic.write_rste, Pic.ctrlOf]
  · rw [if_neg (hlow _ (by decide))]
    simp [Pic.write_trig, Pic.ctrlOf]
  · rw [Pic.write_esl, Pic.getLsbD_setColumn _ _ _ hn hb, if_neg (hlow _ (by decide))]
    simp
  · rw [if_neg (hlow _ (by decide))]
    simp [Pic.write_esh, Pic.ctrlOf]
  · rw [Pic.write_ctrl, Pic.ctrlOf_modifyAt _ _ _ hn]
    by_cases hi : i = n
    · rw [if_pos hi, if_pos (by rw [hi])]
    · rw [if_neg hi, if_neg (by omega), if_neg (by omega), if_neg (by omega), if_neg (by omega)]
  · rw [Pic.write_unused hlt hregs, if_neg (hlow _ hlt)]
    simp only [List.mem_cons, List.not_mem_nil, or_false, not_or] at hregs
    simp [hregs]

/-! The requests. -/

/-- Line 29 is also the timers' (60_exceptions R819). -/
theorem State.getLsbD_picIn (s : State) {n : Nat} (hn : n < 32) :
    s.picIn.getLsbD n = (s.pic.lines.getLsbD n || (decide (n = 29) && (s.pit1.irq || s.pit2.irq))) := by
  rw [State.picIn, BitVec.getLsbD_or]
  cases s.pit1.irq || s.pit2.irq with
  | false => simp
  | true => rw [if_pos rfl, getLsbD_one_shl 29 hn, Bool.and_true]

/-- An edge-sensitive source asks by its latch, a level-sensitive one by its line, each also where TRIG set it (60_exceptions
R804). -/
theorem State.getLsbD_picReq (s : State) {n : Nat} (hn : n < 32) : s.picReq.getLsbD n = (s.pic.trig.getLsbD n ||
    if (s.pic.ctrlOf n).getLsbD 17 || s.pic.esh.getLsbD n then s.pic.latch.getLsbD n else s.picIn.getLsbD n) := by
  have hedges : s.pic.edges.getLsbD n = ((s.pic.ctrlOf n).getLsbD 17 || s.pic.esh.getLsbD n) := by
    rw [Pic.edges, BitVec.getLsbD_or, Pic.getLsbD_column _ _ hn]
  simp only [State.picReq, BitVec.getLsbD_or, BitVec.getLsbD_and, BitVec.getLsbD_not, hn, decide_true,
    Bool.true_and, ← hedges]
  cases s.pic.edges.getLsbD n <;> simp

theorem State.picSelected_some (h : s.picReq.getLsbD n && (s.pic.ctrlOf n).getLsbD 16) (hn : n < 32)
    (hfirst : ∀ j, j < n → (s.picReq.getLsbD j && (s.pic.ctrlOf j).getLsbD 16) = false) : s.picSelected = some n := by
  rw [State.picSelected, List.find?_range_eq_some]
  refine ⟨?_, List.mem_range.mpr hn, fun j hj => ?_⟩
  · rw [BitVec.getLsbD_and, Pic.getLsbD_column _ _ hn, h]
  · rw [BitVec.getLsbD_and, Pic.getLsbD_column _ _ (by omega), hfirst j hj]
    rfl

theorem State.picSelected_none (h : ∀ j, j < 32 → (s.picReq.getLsbD j && (s.pic.ctrlOf j).getLsbD 16) = false) :
    s.picSelected = none := by
  rw [State.picSelected, List.find?_range_eq_none]
  intro j hj
  rw [BitVec.getLsbD_and, Pic.getLsbD_column _ _ hj, h j hj]
  rfl

/-- What a selected source gives to the core and to the cause register (60_exceptions R802, R804). -/
theorem State.irq_selected (h : s.picSelected = some n) : s.irq =
    if (s.pic.ctrlOf n).extractLsb' 24 6 = s.params.coreno.extractLsb' 0 6
      then ((s.pic.ctrlOf n).extractLsb' 8 3, (s.pic.ctrlOf n).extractLsb' 0 8) else (0, 0) := by
  simp only [State.irq, h]

theorem State.picRead_cause (h : s.picSelected = some n) : s.picRead 0 = s.pic.ctrlOf n &&& 0xFF := by
  simp [State.picRead, h]

/-- Sampling latches the transitions that ESL and ESH select (60_exceptions R804). -/
theorem State.getLsbD_samplePic (s : State) {n : Nat} (hn : n < 32) : s.samplePic.pic.latch.getLsbD n =
    (s.pic.latch.getLsbD n || (s.picIn.getLsbD n && !s.pic.prevIn.getLsbD n && (s.pic.ctrlOf n).getLsbD 17) ||
      (!s.picIn.getLsbD n && s.pic.prevIn.getLsbD n && s.pic.esh.getLsbD n)) := by
  simp only [State.samplePic, Pic.sample, BitVec.getLsbD_or, BitVec.getLsbD_and, BitVec.getLsbD_not, hn, decide_true,
    Bool.true_and, Pic.getLsbD_column _ _ hn]

end

end Sys2Proof.Machine

/-! The timers (60_exceptions R814 to R819). -/

namespace Sys2Proof.Machine

section
variable {c : Params} {p : Pit} {v : BitVec 64} {off : Nat}

/-! Reads. -/

/-- The register of a timer at an offset of its 32 bytes (60_exceptions R814). -/
def Timer.register (k : Nat) (t : Timer) : BitVec 64 :=
  if k = 0 then t.cc else if k = 0x08 then t.pmc else if k = 0x10 then t.pot else t.pctrl.setWidth 64

theorem Pit.read_timer (p : Pit) {n k : Nat} (hn : n < 32) (hlt : n < pitTimers c) (hk : k ∈ [0, 0x08, 0x10, 0x18]) :
    p.read c (32 * n + k) = p.timers[n].register k := by
  simp only [List.mem_cons, List.not_mem_nil, or_false] at hk
  have hdiv : (32 * n + k) / 32 = n := by omega
  have hmod : (32 * n + k) % 32 = k := by omega
  rw [Pit.read, if_pos (by omega), hdiv, hmod, if_pos hlt, Vector.getElem?_eq_getElem hn]
  rcases hk with rfl | rfl | rfl | rfl <;> rfl

/-- Offsets that R814 does not list read zero (log 36). -/
theorem Pit.read_unlisted (h : off < 0x800 ∧ pitTimers c ≤ off / 32 ∨ 0x828 < off ∨ off = 0x808) :
    p.read c off = 0 := by
  rcases h with ⟨hlow, habsent⟩ | hhigh | rfl
  · rw [Pit.read, if_pos hlow, if_neg (by omega)]
  · rw [Pit.read, if_neg (by omega), if_neg (by omega), if_neg (by omega), if_neg (by omega), if_neg (by omega),
      if_neg (by omega)]
  · rfl

/-! Writes. -/

/-- What a write of a timer's register does to that timer (60_exceptions R814, R815). -/
def Timer.written (c : Params) (n k : Nat) (v : BitVec 64) (t : Timer) : Timer :=
  if k = 0x08 then { t with pmc := pitCount c v }
  else if k = 0x10 then { t with pot := pitCount c v }
  else if k = 0x18 then { t with pctrl := timerCtrl n (v.setWidth 5) }
  else t

theorem Pit.write_timer (p : Pit) (v : BitVec 64) {n k : Nat} (hn : n < pitTimers c) (hk : k ∈ [0, 0x08, 0x10, 0x18]) :
    p.write c (32 * n + k) v = { p with timers := modifyAt p.timers n (Timer.written c n k v) } := by
  have h32 : n < 32 := lt_of_lt_of_le hn (Nat.min_le_right _ _)
  have hk32 : k < 32 := by
    simp only [List.mem_cons, List.not_mem_nil, or_false] at hk
    omega
  have hdiv : (32 * n + k) / 32 = n := by omega
  have hmod : (32 * n + k) % 32 = k := by omega
  rw [Pit.write, if_pos (by omega), hdiv, hmod, if_pos hn]
  simp only [List.mem_cons, List.not_mem_nil, or_false] at hk
  rcases hk with rfl | rfl | rfl | rfl
  · have hsame : modifyAt p.timers n (Timer.written c n 0 v) = p.timers := modifyAt_of_fixed fun _ => rfl
    rw [hsame]
    rfl
  · rfl
  · rfl
  · rfl

theorem Pit.write_absent (p : Pit) (v : BitVec 64) (hoff : off < 0x800) (h : pitTimers c ≤ off / 32) :
    p.write c off v = p := by
  rw [Pit.write, if_pos hoff, if_neg (by omega)]

/-- SYNC changes the timers written to it (60_exceptions R816). -/
theorem Pit.syncAll_eq (p : Pit) (v : BitVec 64) : ∃ ts, p.syncAll v = { p with timers := ts } ∧
    ∀ n (hn : n < 32), ts[n] = if v.getLsbD n then p.timers[n].sync else p.timers[n] := by
  have hfold : ∀ m, ∃ ts, (List.range m).foldl
      (fun (q : Pit) n => if v.getLsbD n then { q with timers := modifyAt q.timers n Timer.sync } else q) p =
        { p with timers := ts } ∧
      ∀ n (hn : n < 32), ts[n] = if n < m ∧ v.getLsbD n then p.timers[n].sync else p.timers[n] := fun m => by
    induction m with
    | zero => exact ⟨p.timers, rfl, fun n hn => by simp⟩
    | succ m ih =>
      obtain ⟨ts, hts, hget⟩ := ih
      rw [List.range_succ, List.foldl_append, List.foldl_cons, List.foldl_nil, hts]
      by_cases hv : v.getLsbD m
      · refine ⟨modifyAt ts m Timer.sync, by rw [if_pos hv], fun n hn => ?_⟩
        rw [getElem_modifyAt ts m _ hn, hget n hn]
        by_cases hnm : m = n
        · simp [← hnm, hv]
        · simp [hnm, show n < m + 1 ↔ n < m by omega]
      · refine ⟨ts, by rw [if_neg hv], fun n hn => ?_⟩
        rw [hget n hn]
        by_cases hnm : n = m
        · simp [hnm, hv]
        · simp [show n < m + 1 ↔ n < m by omega]
  obtain ⟨ts, hts, hget⟩ := hfold 32
  exact ⟨ts, hts, fun n hn => by rw [hget n hn]; simp [hn]⟩

/-- LD loads the count and clears itself (60_exceptions R816). -/
theorem Timer.sync_eq (t : Timer) : t.sync = if t.pctrl.getLsbD 0 then
      { t with mc := t.pmc, ot := t.pot, cc := t.pmc, ctrl := t.pctrl &&& 0b11110, pctrl := t.pctrl &&& 0b11110 }
    else { t with mc := t.pmc, ot := t.pot, ctrl := t.pctrl } := rfl

/-- A write of none of the registers above the timers that take writes. -/
theorem Pit.write_unused (p : Pit) (v : BitVec 64) (hoff : 0x800 ≤ off)
    (hregs : off ∉ [0x800, 0x808, 0x810, 0x818, 0x828, 0x830, 0x838]) : p.write c off v = p := by
  simp only [List.mem_cons, List.not_mem_nil, or_false, not_or] at hregs
  simp only [Pit.write, hregs, if_false, if_neg (Nat.not_lt_of_le hoff)]

/-- Every offset of a timer component is one of these. -/
theorem Pit.offset_cases (h : off % 8 = 0) {P : Nat → Prop}
    (htimer : ∀ n k, n < pitTimers c → k ∈ [0, 0x08, 0x10, 0x18] → P (32 * n + k))
    (habsent : ∀ off, off < 0x800 → pitTimers c ≤ off / 32 → P off) (h800 : P 0x800) (h808 : P 0x808) (h810 : P 0x810)
    (h818 : P 0x818) (h828 : P 0x828) (h830 : P 0x830) (h838 : P 0x838)
    (hunused : ∀ off, 0x800 ≤ off → off ∉ [0x800, 0x808, 0x810, 0x818, 0x828, 0x830, 0x838] → P off) : P off := by
  by_cases hlow : off < 0x800
  · by_cases hn : off / 32 < pitTimers c
    · have hk : off % 32 ∈ [0, 0x08, 0x10, 0x18] := by
        simp only [List.mem_cons, List.not_mem_nil, or_false]
        omega
      rw [← Nat.div_add_mod off 32]
      exact htimer _ _ hn hk
    · exact habsent off hlow (by omega)
  · by_cases hregs : off ∈ [0x800, 0x808, 0x810, 0x818, 0x828, 0x830, 0x838]
    · simp only [List.mem_cons, List.not_mem_nil, or_false] at hregs
      rcases hregs with rfl | rfl | rfl | rfl | rfl | rfl | rfl <;> assumption
    · exact hunused off (by omega) hregs

/-- What a write leaves of the registers that the timers share (60_exceptions R814, R819). -/
def Pit.SharedWritten (c : Params) (p : Pit) (v : BitVec 64) (off : Nat) : Prop :=
  (p.write c off v).ustat = (if off = 0x800 then p.ustat &&& ~~~v else p.ustat) ∧
  (p.write c off v).ie = (if off = 0x810 then pitMask c v else p.ie) ∧
  (p.write c off v).tmp = (if off = 0x818 then v else p.tmp) ∧ (p.write c off v).extGate = p.extGate ∧
  (p.write c off v).gate = (if off = 0x828 then pitMask c v else if off = 0x830 then p.gate ||| pitMask c v
    else if off = 0x838 then p.gate &&& ~~~v else p.gate)

/-- A write that goes to timers only. -/
theorem Pit.sharedWritten_of_timers (h : ∃ ts, p.write c off v = { p with timers := ts })
    (hregs : off ∉ [0x800, 0x810, 0x818, 0x828, 0x830, 0x838]) : p.SharedWritten c v off := by
  obtain ⟨ts, hts⟩ := h
  simp only [List.mem_cons, List.not_mem_nil, or_false, not_or] at hregs
  simp [Pit.SharedWritten, hts, hregs]

theorem Pit.sharedWritten (c : Params) (p : Pit) (v : BitVec 64) (hoff : off % 8 = 0) : p.SharedWritten c v off := by
  refine Pit.offset_cases (c := c) hoff (P := p.SharedWritten c v) (fun n k hn hk => ?_) (fun off hlow habsent => ?_)
    ?_ ?_ ?_ ?_ ?_ ?_ ?_ (fun off hhigh hregs => ?_)
  · have h32 : n < 32 := lt_of_lt_of_le hn (Nat.min_le_right _ _)
    refine sharedWritten_of_timers ⟨_, p.write_timer v hn hk⟩ ?_
    simp only [List.mem_cons, List.not_mem_nil, or_false] at hk ⊢
    omega
  · refine sharedWritten_of_timers ⟨p.timers, p.write_absent v hlow habsent⟩ ?_
    simp only [List.mem_cons, List.not_mem_nil, or_false]
    omega
  · exact ⟨rfl, rfl, rfl, rfl, rfl⟩
  · obtain ⟨ts, hts, -⟩ := p.syncAll_eq (pitMask c v)
    exact sharedWritten_of_timers ⟨ts, hts⟩ (by decide)
  · exact ⟨rfl, rfl, rfl, rfl, rfl⟩
  · exact ⟨rfl, rfl, rfl, rfl, rfl⟩
  · exact ⟨rfl, rfl, rfl, rfl, rfl⟩
  · exact ⟨rfl, rfl, rfl, rfl, rfl⟩
  · exact ⟨rfl, rfl, rfl, rfl, rfl⟩
  · refine sharedWritten_of_timers ⟨p.timers, p.write_unused v hhigh hregs⟩ ?_
    simp only [List.mem_cons, List.not_mem_nil, or_false, not_or] at hregs ⊢
    simp only [hregs, not_false_eq_true, and_self]

/-- What a write leaves of a timer (60_exceptions R814 to R816). -/
def Pit.TimerWritten (c : Params) (p : Pit) (v : BitVec 64) (n : Fin 32) (off : Nat) : Prop :=
  (p.write c off v).timers[n.val] =
    if pitTimers c ≤ n.val then p.timers[n.val]
    else if off = 32 * n.val + 0x08 then { p.timers[n.val] with pmc := pitCount c v }
    else if off = 32 * n.val + 0x10 then { p.timers[n.val] with pot := pitCount c v }
    else if off = 32 * n.val + 0x18 then { p.timers[n.val] with pctrl := timerCtrl n.val (v.setWidth 5) }
    else if off = 0x808 ∧ v.getLsbD n.val = true then p.timers[n.val].sync
    else p.timers[n.val]

/-- A write that goes to no register of a timer. -/
theorem Pit.timerWritten_of_same {n : Fin 32} (h : (p.write c off v).timers[n.val] = p.timers[n.val])
    (hoff : n.val < pitTimers c → off / 32 ≠ n.val) (hsync : off ≠ 0x808) : p.TimerWritten c v n off := by
  rw [Pit.TimerWritten, h]
  by_cases hn : pitTimers c ≤ n.val
  · rw [if_pos hn]
  · have hne := hoff (Nat.lt_of_not_le hn)
    rw [if_neg hn, if_neg (by omega), if_neg (by omega), if_neg (by omega), if_neg fun h => hsync h.1]

/-- The bits of SYNC are those of the timers there are (60_exceptions R813). -/
theorem getLsbD_pitMask (c : Params) (v : BitVec 64) {n : Nat} (hn : n < 32) :
    (pitMask c v).getLsbD n = (v.getLsbD n && decide (n < pitTimers c)) := by
  rw [pitMask, BitVec.getLsbD_and, BitVec.getLsbD_ofNat, Nat.testBit_two_pow_sub_one, decide_eq_true (by omega : n < 64),
    Bool.true_and]

theorem Pit.timerWritten (c : Params) (p : Pit) (v : BitVec 64) (n : Fin 32) (hoff : off % 8 = 0) :
    p.TimerWritten c v n off := by
  have hn := n.isLt
  refine Pit.offset_cases (c := c) hoff (P := p.TimerWritten c v n) (fun m k hm hk => ?_) (fun off hlow habsent => ?_)
    ?_ ?_ ?_ ?_ ?_ ?_ ?_ (fun off hhigh hregs => ?_)
  · have hwrite := p.write_timer v hm hk
    have hm32 : m < 32 := lt_of_lt_of_le hm (Nat.min_le_right _ _)
    have hk32 : k < 32 := by
      simp only [List.mem_cons, List.not_mem_nil, or_false] at hk
      omega
    by_cases hnm : m = n.val
    · subst hnm
      have hne : 32 * n.val + k ≠ 0x808 := by omega
      rw [Pit.TimerWritten, hwrite, getElem_modifyAt _ _ _ hn, if_pos rfl, if_neg (by omega)]
      simp only [Timer.written, Nat.add_left_cancel_iff, hne, false_and, if_false]
    · refine timerWritten_of_same ?_ (fun _ => by omega) (by omega)
      rw [hwrite, getElem_modifyAt _ _ _ hn, if_neg hnm]
  · exact timerWritten_of_same (by rw [p.write_absent v hlow habsent]) (fun _ => by omega) (by omega)
  · exact timerWritten_of_same rfl (fun _ => by omega) (by decide)
  · obtain ⟨ts, hts, hget⟩ := p.syncAll_eq (pitMask c v)
    have hwrite : (p.write c 0x808 v).timers = ts := congrArg Pit.timers hts
    rw [Pit.TimerWritten, hwrite, hget n.val hn, getLsbD_pitMask c v hn, if_neg (by omega : ¬ 0x808 = 32 * n.val + 0x08),
      if_neg (by omega : ¬ 0x808 = 32 * n.val + 0x10), if_neg (by omega : ¬ 0x808 = 32 * n.val + 0x18)]
    by_cases hlt : n.val < pitTimers c <;> simp [hlt]
  · exact timerWritten_of_same rfl (fun _ => by omega) (by decide)
  · exact timerWritten_of_same rfl (fun _ => by omega) (by decide)
  · exact timerWritten_of_same rfl (fun _ => by omega) (by decide)
  · exact timerWritten_of_same rfl (fun _ => by omega) (by decide)
  · exact timerWritten_of_same rfl (fun _ => by omega) (by decide)
  · refine timerWritten_of_same (by rw [p.write_unused v hhigh hregs]) (fun _ => by omega) ?_
    simp only [List.mem_cons, List.not_mem_nil, or_false, not_or] at hregs
    exact hregs.2.1

end

section
variable {c : Params} {p : Pit}

/-! Count events. -/

/-- A timer counts: it is enabled and not gated off, neither by GATE nor, with GE, from outside (60_exceptions R817). -/
def Timer.counts (gate ext : Bool) (t : Timer) : Bool := t.ctrl.getLsbD 1 && gate && (!t.ctrl.getLsbD 4 || ext)

theorem Timer.counts_iff {gate ext : Bool} {t : Timer} : t.counts gate ext = true ↔
    t.ctrl.getLsbD 1 = true ∧ gate = true ∧ (t.ctrl.getLsbD 4 = true → ext = true) := by
  simp only [Timer.counts, Bool.and_eq_true, and_assoc]
  cases t.ctrl.getLsbD 4 <;> simp

/-- A timer after a count event, and whether the event is an underflow (60_exceptions R817). -/
def Timer.counted (gate ext : Bool) (t : Timer) : Timer :=
  if t.counts gate ext then
    if t.cc ≠ 0 then { t with cc := t.cc - 1 }
    else if t.ctrl.getLsbD 2 then { t with cc := t.mc } else { t with ctrl := t.ctrl &&& 0b11101 }
  else t

def Timer.underflows (gate ext : Bool) (t : Timer) : Bool := t.counts gate ext && decide (t.cc = 0)

theorem Timer.counted_idle {gate ext : Bool} {t : Timer} (h : t.counts gate ext = false) :
    t.counted gate ext = t ∧ t.underflows gate ext = false := by
  simp [Timer.counted, Timer.underflows, h]

theorem Timer.counted_above_zero {gate ext : Bool} {t : Timer} (h : t.counts gate ext = true) (hcc : t.cc ≠ 0) :
    t.counted gate ext = { t with cc := t.cc - 1 } ∧ t.underflows gate ext = false := by
  rw [Timer.counted, Timer.underflows, if_pos h, if_pos hcc, decide_eq_false hcc, Bool.and_false]
  exact ⟨rfl, rfl⟩

theorem Timer.counted_zero {gate ext : Bool} {t : Timer} (h : t.counts gate ext = true) (hcc : t.cc = 0) :
    t.counted gate ext = (if t.ctrl.getLsbD 2 then { t with cc := t.mc } else { t with ctrl := t.ctrl &&& 0b11101 }) ∧
      t.underflows gate ext = true := by
  rw [Timer.counted, Timer.underflows, if_pos h, if_neg (not_not_intro hcc), decide_eq_true hcc, h]
  exact ⟨rfl, rfl⟩

/-- A count event of a timer, by what it does to the timer and to the underflows. -/
theorem Pit.count_eq (p : Pit) {n : Nat} (hn : n < 32) : p.count n = { p with
    ustat := if p.timers[n].underflows (p.gate.getLsbD n) (p.extGate.getLsbD n) then p.ustat ||| 1#64 <<< n else p.ustat
    timers := modifyAt p.timers n (Timer.counted (p.gate.getLsbD n) (p.extGate.getLsbD n)) } := by
  simp only [Pit.count, Vector.getElem?_eq_getElem hn]
  change (if p.timers[n].counts (p.gate.getLsbD n) (p.extGate.getLsbD n) then _ else p) = _
  by_cases hcounts : p.timers[n].counts (p.gate.getLsbD n) (p.extGate.getLsbD n)
  · rw [if_pos hcounts]
    by_cases hcc : p.timers[n].cc = 0
    · obtain ⟨hcounted, hunder⟩ := Timer.counted_zero hcounts hcc
      rw [if_neg (not_not_intro hcc), if_pos hunder, modifyAt_congr fun _ => hcounted.symm]
    · obtain ⟨hcounted, hunder⟩ := Timer.counted_above_zero hcounts hcc
      rw [if_pos hcc, hunder, modifyAt_congr fun _ => hcounted.symm]
      rfl
  · obtain ⟨hcounted, hunder⟩ := Timer.counted_idle (Bool.eq_false_iff.mpr hcounts)
    rw [if_neg hcounts, hunder, modifyAt_of_fixed fun _ => hcounted]
    rfl

theorem Pit.count_timer (p : Pit) {n j : Nat} (hn : n < 32) (hj : j < 32) : (p.count n).timers[j] =
    if n = j then p.timers[j].counted (p.gate.getLsbD j) (p.extGate.getLsbD j) else p.timers[j] := by
  simp only [p.count_eq hn, getElem_modifyAt _ _ _ hj]
  by_cases hnj : n = j
  · subst hnj
    rfl
  · rw [if_neg hnj, if_neg hnj]

theorem Pit.count_ustat (p : Pit) {n j : Nat} (hn : n < 32) (hj : j < 64) : (p.count n).ustat.getLsbD j =
    (p.ustat.getLsbD j || (decide (j = n) && p.timers[n].underflows (p.gate.getLsbD n) (p.extGate.getLsbD n))) := by
  simp only [p.count_eq hn]
  cases p.timers[n].underflows (p.gate.getLsbD n) (p.extGate.getLsbD n) with
  | false => simp
  | true => rw [if_pos rfl, getLsbD_or_one _ _ hj, Bool.and_true]

/-- A timer that does not count is left alone with all else. -/
theorem Pit.count_idle (p : Pit) {n : Nat} (hn : n < 32)
    (h : p.timers[n].counts (p.gate.getLsbD n) (p.extGate.getLsbD n) = false) : p.count n = p := by
  obtain ⟨hcounted, hunder⟩ := Timer.counted_idle h
  rw [p.count_eq hn, hunder, modifyAt_of_fixed fun _ => hcounted]
  rfl

/-- A count event changes timers and underflows only. -/
theorem Pit.count_frame (p : Pit) {n : Nat} (hn : n < 32) :
    p.count n = { p with ustat := (p.count n).ustat, timers := (p.count n).timers } := by
  rw [p.count_eq hn]

/-- Whether a timer is clocked from outside (60_exceptions R815). -/
theorem Pit.external_eq (p : Pit) {n : Nat} (hn : n < 32) : p.external n = p.timers[n].ctrl.getLsbD 3 := by
  simp only [Pit.external, Vector.getElem?_eq_getElem hn]

/-- A timer after a cycle of the clock, and whether it underflows then: as at a count event, where it is not clocked from
outside (60_exceptions R815, R817). -/
def Timer.clocked (gate ext : Bool) (t : Timer) : Timer := if t.ctrl.getLsbD 3 then t else t.counted gate ext

def Timer.clockUnderflows (gate ext : Bool) (t : Timer) : Bool := !t.ctrl.getLsbD 3 && t.underflows gate ext

/-- One timer's part of a cycle of the clock. -/
theorem Pit.clock_one (p : Pit) {m : Nat} (hm : m < 32) : ∃ ts us,
    (if p.external m then p else p.count m) = { p with timers := ts, ustat := us } ∧
    (∀ n (hn : n < 32), ts[n] =
      if n = m then p.timers[n].clocked (p.gate.getLsbD n) (p.extGate.getLsbD n) else p.timers[n]) ∧
    ∀ j, j < 64 → us.getLsbD j =
      (p.ustat.getLsbD j || (decide (j = m) && p.timers[m].clockUnderflows (p.gate.getLsbD m) (p.extGate.getLsbD m))) := by
  rw [Pit.external_eq p hm]
  by_cases hext : p.timers[m].ctrl.getLsbD 3
  · refine ⟨p.timers, p.ustat, if_pos hext, fun n hn => ?_, fun j hj => ?_⟩
    · by_cases hnm : n = m
      · subst hnm
        rw [if_pos rfl, Timer.clocked, if_pos hext]
      · rw [if_neg hnm]
    · rw [Timer.clockUnderflows, hext, Bool.not_true, Bool.false_and, Bool.and_false, Bool.or_false]
  · refine ⟨_, _, (if_neg hext).trans (p.count_frame hm), fun n hn => ?_, fun j hj => ?_⟩
    · rw [Pit.count_timer _ hm hn]
      by_cases hnm : n = m
      · subst hnm
        rw [if_pos rfl, if_pos rfl, Timer.clocked, if_neg hext]
      · rw [if_neg hnm, if_neg (Ne.symm hnm)]
    · rw [Pit.count_ustat _ hm hj, Timer.clockUnderflows, Bool.eq_false_iff.mpr hext, Bool.not_false, Bool.true_and]

/-- A cycle of the clock is one of each timer there is (60_exceptions R817). -/
theorem Pit.clock_eq (c : Params) (p : Pit) : ∃ ts us, p.clock c = { p with timers := ts, ustat := us } ∧
    (∀ n (hn : n < 32), ts[n] =
      if n < pitTimers c then p.timers[n].clocked (p.gate.getLsbD n) (p.extGate.getLsbD n) else p.timers[n]) ∧
    (∀ n (hn : n < 32), us.getLsbD n = (p.ustat.getLsbD n ||
      (decide (n < pitTimers c) && p.timers[n].clockUnderflows (p.gate.getLsbD n) (p.extGate.getLsbD n)))) ∧
    ∀ j, 32 ≤ j → j < 64 → us.getLsbD j = p.ustat.getLsbD j := by
  have hle : pitTimers c ≤ 32 := Nat.min_le_right _ _
  rw [Pit.clock]
  generalize pitTimers c = m at hle ⊢
  induction m with
  | zero => exact ⟨p.timers, p.ustat, rfl, fun n hn => by simp, fun n hn => by simp, fun _ _ _ => rfl⟩
  | succ m ih =>
    obtain ⟨ts, us, hq, hts, hus, hhigh⟩ := ih (by omega)
    have hm : m < 32 := by omega
    have hcur : ts[m] = p.timers[m] := by rw [hts m hm, if_neg (Nat.lt_irrefl m)]
    obtain ⟨ts', us', hstep, hts', hus'⟩ := Pit.clock_one { p with timers := ts, ustat := us } hm
    refine ⟨ts', us', ?_, fun n hn => ?_, fun n hn => ?_, fun j hj hj64 => ?_⟩
    · rw [List.range_succ, List.foldl_append, List.foldl_cons, List.foldl_nil, hq, hstep]
    · rw [hts' n hn]
      by_cases hnm : n = m
      · subst hnm
        simp only [hcur, Nat.lt_succ_self, if_true]
      · simp only [hnm, if_false, hts n hn, show n < m + 1 ↔ n < m by omega]
    · rw [hus' n (by omega)]
      by_cases hnm : n = m
      · subst hnm
        simp only [hcur, hus n hn, Nat.lt_irrefl, Nat.lt_succ_self, decide_true, decide_false, Bool.true_and, Bool.false_and,
          Bool.or_false]
      · simp only [hnm, hus n hn, decide_false, Bool.false_and, Bool.or_false, show n < m + 1 ↔ n < m by omega]
    · rw [hus' j hj64, decide_eq_false (by omega : j ≠ m), Bool.false_and, Bool.or_false]
      exact hhigh j hj hj64

theorem Pit.clock_counted {n : Nat} (hn : n < 32) (h : n < pitTimers c ∧ p.timers[n].ctrl.getLsbD 3 = false) :
    (p.clock c).timers[n] = (p.count n).timers[n] ∧ (p.clock c).ustat.getLsbD n = (p.count n).ustat.getLsbD n := by
  obtain ⟨ts, us, hclock, hts, hus, -⟩ := p.clock_eq c
  obtain ⟨hlt, hext⟩ := h
  simp only [hclock]
  constructor
  · rw [hts n hn, if_pos hlt, p.count_timer hn hn, if_pos rfl, Timer.clocked, if_neg (Bool.eq_false_iff.mp hext)]
  · rw [hus n hn, p.count_ustat hn (by omega), decide_eq_true hlt, decide_eq_true rfl, Timer.clockUnderflows, hext,
      Bool.not_false, Bool.true_and]

theorem Pit.clock_uncounted {n : Nat} (hn : n < 32) (h : ¬ (n < pitTimers c ∧ p.timers[n].ctrl.getLsbD 3 = false)) :
    (p.clock c).timers[n] = p.timers[n] ∧ (p.clock c).ustat.getLsbD n = p.ustat.getLsbD n := by
  obtain ⟨ts, us, hclock, hts, hus, -⟩ := p.clock_eq c
  simp only [hclock, hts n hn, hus n hn]
  by_cases hlt : n < pitTimers c
  · have hext : p.timers[n].ctrl.getLsbD 3 = true := Bool.of_not_eq_false fun hext => h ⟨hlt, hext⟩
    rw [if_pos hlt, Timer.clocked, if_pos hext, Timer.clockUnderflows, hext, Bool.not_true, Bool.false_and, Bool.and_false,
      Bool.or_false]
    exact ⟨rfl, rfl⟩
  · rw [if_neg hlt, decide_eq_false hlt, Bool.false_and, Bool.or_false]
    exact ⟨rfl, rfl⟩

end

end Sys2Proof.Machine

/-! The obligations about the interrupt controller, the timers and their output. -/

namespace Sys2Proof.Machine

/-- Settles O52: each clause by what the function it speaks of does to a source, a register or a timer. -/
theorem interruptControllerAndTimers : Obligations.InterruptControllerAndTimers := by
  refine ⟨fun s n hn => ?_, fun p off v hoff _ => ?_, fun c p off v hoff => ?_, fun p n hn => ?_⟩
  · intro line ctrl edge asks active
    have hactive : ∀ j, j < 32 → (s.picReq.getLsbD j && (s.pic.ctrlOf j).getLsbD 16) = active j := fun j hj => by
      rw [s.getLsbD_picReq hj, s.getLsbD_picIn hj]
    have hline : s.picIn.getLsbD n = line n := s.getLsbD_picIn hn
    refine ⟨fun hn' hfirst => ?_, fun hnone => ?_, ?_, hline, ?_, ?_, fun off hlow hhigh => ?_⟩
    · have hsel : s.picSelected = some n := State.picSelected_some ((hactive n hn).trans hn') hn fun j hj =>
        (hactive j (by omega)).trans (hfirst j hj)
      exact ⟨hsel, State.picRead_cause hsel, State.irq_selected hsel⟩
    · have hsel : s.picSelected = none := State.picSelected_none fun j hj => (hactive j hj).trans (hnone j hj)
      exact ⟨hsel, by simp [State.picRead, hsel], by simp [State.irq, hsel]⟩
    · rw [s.getLsbD_samplePic hn, hline]
    · exact Pic.getLsbD_column s.pic 16 hn
    · have hi : (0x80 + 4 * n - 0x80) / 4 = n := by omega
      rw [State.picRead, if_neg (by omega), if_neg (by omega), if_pos (by omega), hi]
    · rw [State.picRead, if_neg (by omega), if_neg (by omega), if_neg (by omega)]
  · obtain ⟨hlines, hprev, hesh, hlatch, htrig⟩ := p.masksWritten v hoff
    exact ⟨hlines, hprev, hesh, hlatch, htrig, fun n b hn hb => p.ctrlWritten v hn hb hoff⟩
  · obtain ⟨hustat, hie, htmp, hext, hgate⟩ := p.sharedWritten c v hoff
    have hread : ∀ n : Fin 32, n.val < pitTimers c → ∀ k, k ∈ [0, 0x08, 0x10, 0x18] →
        p.read c (32 * n.val + k) = p.timers[n.val].register k := fun n hn k hk => p.read_timer n.isLt hn hk
    exact ⟨fun n hn => ⟨hread n hn 0 (by decide), hread n hn 0x08 (by decide), hread n hn 0x10 (by decide),
      hread n hn 0x18 (by decide)⟩, rfl, rfl, rfl, rfl, Pit.read_unlisted, hustat, hie, htmp, hext, hgate,
      fun n => p.timerWritten c v n hoff⟩
  · intro t counts q
    have hcounts : t.counts (p.gate.getLsbD n) (p.extGate.getLsbD n) = true ↔ counts := Timer.counts_iff
    have htimer : q.timers[n] = t.counted (p.gate.getLsbD n) (p.extGate.getLsbD n) :=
      (p.count_timer hn hn).trans (if_pos rfl)
    have hustat : ∀ j, j < 64 → q.ustat.getLsbD j = (p.ustat.getLsbD j ||
        (decide (j = n) && t.underflows (p.gate.getLsbD n) (p.extGate.getLsbD n))) := fun j hj => p.count_ustat hn hj
    have hframe : q = { p with ustat := q.ustat, timers := q.timers } := p.count_frame hn
    refine ⟨fun hnot => ?_, fun hyes hcc => ?_, fun hyes hcc => ?_, fun j hj => ?_,
      by rw [hframe], by rw [hframe], by rw [hframe], by rw [hframe], ?_, fun c => ?_⟩
    · exact p.count_idle hn (Bool.eq_false_iff.mpr fun h => hnot (hcounts.mp h))
    · obtain ⟨hcounted, hunder⟩ := Timer.counted_above_zero (hcounts.mpr hyes) hcc
      refine ⟨htimer.trans hcounted, BitVec.eq_of_getLsbD_eq fun j hj => ?_⟩
      rw [hustat j hj, hunder, Bool.and_false, Bool.or_false]
    · obtain ⟨hcounted, hunder⟩ := Timer.counted_zero (hcounts.mpr hyes) hcc
      refine ⟨fun j hj => ?_, htimer.trans hcounted⟩
      rw [hustat j hj, hunder, Bool.and_true]
    · exact (p.count_timer hn j.isLt).trans (if_neg (Ne.symm hj))
    · rw [Pit.edge, p.external_eq hn]
    · intro u counted
      obtain ⟨ts, us, hu, -, -, hhigh⟩ := p.clock_eq c
      have hclock : u = { p with timers := ts, ustat := us } := hu
      refine ⟨?_, ?_, fun j hj => ?_, by rw [hclock], by rw [hclock], by rw [hclock], by rw [hclock]⟩
      · split
        · next hyes => exact (Pit.clock_counted hn hyes).1
        · next hno => exact (Pit.clock_uncounted hn hno).1
      · split
        · next hyes => exact (Pit.clock_counted hn hyes).2
        · next hno => exact (Pit.clock_uncounted hn hno).2
      · rw [hclock]
        by_cases hj64 : j < 64
        · exact hhigh j hj hj64
        · rw [BitVec.getLsbD_of_ge _ _ (by omega), BitVec.getLsbD_of_ge _ _ (by omega)]

/-! The output. -/

/-- The output of a timer is high (60_exceptions R818). -/
def Timer.high (t : Timer) : Bool := decide (0 < t.cc.toNat ∧ t.cc.toNat ≤ t.ot.toNat)

theorem Timer.high_iff (t : Timer) : t.high = true ↔ t.cc ≠ 0 ∧ t.cc ≤ t.ot := by
  have hzero : t.cc = 0 ↔ t.cc.toNat = 0 := BitVec.toNat_inj.symm
  rw [Timer.high, decide_eq_true_iff, Nat.pos_iff_ne_zero, BitVec.le_def, Ne, Ne, hzero]

theorem Pit.ostat_eq (p : Pit) : p.ostat =
    (List.range 32).foldl (fun acc n => if (p.timers[n]?).any Timer.high then acc ||| (1#64 <<< n) else acc) 0 := by
  refine List.foldl_ext _ _ _ fun acc n hn => ?_
  rw [Vector.getElem?_eq_getElem (List.mem_range.mp hn), Option.any_some]
  simp only [Timer.high_iff]

theorem Pit.getLsbD_ostat (p : Pit) {n : Nat} (hn : n < 32) : p.ostat.getLsbD n = p.timers[n].high := by
  rw [Pit.ostat_eq, getLsbD_foldl_or (fun n => (p.timers[n]?).any Timer.high) 32 (by omega), decide_eq_true hn,
    Vector.getElem?_eq_getElem hn, Option.any_some, Bool.true_and]

theorem Pit.getLsbD_ostat_high (p : Pit) {n : Nat} (hn : 32 ≤ n) : p.ostat.getLsbD n = false := by
  by_cases h64 : n < 64
  · rw [Pit.ostat_eq, getLsbD_foldl_or (fun n => (p.timers[n]?).any Timer.high) 32 h64, decide_eq_false (by omega),
      Bool.false_and]
  · exact BitVec.getLsbD_of_ge _ _ (by omega)

theorem toNat_sub_ofNat {v : BitVec 64} {k : Nat} (h : k ≤ v.toNat) : (v - .ofNat 64 k).toNat = v.toNat - k := by
  have hk : (BitVec.ofNat 64 k).toNat = k := by
    rw [BitVec.toNat_ofNat]
    exact Nat.mod_eq_of_lt (lt_of_le_of_lt h v.isLt)
  rw [BitVec.toNat_sub_of_le (BitVec.le_def.mpr (hk.symm ▸ h)), hk]

/-- A timer that counts from its maximum on has gone down by the number of the events (60_exceptions R817). -/
theorem Pit.count_down (p : Pit) {n : Nat} (hn : n < 32) {k : Nat} (hk : k ≤ p.timers[n].cc.toNat)
    (hcounts : p.timers[n].counts (p.gate.getLsbD n) (p.extGate.getLsbD n) = true) :
    ∃ q : Pit, (List.range k).foldl (fun (q : Pit) (_ : Nat) => q.count n) p = q ∧
      q.gate = p.gate ∧ q.extGate = p.extGate ∧ q.timers[n] = { p.timers[n] with cc := p.timers[n].cc - .ofNat 64 k } := by
  induction k with
  | zero => exact ⟨p, rfl, rfl, rfl, by simp⟩
  | succ k ih =>
    obtain ⟨q, hq, hgate, hext, htimer⟩ := ih (by omega)
    refine ⟨q.count n, ?_, ?_, ?_, ?_⟩
    · rw [List.range_succ, List.foldl_append, List.foldl_cons, List.foldl_nil, hq]
    · rw [q.count_frame hn, hgate]
    · rw [q.count_frame hn, hext]
    · have hcounts' : q.timers[n].counts (q.gate.getLsbD n) (q.extGate.getLsbD n) = true := by
        rw [hgate, hext, htimer]
        exact hcounts
      have hcc : q.timers[n].cc ≠ 0 := fun h => by
        have hzero : (p.timers[n].cc - .ofNat 64 k).toNat = 0 := by
          rw [htimer] at h
          exact congrArg BitVec.toNat h
        rw [toNat_sub_ofNat (by omega)] at hzero
        omega
      rw [q.count_timer hn hn, if_pos rfl, (Timer.counted_above_zero hcounts' hcc).1, htimer]
      simp only [Timer.mk.injEq, and_self, and_true]
      bv_omega

/-- Settles O53: the count, `k` events on, is the maximum less `k`. -/
theorem timerOutputStatus : Obligations.TimerOutputStatus := by
  intro c p v
  have hread : ∀ (q : Pit) (n : Fin 32), (q.read c 0x820).getLsbD n = q.timers[n.val].high := fun q n =>
    q.getLsbD_ostat n.isLt
  refine ⟨fun n => ?_, fun n hn => p.getLsbD_ostat_high hn, rfl, fun n k => ?_⟩
  · rw [hread, Timer.high, decide_eq_true_iff]
  · intro t q hcc hot hk hce hgate hge
    have hcounts : t.counts (p.gate.getLsbD n) (p.extGate.getLsbD n) = true :=
      Timer.counts_iff.mpr ⟨hce, hgate, fun h => absurd h (Bool.eq_false_iff.mp hge)⟩
    obtain ⟨q', hq, -, -, htimer⟩ := p.count_down n.isLt (k := k) (by rw [hcc]; exact hk) hcounts
    have htoNat : (t.cc - .ofNat 64 k).toNat = t.mc.toNat - k := hcc ▸ toNat_sub_ofNat (hcc ▸ hk)
    have hqt : q.timers[n.val] = { t with cc := t.cc - .ofNat 64 k } := by
      rw [← htimer, ← hq]
    rw [hread, hqt, Timer.high, decide_eq_true_iff, htoNat]
    dsimp only
    omega

end Sys2Proof.Machine
